-- ==== Sys2Proof/Word.lean ====
section
/-! DEFINITION. The words the manual speaks of: bytes, two-byte and four-byte fields, and the 24-bit area sets. -/

namespace Sys2Proof

/-- A byte of a frame, of a table entry, or a level 0–255 (00_scope, Conventions). -/
abbrev Byte := BitVec 8

/-- A two-byte field, sent high byte first (R165, note 1 of 9.1). -/
abbrev Word16 := BitVec 16

/-- A four-byte field, sent high byte first (R165, note 1 of 9.1). -/
abbrev Word32 := BitVec 32

/-- A set of areas 0–23 as the manual lays it out: area a is a member when bit a is 1 (6.1, Row layout). -/
abbrev AreaSet := BitVec 24

/-- One area, 0–23 (R15). -/
abbrev AreaId := Fin 24

/-- One house channel, 0–95 (R15). -/
abbrev ChannelId := Fin 96

/-- One fire zone, 0–65: 64 is CURTAIN, 65 is PANEL-LINE (R99). -/
abbrev ZoneId := Fin 66

/-- One entry of the call table, 0–9 (R142). -/
abbrev EntryId := Fin 10

/-- One stored program, 0–15 (R139). -/
abbrev ProgramId := Fin 16

end Sys2Proof
end

