-- ==== Sys2Proof/Machine/Bytes.lean ====
section
/-! DEFINITION. Byte order of multi-byte fields (high byte first), the members of an area set, the cyclic code of
R166, and the units of time in ticks of 10 µs. -/

namespace Sys2Proof.Machine

/-- The low byte of a number. -/
def byteOf (n : Nat) : Byte := BitVec.ofNat 8 n

/-- A byte that saturates at 255 (R167, 11.2 note 3). -/
def byteSat (n : Nat) : Byte := byteOf (min n 255)

/-- Two bytes, high byte first (9.1 note 1). -/
def word16 (hi lo : Byte) : Word16 := hi ++ lo

/-- The two bytes of a 16-bit field, high byte first. -/
def bytes16 (w : Word16) : List Byte := [w.extractLsb' 8 8, w.extractLsb' 0 8]

/-- The two bytes of a number's low 16 bits, high byte first. -/
def nat16 (n : Nat) : List Byte := bytes16 (BitVec.ofNat 16 n)

/-- Three bytes as an area set, high byte first (6.1, Row layout). -/
def word24 (a b c : Byte) : AreaSet := a ++ b ++ c

/-- The three bytes of an area set, high byte first. -/
def bytes24 (w : AreaSet) : List Byte := [w.extractLsb' 16 8, w.extractLsb' 8 8, w.extractLsb' 0 8]

/-- Four bytes, high byte first. -/
def word32 (a b c d : Byte) : Word32 := a ++ b ++ c ++ d

/-- The four bytes of a 32-bit field, high byte first. -/
def bytes32 (w : Word32) : List Byte :=
  [w.extractLsb' 24 8, w.extractLsb' 16 8, w.extractLsb' 8 8, w.extractLsb' 0 8]

/-- A yes/no mark as a byte. -/
def boolByte (b : Bool) : Byte := if b then 1 else 0

/-- Byte i of a run, 0 where the run is shorter. -/
def byteAt (bs : List Byte) (i : Nat) : Byte := bs.getD i 0

/-- Whether an area is a member of a set: bit a is 1. -/
def hasArea (s : AreaSet) (a : AreaId) : Bool := s.getLsbD a.val

/-- The set holding one area. -/
def oneArea (a : AreaId) : AreaSet := BitVec.ofNat 24 (2 ^ a.val)

/-- The members of a set in ascending area order. -/
def areasOf (s : AreaSet) : List AreaId := (List.finRange 24).filter (hasArea s)

/-- A set without one area. -/
def dropArea (s : AreaSet) (a : AreaId) : AreaSet := s &&& ~~~ (oneArea a)

/-- One bit of the cyclic code of R166: shift toward the high end, and combine with 0x1021 when the bit shifted out
differs from the data bit. -/
def crcBit (r : Word16) (b : Bool) : Word16 :=
  if r.msb != b then (r <<< 1) ^^^ 0x1021#16 else r <<< 1

/-- One byte of the cyclic code, highest bit first (R166). -/
def crcByte (r : Word16) (b : Byte) : Word16 :=
  [7, 6, 5, 4, 3, 2, 1, 0].foldl (fun r i => crcBit r (b.getLsbD i)) r

/-- The cyclic code continued over bytes from a register value. -/
def crcFrom (r : Word16) (bs : List Byte) : Word16 := bs.foldl crcByte r

/-- The check of R166: generator 0x1021, register starting at 0xFFFF, no final inversion. -/
def crc (bs : List Byte) : Word16 := crcFrom 0xFFFF#16 bs

/-- A function applied to every element. -/
def mapVec {α β : Type} {n : Nat} (f : α → β) (v : Vector α n) : Vector β n := ⟨⟨v.toList.map f⟩, by simp⟩

/-- The vector of a function's values. -/
def tabulate {α : Type} (n : Nat) (f : Fin n → α) : Vector α n := ⟨⟨(List.finRange n).map f⟩, by simp⟩

/-- A function applied to `n` elements of a list from position `k` on. -/
def mapRange {α : Type} (f : α → α) : Nat → Nat → List α → List α
  | _, _, [] => []
  | 0, 0, x :: xs => x :: xs
  | 0, n + 1, x :: xs => f x :: mapRange f 0 n xs
  | k + 1, n, x :: xs => x :: mapRange f k n xs

/-- A run of values worked into a list from position `k` on, each into the element it meets. -/
def zipRange {α β : Type} (f : α → β → α) : Nat → List β → List α → List α
  | _, _, [] => []
  | 0, [], x :: xs => x :: xs
  | 0, b :: bs, x :: xs => f x b :: zipRange f 0 bs xs
  | k + 1, bs, x :: xs => x :: zipRange f k bs xs

theorem length_mapRange {α : Type} (f : α → α) (k n : Nat) (xs : List α) : (mapRange f k n xs).length = xs.length := by
  induction xs generalizing k n with
  | nil => simp [mapRange]
  | cons x xs ih => cases k <;> cases n <;> simp [mapRange, ih]

theorem length_zipRange {α β : Type} (f : α → β → α) (k : Nat) (bs : List β) (xs : List α) :
    (zipRange f k bs xs).length = xs.length := by
  induction xs generalizing k bs with
  | nil => simp [zipRange]
  | cons x xs ih => cases k <;> cases bs <;> simp [zipRange, ih]

/-- A function applied to a run of a vector's elements. -/
def mapRangeVec {α : Type} {m : Nat} (f : α → α) (k n : Nat) (v : Vector α m) : Vector α m :=
  ⟨⟨mapRange f k n v.toList⟩, by simp [length_mapRange]⟩

/-- A run of values worked into a vector from position `k` on. -/
def zipRangeVec {α β : Type} {m : Nat} (f : α → β → α) (k : Nat) (bs : List β) (v : Vector α m) : Vector α m :=
  ⟨⟨zipRange f k bs v.toList⟩, by simp [length_zipRange]⟩

/-- A function applied to one element. -/
def modAt {α : Type} {n : Nat} (v : Vector α n) (i : Fin n) (f : α → α) : Vector α n := v.set i.val (f v[i]) i.isLt

/-- One element replaced. -/
def putAt {α : Type} {n : Nat} (v : Vector α n) (i : Fin n) (x : α) : Vector α n := v.set i.val x i.isLt

/-- Ticks of 10 µs in one millisecond (00_scope, Time). -/
def ticksPerMs : Nat := 100

/-- Ticks in one second. -/
def ticksPerS : Nat := 100000

/-- Ticks in one call unit of 50 ms (R139). -/
def ticksPerUnit : Nat := 5000

/-- The whole seconds left before an expiry, rounded up; 0 when the timer is stopped (R182, R183). -/
def secondsLeft (now : Nat) : Option Nat → Nat
  | none => 0
  | some e => (e - now + ticksPerS - 1) / ticksPerS

end Sys2Proof.Machine
end

