-- ==== Sys2Proof/Machine/Codes.lean ====
section
/-! DEFINITION. The named states of the manual and the byte codes by which frames and records carry them (R165 body
layouts, 10.3 reason codes, 11.2 event kinds). -/

namespace Sys2Proof

open Sys2Proof.Machine

/-- The eight show phases (R1). -/
inductive Phase where
  | maintenance | dark | rehearsal | houseOpen | performance | interval | clearing | recovery
  deriving DecidableEq, Repr

/-- The alarm stage (R129). -/
inductive Stage where
  | normal | attention | staffAlert | evacuate
  deriving DecidableEq, Repr

/-- The curtain state (R71, 5.4). -/
inductive CurtainState where
  | unknown | resting | raising | out | descending | slowing | stalled
  deriving DecidableEq, Repr

/-- Console freshness (R52). -/
inductive Freshness where
  | fresh | held | lost
  deriving DecidableEq, Repr

/-- Panel link state (R122). -/
inductive PanelLink where
  | awaiting | up | lost
  deriving DecidableEq, Repr

/-- The state of a fire zone (R102). -/
inductive ZoneState where
  | quiet | pre | firstKnock | investigating | alarm
  deriving DecidableEq, Repr

/-- The three ports (9). -/
inductive Port where
  | console | rack | panel
  deriving DecidableEq, Repr

/-- The two limit switches of the curtain (5.1). -/
inductive Limit where
  | inLimit | outLimit
  deriving DecidableEq, Repr

/-- The seven queues in queue-number order (R168). -/
inductive QueueId where
  | consoleRx | rackPass | rackExpress | rackRx | consoleTx | panelRx | panelTx
  deriving DecidableEq, Repr

/-- The origin of a call (R142). -/
inductive Origin where
  | request | schedule | alarmStaff | alarmEvac
  deriving DecidableEq, Repr

/-- The outcome with which a call ends (R143). -/
inductive CallOutcome where
  | done | expired | preempted | cancelled | suppressed | resetByAlarm | alertOver
  deriving DecidableEq, Repr

/-- The progress of a schedule entry (R142). -/
inductive Progress where
  | unfired | fired | skipped | discarded
  deriving DecidableEq, Repr

/-- The flash state of an area (R142). -/
inductive FlashState where
  | inactive | low | high
  deriving DecidableEq, Repr

/-- The reason a request is refused (10.3). -/
inductive Reason where
  | badFormat | unknownRequest | badArgument | wrongPhase | alarmActive | curtainState | curtainTest | panelLink
  | notInvestigating | notAcknowledged | limit | busy | invalidTables | reservedProgram | noSuchCall
  deriving DecidableEq, Repr

/-- The kinds of event record (11.2). -/
inductive EventKind where
  | reset | phaseChanged | staffPresence | zoneState | deviceOverflow | isolatedFire | isolationOpened
  | isolationClosed | alarmStage | alarmReset | panelLink | reportDiscarded | curtainState | curtainFault | testResult
  | callStarted | callEnded | messageTimeout | scheduleSkipped | scheduleRefused | intervalEnd | consoleState
  | frameBad | frameMalformed | queueOverflow | commitStored | storeFailed
  deriving DecidableEq, Repr

/-- The twelve curtain faults (R91). -/
inductive CurtainFault where
  | encoderError | positionMismatch | limitConflict | startFail | overspeed | underspeed | slowSwitchMismatch
  | slowOverspeed | stall | dropTimeout | raiseTimeout | drift
  deriving DecidableEq, Repr

/-- The cause of an isolation window's closing (R119). -/
inductive CloseCause where
  | byRequest | expiry | phase | evacuate | overflow
  deriving DecidableEq, Repr

/-- Why the power-on sequence runs: the RESET line, or an accepted RESTART (R3). -/
inductive ResetCause where
  | powerOn | restart
  deriving DecidableEq, Repr

/-- The kinds of zone report (R165). -/
inductive ReportKind where
  | normal | pre | fire | manual | fault
  deriving DecidableEq, Repr

/-- Phase codes (R165). -/
def Phase.code : Phase → Byte
  | .maintenance => 0 | .dark => 1 | .rehearsal => 2 | .houseOpen => 3
  | .performance => 4 | .interval => 5 | .clearing => 6 | .recovery => 7

/-- The phase a code names, if it names one of the eight (R4 test 1). -/
def Phase.ofCode (b : Byte) : Option Phase :=
  match b.toNat with
  | 0 => some .maintenance | 1 => some .dark | 2 => some .rehearsal | 3 => some .houseOpen
  | 4 => some .performance | 5 => some .interval | 6 => some .clearing | 7 => some .recovery
  | _ => none

/-- Alarm stage codes (R165). -/
def Stage.code : Stage → Byte
  | .normal => 0 | .attention => 1 | .staffAlert => 2 | .evacuate => 3

/-- Curtain state codes (R165). -/
def CurtainState.code : CurtainState → Byte
  | .unknown => 0 | .resting => 1 | .raising => 2 | .out => 3 | .descending => 4 | .slowing => 5 | .stalled => 6

/-- Freshness codes (STATUS body, R165). -/
def Freshness.code : Freshness → Byte
  | .fresh => 0 | .held => 1 | .lost => 2

/-- Panel link codes (STATUS body, R165). -/
def PanelLink.code : PanelLink → Byte
  | .awaiting => 0 | .up => 1 | .lost => 2

/-- Zone state codes (R182). -/
def ZoneState.code : ZoneState → Byte
  | .quiet => 0 | .pre => 1 | .firstKnock => 2 | .investigating => 3 | .alarm => 4

/-- Port numbers (R167). -/
def Port.code : Port → Byte
  | .console => 0 | .rack => 1 | .panel => 2

/-- The port's place in the vectors of State. -/
def Port.ix : Port → Fin 3
  | .console => 0 | .rack => 1 | .panel => 2

/-- Queue numbers (R168). -/
def QueueId.ix : QueueId → Fin 7
  | .consoleRx => 0 | .rackPass => 1 | .rackExpress => 2 | .rackRx => 3 | .consoleTx => 4 | .panelRx => 5 | .panelTx => 6

/-- The queue number as a byte (QUEUE-OVERFLOW subject, 11.2). -/
def QueueId.code (q : QueueId) : Byte := byteOf q.ix.val

/-- Origin codes (R183). -/
def Origin.code : Origin → Byte
  | .request => 0 | .schedule => 1 | .alarmStaff => 2 | .alarmEvac => 3

/-- Call outcome codes (11.2 note 2). -/
def CallOutcome.code : CallOutcome → Byte
  | .done => 0 | .expired => 1 | .preempted => 2 | .cancelled => 3 | .suppressed => 4 | .resetByAlarm => 5 | .alertOver => 6

/-- Schedule progress codes (R183). -/
def Progress.code : Progress → Byte
  | .unfired => 0 | .fired => 1 | .skipped => 2 | .discarded => 3

/-- Reason codes (10.3); 0 stands with DONE. -/
def Reason.code : Reason → Byte
  | .badFormat => 1 | .unknownRequest => 2 | .badArgument => 3 | .wrongPhase => 4 | .alarmActive => 5
  | .curtainState => 6 | .curtainTest => 7 | .panelLink => 8 | .notInvestigating => 9 | .notAcknowledged => 10
  | .limit => 11 | .busy => 12 | .invalidTables => 13 | .reservedProgram => 14 | .noSuchCall => 15

/-- Event kind codes (11.2). -/
def EventKind.code : EventKind → Byte
  | .reset => 1 | .phaseChanged => 2 | .staffPresence => 3 | .zoneState => 4 | .deviceOverflow => 5
  | .isolatedFire => 6 | .isolationOpened => 7 | .isolationClosed => 8 | .alarmStage => 9 | .alarmReset => 10
  | .panelLink => 11 | .reportDiscarded => 12 | .curtainState => 13 | .curtainFault => 14 | .testResult => 15
  | .callStarted => 16 | .callEnded => 17 | .messageTimeout => 18 | .scheduleSkipped => 19 | .scheduleRefused => 20
  | .intervalEnd => 21 | .consoleState => 22 | .frameBad => 23 | .frameMalformed => 24 | .queueOverflow => 25
  | .commitStored => 26 | .storeFailed => 27

/-- Curtain fault codes 1–12 (R91). -/
def CurtainFault.num : CurtainFault → Nat
  | .encoderError => 1 | .positionMismatch => 2 | .limitConflict => 3 | .startFail => 4 | .overspeed => 5
  | .underspeed => 6 | .slowSwitchMismatch => 7 | .slowOverspeed => 8 | .stall => 9 | .dropTimeout => 10
  | .raiseTimeout => 11 | .drift => 12

/-- Closing cause codes (11.2). -/
def CloseCause.code : CloseCause → Byte
  | .byRequest => 0 | .expiry => 1 | .phase => 2 | .evacuate => 3 | .overflow => 4

/-- RESET cause codes (11.2). -/
def ResetCause.code : ResetCause → Byte
  | .powerOn => 0 | .restart => 1

/-- Report kind codes (R165). -/
def ReportKind.code : ReportKind → Byte
  | .normal => 0 | .pre => 1 | .fire => 2 | .manual => 3 | .fault => 4

/-- The kind a report's kind field names, if it names one of the five (R104 case 3). -/
def ReportKind.ofCode (b : Byte) : Option ReportKind :=
  match b.toNat with
  | 0 => some .normal | 1 => some .pre | 2 => some .fire | 3 => some .manual | 4 => some .fault
  | _ => none

end Sys2Proof
end

