-- ==== Sys2Proof/Machine/Tables.lean ====
section
/-! DEFINITION. The ten tables (R15): their entries field by field, each field held as the bytes written (2.5 note 1),
their byte layouts as READ-TABLE, WRITE-TABLE and the store image use them, and reading or writing one entry. -/

namespace Sys2Proof

/-- An AREAS entry, 4 bytes (R16, 2.5). -/
structure AreaEntry where
  kind : Byte
  callUnit : Byte
  master : Byte
  depth : Byte
  deriving DecidableEq, Repr, Inhabited

/-- A CHANNELS entry, 12 bytes (R18, 2.5). -/
structure ChannelEntry where
  inUse : Byte
  area : Byte
  univ : Byte
  slot : Byte
  floor : Byte
  ceiling : Byte
  emergency : Byte
  loss : Byte
  marker : Byte
  curtain : Byte
  rise : Byte
  fall : Byte
  deriving DecidableEq, Repr, Inhabited

/-- A GUARDS entry, 4 bytes (R20, 2.5). -/
structure GuardEntry where
  inUse : Byte
  univ : Byte
  slot : Byte
  safe : Byte
  deriving DecidableEq, Repr, Inhabited

/-- The STREAM record, 3 bytes (R53). -/
structure StreamRecord where
  timeout : Word16
  hold : Byte
  deriving DecidableEq, Repr, Inhabited

/-- The CURTAIN record, 25 bytes (R74). -/
structure CurtainRecord where
  travel : Word16
  pitch : Word16
  window : Byte
  vmax : Word16
  vmin : Word16
  vslow : Word16
  slowStart : Word16
  grace : Word16
  tolerance : Byte
  startWindow : Word16
  stallLimit : Word16
  maxDrop : Byte
  maxRaise : Word16
  driftTol : Word16
  deriving DecidableEq, Repr, Inhabited

/-- A RESPONSE row, 15 bytes (R99, 6.1). -/
structure ResponseRow where
  cls : Byte
  coincidence : Byte
  delay : Byte
  ackWindow : Byte
  invTime : Word16
  isolation : Byte
  curtainDrop : Byte
  emergency : AreaSet
  evacuation : AreaSet
  stageSafe : Byte
  deriving DecidableEq, Repr, Inhabited

/-- The ALARM record, 6 bytes (R127). -/
structure AlarmRecord where
  staffAreas : AreaSet
  staffProgram : Byte
  evacProgram : Byte
  riseRate : Byte
  deriving DecidableEq, Repr, Inhabited

/-- One step of a program, 4 bytes (R139). -/
structure StepBytes where
  kind : Byte
  a : Byte
  b : Byte
  c : Byte
  deriving DecidableEq, Repr, Inhabited

/-- A program, 50 bytes (R139). -/
structure Program where
  cls : Byte
  deadline : Byte
  steps : Vector StepBytes 12
  deriving DecidableEq, Repr

/-- One schedule entry, 7 bytes (R141). -/
structure ScheduleEntry where
  enabled : Byte
  offset : Word16
  program : Byte
  areas : AreaSet
  deriving DecidableEq, Repr, Inhabited

/-- The SCHEDULE record, 46 bytes (R141). -/
structure ScheduleRecord where
  length : Word16
  spacing : Word16
  entries : Vector ScheduleEntry 6
  deriving DecidableEq, Repr

/-- One queue's region in Frame Memory (R168). -/
structure QueueRegion where
  start : Word16
  size : Word16
  deriving DecidableEq, Repr, Inhabited

/-- The LINK record, 30 bytes (R168). -/
structure LinkRecord where
  station : Byte
  heartbeat : Byte
  plan : Vector QueueRegion 7
  deriving DecidableEq, Repr

/-- The ten tables (R15). -/
structure Tables where
  areas : Vector AreaEntry 24
  channels : Vector ChannelEntry 96
  guards : Vector GuardEntry 32
  stream : StreamRecord
  curtain : CurtainRecord
  response : Vector ResponseRow 66
  alarm : AlarmRecord
  programs : Vector Program 16
  schedule : ScheduleRecord
  link : LinkRecord
  deriving DecidableEq, Repr

/-- The store image (R26): its marker as found (`none` where it is absent or erased), the ten tables and the check. -/
structure StoreImage where
  marker : Option (List Byte)
  tables : Tables
  check : Word16
  deriving DecidableEq, Repr

/-- The ten tables by name, in the order of their numbers (R15). -/
inductive TableId where
  | areas | channels | guards | stream | curtain | response | alarm | programs | schedule | link
  deriving DecidableEq, Repr

end Sys2Proof

namespace Sys2Proof.Machine

/-- The table a number names (R15). -/
def tableOf (b : Byte) : Option TableId :=
  match b.toNat with
  | 0 => some .areas | 1 => some .channels | 2 => some .guards | 3 => some .stream | 4 => some .curtain
  | 5 => some .response | 6 => some .alarm | 7 => some .programs | 8 => some .schedule | 9 => some .link
  | _ => none

/-- Number of entries of a table (10.4). -/
def tableEntries : TableId → Nat
  | .areas => 24 | .channels => 96 | .guards => 32 | .stream => 1 | .curtain => 1
  | .response => 66 | .alarm => 1 | .programs => 16 | .schedule => 1 | .link => 1

/-- Bytes of one entry of a table (10.4). -/
def tableWidth : TableId → Nat
  | .areas => 4 | .channels => 12 | .guards => 4 | .stream => 3 | .curtain => 25
  | .response => 15 | .alarm => 6 | .programs => 50 | .schedule => 46 | .link => 30

/-- AREAS layout (2.5). -/
def areaBytes (e : AreaEntry) : List Byte := [e.kind, e.callUnit, e.master, e.depth]

/-- AREAS layout read back (2.5). -/
def areaOfBytes (b : List Byte) : AreaEntry := ⟨byteAt b 0, byteAt b 1, byteAt b 2, byteAt b 3⟩

/-- CHANNELS layout (2.5). -/
def channelBytes (e : ChannelEntry) : List Byte :=
  [e.inUse, e.area, e.univ, e.slot, e.floor, e.ceiling, e.emergency, e.loss, e.marker, e.curtain, e.rise, e.fall]

/-- CHANNELS layout read back (2.5). -/
def channelOfBytes (b : List Byte) : ChannelEntry :=
  ⟨byteAt b 0, byteAt b 1, byteAt b 2, byteAt b 3, byteAt b 4, byteAt b 5, byteAt b 6, byteAt b 7, byteAt b 8,
    byteAt b 9, byteAt b 10, byteAt b 11⟩

/-- GUARDS layout (2.5). -/
def guardBytes (e : GuardEntry) : List Byte := [e.inUse, e.univ, e.slot, e.safe]

/-- GUARDS layout read back (2.5). -/
def guardOfBytes (b : List Byte) : GuardEntry := ⟨byteAt b 0, byteAt b 1, byteAt b 2, byteAt b 3⟩

/-- STREAM layout (R53). -/
def streamBytes (r : StreamRecord) : List Byte := bytes16 r.timeout ++ [r.hold]

/-- STREAM layout read back (R53). -/
def streamOfBytes (b : List Byte) : StreamRecord := ⟨word16 (byteAt b 0) (byteAt b 1), byteAt b 2⟩

/-- CURTAIN layout (R74). -/
def curtainBytes (r : CurtainRecord) : List Byte :=
  bytes16 r.travel ++ bytes16 r.pitch ++ [r.window] ++ bytes16 r.vmax ++ bytes16 r.vmin ++ bytes16 r.vslow
    ++ bytes16 r.slowStart ++ bytes16 r.grace ++ [r.tolerance] ++ bytes16 r.startWindow ++ bytes16 r.stallLimit
    ++ [r.maxDrop] ++ bytes16 r.maxRaise ++ bytes16 r.driftTol

/-- CURTAIN layout read back (R74). -/
def curtainOfBytes (b : List Byte) : CurtainRecord where
  travel := word16 (byteAt b 0) (byteAt b 1)
  pitch := word16 (byteAt b 2) (byteAt b 3)
  window := byteAt b 4
  vmax := word16 (byteAt b 5) (byteAt b 6)
  vmin := word16 (byteAt b 7) (byteAt b 8)
  vslow := word16 (byteAt b 9) (byteAt b 10)
  slowStart := word16 (byteAt b 11) (byteAt b 12)
  grace := word16 (byteAt b 13) (byteAt b 14)
  tolerance := byteAt b 15
  startWindow := word16 (byteAt b 16) (byteAt b 17)
  stallLimit := word16 (byteAt b 18) (byteAt b 19)
  maxDrop := byteAt b 20
  maxRaise := word16 (byteAt b 21) (byteAt b 22)
  driftTol := word16 (byteAt b 23) (byteAt b 24)

/-- RESPONSE layout (6.1). -/
def responseBytes (r : ResponseRow) : List Byte :=
  [r.cls, r.coincidence, r.delay, r.ackWindow] ++ bytes16 r.invTime ++ [r.isolation, r.curtainDrop]
    ++ bytes24 r.emergency ++ bytes24 r.evacuation ++ [r.stageSafe]

/-- RESPONSE layout read back (6.1). -/
def responseOfBytes (b : List Byte) : ResponseRow where
  cls := byteAt b 0
  coincidence := byteAt b 1
  delay := byteAt b 2
  ackWindow := byteAt b 3
  invTime := word16 (byteAt b 4) (byteAt b 5)
  isolation := byteAt b 6
  curtainDrop := byteAt b 7
  emergency := word24 (byteAt b 8) (byteAt b 9) (byteAt b 10)
  evacuation := word24 (byteAt b 11) (byteAt b 12) (byteAt b 13)
  stageSafe := byteAt b 14

/-- ALARM layout (R127). -/
def alarmBytes (r : AlarmRecord) : List Byte := bytes24 r.staffAreas ++ [r.staffProgram, r.evacProgram, r.riseRate]

/-- ALARM layout read back (R127). -/
def alarmOfBytes (b : List Byte) : AlarmRecord :=
  ⟨word24 (byteAt b 0) (byteAt b 1) (byteAt b 2), byteAt b 3, byteAt b 4, byteAt b 5⟩

/-- Layout of one step (R139). -/
def stepBytes (t : StepBytes) : List Byte := [t.kind, t.a, t.b, t.c]

/-- Layout of one step, read back from byte k of a program (R139). -/
def stepOfBytes (b : List Byte) (k : Nat) : StepBytes :=
  ⟨byteAt b k, byteAt b (k + 1), byteAt b (k + 2), byteAt b (k + 3)⟩

/-- PROGRAMS layout (R139). -/
def programBytes (p : Program) : List Byte := [p.cls, p.deadline] ++ p.steps.toList.flatMap stepBytes

/-- PROGRAMS layout read back (R139). -/
def programOfBytes (b : List Byte) : Program :=
  ⟨byteAt b 0, byteAt b 1, Vector.ofFn fun i : Fin 12 => stepOfBytes b (2 + 4 * i.val)⟩

/-- Layout of one schedule entry (R141). -/
def scheduleEntryBytes (e : ScheduleEntry) : List Byte :=
  [e.enabled] ++ bytes16 e.offset ++ [e.program] ++ bytes24 e.areas

/-- Layout of one schedule entry, read back from byte k of the record (R141). -/
def scheduleEntryOfBytes (b : List Byte) (k : Nat) : ScheduleEntry :=
  ⟨byteAt b k, word16 (byteAt b (k + 1)) (byteAt b (k + 2)), byteAt b (k + 3),
    word24 (byteAt b (k + 4)) (byteAt b (k + 5)) (byteAt b (k + 6))⟩

/-- SCHEDULE layout (R141). -/
def scheduleBytes (r : ScheduleRecord) : List Byte :=
  bytes16 r.length ++ bytes16 r.spacing ++ r.entries.toList.flatMap scheduleEntryBytes

/-- SCHEDULE layout read back (R141). -/
def scheduleOfBytes (b : List Byte) : ScheduleRecord :=
  ⟨word16 (byteAt b 0) (byteAt b 1), word16 (byteAt b 2) (byteAt b 3),
    Vector.ofFn fun i : Fin 6 => scheduleEntryOfBytes b (4 + 7 * i.val)⟩

/-- Layout of one queue region (R168). -/
def regionBytes (r : QueueRegion) : List Byte := bytes16 r.start ++ bytes16 r.size

/-- LINK layout (R168). -/
def linkBytes (r : LinkRecord) : List Byte := [r.station, r.heartbeat] ++ r.plan.toList.flatMap regionBytes

/-- LINK layout read back (R168). -/
def linkOfBytes (b : List Byte) : LinkRecord :=
  ⟨byteAt b 0, byteAt b 1, Vector.ofFn fun i : Fin 7 =>
    ⟨word16 (byteAt b (2 + 4 * i.val)) (byteAt b (3 + 4 * i.val)),
      word16 (byteAt b (4 + 4 * i.val)) (byteAt b (5 + 4 * i.val))⟩⟩

/-- The entries of a table from entry `first` on, `count` of them, each in its layout (R180). -/
def tableBytes (t : Tables) (id : TableId) (first count : Nat) : List Byte :=
  match id with
  | .areas => ((t.areas.toList.drop first).take count).flatMap areaBytes
  | .channels => ((t.channels.toList.drop first).take count).flatMap channelBytes
  | .guards => ((t.guards.toList.drop first).take count).flatMap guardBytes
  | .stream => (([t.stream].drop first).take count).flatMap streamBytes
  | .curtain => (([t.curtain].drop first).take count).flatMap curtainBytes
  | .response => ((t.response.toList.drop first).take count).flatMap responseBytes
  | .alarm => (([t.alarm].drop first).take count).flatMap alarmBytes
  | .programs => ((t.programs.toList.drop first).take count).flatMap programBytes
  | .schedule => (([t.schedule].drop first).take count).flatMap scheduleBytes
  | .link => (([t.link].drop first).take count).flatMap linkBytes

/-- All ten tables packed in ascending table number, entries ascending (R26). -/
def allTableBytes (t : Tables) : List Byte :=
  [TableId.areas, .channels, .guards, .stream, .curtain, .response, .alarm, .programs, .schedule, .link].flatMap
    fun id => tableBytes t id 0 (tableEntries id)

/-- One entry of a table replaced by the bytes carried (R181); an entry number beyond the table changes nothing. -/
def putEntry (t : Tables) (id : TableId) (i : Nat) (b : List Byte) : Tables :=
  match id with
  | .areas => { t with areas := t.areas.setIfInBounds i (areaOfBytes b) }
  | .channels => { t with channels := t.channels.setIfInBounds i (channelOfBytes b) }
  | .guards => { t with guards := t.guards.setIfInBounds i (guardOfBytes b) }
  | .stream => if i = 0 then { t with stream := streamOfBytes b } else t
  | .curtain => if i = 0 then { t with curtain := curtainOfBytes b } else t
  | .response => { t with response := t.response.setIfInBounds i (responseOfBytes b) }
  | .alarm => if i = 0 then { t with alarm := alarmOfBytes b } else t
  | .programs => { t with programs := t.programs.setIfInBounds i (programOfBytes b) }
  | .schedule => if i = 0 then { t with schedule := scheduleOfBytes b } else t
  | .link => if i = 0 then { t with link := linkOfBytes b } else t

/-- The entries from `first` on replaced by `n` entries carried back to back (R181). -/
def putEntries (id : TableId) : Nat → Nat → List Byte → Tables → Tables
  | _, 0, _, t => t
  | first, n + 1, b, t =>
    putEntries id (first + 1) n (b.drop (tableWidth id)) (putEntry t id first (b.take (tableWidth id)))

/-- The built-in defaults of R30, with those of R53, R74, R101, R127, R140, R141 and R168. -/
def defaultTables : Tables where
  areas := Vector.replicate 24 ⟨0, 0, 255, 0⟩
  channels := Vector.replicate 96 ⟨0, 0, 0, 0, 0, 0, 0, 0, 0, 0, 0, 0⟩
  guards := Vector.replicate 32 ⟨0, 0, 0, 0⟩
  stream := ⟨1000, 5⟩
  curtain :=
    { travel := 25000, pitch := 400, window := 16, vmax := 600, vmin := 50, vslow := 150, slowStart := 3000,
      grace := 250, tolerance := 40, startWindow := 2000, stallLimit := 1000, maxDrop := 40, maxRaise := 120,
      driftTol := 100 }
  response :=
    ((Vector.replicate 66 ⟨0, 0, 0, 0, 0, 0, 0, 0, 0, 0⟩).set 64 ⟨6, 0, 0, 30, 30, 0, 1, 0, 0, 0⟩).set 65
      ⟨6, 0, 0, 30, 30, 0, 1, 0, 0, 0⟩
  alarm := ⟨0, 255, 255, 64⟩
  programs := Vector.replicate 16 ⟨3, 0, Vector.replicate 12 ⟨0, 0, 0, 0⟩⟩
  schedule := ⟨1200, 1500, Vector.replicate 6 ⟨0, 0, 0, 0⟩⟩
  link :=
    ⟨126, 3, #v[⟨0, 1536⟩, ⟨1536, 1536⟩, ⟨3072, 1024⟩, ⟨4096, 1024⟩, ⟨5120, 1536⟩, ⟨6656, 512⟩, ⟨7168, 512⟩]⟩

/-- Whether an area is in use: its kind is other than UNUSED (R16). -/
def areaInUse (t : Tables) (a : AreaId) : Bool := t.areas[a].kind != 0

/-- The call unit of an area in use, where it has one (R16). -/
def unitOf (t : Tables) (a : AreaId) : Option Byte :=
  if areaInUse t a && t.areas[a].callUnit != 0 then some t.areas[a].callUnit else none

/-- The area in use whose call unit has an address (R17, R173). -/
def areaOfUnit (t : Tables) (u : Byte) : Option AreaId := (List.finRange 24).find? fun a => unitOf t a = some u

/-- The area a byte names, where it is 0–23. -/
def areaIdOf (b : Byte) : Option AreaId := if h : b.toNat < 24 then some ⟨b.toNat, h⟩ else none

/-- The zone a byte names, where it is 0–65. -/
def zoneIdOf (b : Byte) : Option ZoneId := if h : b.toNat < 66 then some ⟨b.toNat, h⟩ else none

/-- The program a byte names, where it is 0–15. -/
def programIdOf (b : Byte) : Option ProgramId := if h : b.toNat < 16 then some ⟨b.toNat, h⟩ else none

end Sys2Proof.Machine
end

