-- ==== Sys2Proof/Syntax.lean ====
section
/-! DEFINITION. The commands: one constructor for each row of spec/opcode_table.json, in the table's order. A row is one
step of the part, whole and indivisible (95_what_each_step_holds). Its operands are what the step itself brings: a
line's new level, the bytes of a frame, the zone or call entry whose timer runs out. A step that takes a frame from a
receive queue brings none: the frame stands at the head of that queue (R171, R177). -/

namespace Sys2Proof

/-- The steps of the part. -/
inductive Instr where
  /-- RESET_ASSERTED: the RESET line asserts (R28, R29). -/
  | resetAsserted
  /-- POWER_ON: the RESET line releases, and the power-on sequence runs (R29). -/
  | powerOn
  /-- RESTART_POWER_ON_SEQUENCE: the power-on sequence of an accepted RESTART (R185). -/
  | restartPowerOnSequence
  /-- ENCODER_TRANSITION: ENC-A and ENC-B as newly sampled (R70, R76). -/
  | encoderTransition (encA encB : Bool)
  /-- CAPTURE_TIMER_WRAP: the capture timer wraps from 65535 to 0 (R82). -/
  | captureTimerWrap
  /-- LIMIT_IN_ASSERTED (R89). -/
  | limitInAsserted
  /-- LIMIT_OUT_ASSERTED (R90). -/
  | limitOutAsserted
  /-- LIMIT_RELEASED: which of the two limits releases (R77). -/
  | limitReleased (limit : Limit)
  /-- SLOW_SW_ASSERTED (R85). -/
  | slowSwAsserted
  /-- STAGE_RELEASE_ASSERTED (R78). -/
  | stageReleaseAsserted
  /-- PANEL_FIRE_ASSERTED (R123). -/
  | panelFireAsserted
  /-- FRAME_ARRIVAL: the port and the run of bytes received before the idle gap (R165, R167). -/
  | frameArrival (port : Port) (bytes : List Byte)
  /-- TAKE_LEVELS: the LEVELS frame at the head of CONSOLE-RX (R58). -/
  | takeLevels
  /-- TAKE_CONSOLE_PASS: the frame at the head of CONSOLE-RX, neither LEVELS nor a request to the part (R172). -/
  | takeConsolePass
  /-- TAKE_CALL_DONE: the CALL-DONE at the head of RACK-RX (R153, R173). -/
  | takeCallDone
  /-- TAKE_RACK_RETURN: the frame at the head of RACK-RX, not a CALL-DONE (R173). -/
  | takeRackReturn
  /-- TAKE_ZONE_REPORT: the ZONE-REPORT at the head of PANEL-RX (R104). -/
  | takeZoneReport
  /-- TAKE_PANEL_BEAT: the PANEL-BEAT at the head of PANEL-RX (R122). -/
  | takePanelBeat
  /-- TAKE_PANEL_OTHER: the frame at the head of PANEL-RX, of any other kind (R174). -/
  | takePanelOther
  /-- UNKNOWN_REQUEST: a request refused by R177 tests 1 to 3. -/
  | unknownRequest
  /-- READ_TABLE, request code 1 (R180). -/
  | readTable
  /-- WRITE_TABLE, request code 2 (R181). -/
  | writeTable
  /-- SET_PHASE, request code 3 (R4). -/
  | setPhase
  /-- STAFF_PRESENT, request code 4 (R14). -/
  | staffPresent
  /-- SET_MASTER, request code 5 (R23). -/
  | setMaster
  /-- START_CALL, request code 6 (R145). -/
  | startCall
  /-- CANCEL_CALL, request code 7 (R156). -/
  | cancelCall
  /-- EXTEND_INTERVAL, request code 8 (R162). -/
  | extendInterval
  /-- ALARM_ACK, request code 9 (R114). -/
  | alarmAck
  /-- ALARM_CONFIRM, request code 10 (R115). -/
  | alarmConfirm
  /-- ALARM_CANCEL, request code 11 (R115). -/
  | alarmCancel
  /-- ALARM_RESET, request code 12 (R135). -/
  | alarmReset
  /-- ISOLATE_ZONE, request code 13 (R118). -/
  | isolateZone
  /-- END_ISOLATION, request code 14 (R119). -/
  | endIsolation
  /-- CURTAIN_RELEASE, request code 15 (R96). -/
  | curtainRelease
  /-- CURTAIN_RAISE, request code 16 (R93). -/
  | curtainRaise
  /-- CURTAIN_TEST, request code 17 (R97). -/
  | curtainTest
  /-- READ_STATUS, request code 18 (R184). -/
  | readStatus
  /-- READ_ZONE, request code 19 (R182). -/
  | readZone
  /-- READ_CALLS, request code 20 (R183). -/
  | readCalls
  /-- READ_EVENTS, request code 21 (R188). -/
  | readEvents
  /-- RESTART, request code 22 (R185). -/
  | restart
  /-- LEVEL_STEP (R31). -/
  | levelStep
  /-- PERIODIC_REFRESH (R66). -/
  | periodicRefresh
  /-- CONSOLE_TIMER_EXPIRY (R55). -/
  | consoleTimerExpiry
  /-- HOLD_TIMER_EXPIRY (R56). -/
  | holdTimerExpiry
  /-- HEARTBEAT_TIMER_EXPIRY (R122). -/
  | heartbeatTimerExpiry
  /-- NOTICE_TIMER_EXPIRY (R137). -/
  | noticeTimerExpiry
  /-- STATUS_TIMER_EXPIRY (R189). -/
  | statusTimerExpiry
  /-- START_WINDOW_EXPIRY (R88). -/
  | startWindowExpiry
  /-- STALL_TIMER_EXPIRY (R87). -/
  | stallTimerExpiry
  /-- DROP_TIMER_EXPIRY (R88). -/
  | dropTimerExpiry
  /-- RAISE_TIMER_EXPIRY (R94). -/
  | raiseTimerExpiry
  /-- ACK_TIMER_EXPIRY: the zone whose ack timer runs out (R116). -/
  | ackTimerExpiry (zone : ZoneId)
  /-- INVESTIGATION_TIMER_EXPIRY: the zone whose investigation timer runs out (R116). -/
  | investigationTimerExpiry (zone : ZoneId)
  /-- ISOLATION_WINDOW_EXPIRY: the zone whose window's expiry is reached (R119). -/
  | isolationWindowExpiry (zone : ZoneId)
  /-- CHIME_STEP_EXPIRY: the call entry whose CHIME step's timer runs out (R152). -/
  | chimeStepExpiry (entry : EntryId)
  /-- WAIT_STEP_EXPIRY: the call entry whose WAIT step's timer runs out (R152). -/
  | waitStepExpiry (entry : EntryId)
  /-- MESSAGE_LIMIT_EXPIRY: the call entry whose MESSAGE limit runs out (R153). -/
  | messageLimitExpiry (entry : EntryId)
  /-- FLASH_TIMER_EXPIRY: the call entry whose FLASH step's timer runs out (R154). -/
  | flashTimerExpiry (entry : EntryId)
  /-- DEADLINE_TIMER_EXPIRY: the call entry whose deadline timer runs out (R149). -/
  | deadlineTimerExpiry (entry : EntryId)
  /-- INTERVAL_CLOCK_TICK (R161). -/
  | intervalClockTick
  /-- STORE_WRITE_END: the image as the store read it back (R28). -/
  | storeWriteEnd (readBack : StoreImage)
  /-- FRAME_SENT: the port whose transmitter has sent a frame's last byte (R170). -/
  | frameSent (port : Port)
  /-- TRANSMITTER_FREE: the port whose transmitter has ended its idle gap (R175, R176). -/
  | transmitterFree (port : Port)
  /-- PANEL_FIRE_RELEASED (R123). -/
  | panelFireReleased
  /-- SLOW_SW_RELEASED (R70). -/
  | slowSwReleased
  /-- STAGE_RELEASE_RELEASED (R70). -/
  | stageReleaseReleased
  deriving DecidableEq, Repr

end Sys2Proof
end

