-- ==== Sys2Proof/Decode.lean ====
section
/-! DEFINITION. Reading a command from a word of bits. No row of spec/opcode_table.json carries bits (every row's
`fields` is empty): the part is a block whose steps are events, and none of them is spelled by a word. -/

namespace Sys2Proof

/-- The command a word of the opcode table's bits spells: none, since no row has bits (log 26). -/
def decodeTableWord (_nbits _w : Nat) : Option Instr := none

end Sys2Proof
end

