-- ==== Sys2Proof/Machine/Blocks.lean ====
section
/-! DEFINITION. The state of each functional block (00_scope, Functional blocks), as plain data. A timer is `none` while
stopped and otherwise the tick of 10 µs at which it expires. -/

namespace Sys2Proof.Machine

/-- A timer: stopped, or running with an expiry (R52, R71, R102, R142). -/
abbrev Timer := Option Nat

/-- A frame as it stands on the line: kind, station, length, body, check (R165). -/
abbrev Frame := List Byte

/-- The levels of the input lines (00_scope, Line functions); `true` is asserted. -/
structure Lines where
  encA : Bool
  encB : Bool
  limitIn : Bool
  limitOut : Bool
  slowSw : Bool
  stageRelease : Bool
  panelFire : Bool
  reset : Bool
  deriving DecidableEq, Repr

/-- The non-volatile store (R26, R27): its image, and the image being written while the store is WRITING. -/
structure Store where
  image : StoreImage
  writing : Option StoreImage
  deriving DecidableEq, Repr

/-- The Phase Controller (1.1). -/
structure PhaseState where
  phase : Phase
  staff : Bool
  testValid : Bool
  deriving DecidableEq, Repr

/-- What the slot map says of a slot (R21). -/
inductive SlotClass where
  | pass
  | house (h : ChannelId)
  | guard (g : Fin 32)
  deriving DecidableEq, Repr

/-- One of the 1024 slots of universes 0–3 (R52). -/
structure Slot where
  shadow : Byte
  seen : Bool
  dirty : Bool
  cls : SlotClass
  deriving DecidableEq, Repr

/-- The Stream Rewriter (R52). Slot s of universe u stands at 256 u + s. Malformed-report latches 0–3 are those of the
universes and latch 4 is that of frames that name none; `true` is closed. -/
structure StreamState where
  slots : Vector Slot 1024
  freshness : Freshness
  consoleTimer : Timer
  holdTimer : Timer
  refreshTimer : Timer
  malformed : Vector Bool 5
  deriving DecidableEq, Repr

/-- The Level Engine's three values for one house channel (3). -/
structure Channel where
  request : Byte
  seen : Bool
  output : Byte
  deriving DecidableEq, Repr

/-- The Level Engine (R22, R31). -/
structure LevelState where
  channels : Vector Channel 96
  masters : Vector Byte 24
  stepTimer : Timer
  deriving DecidableEq, Repr

/-- The drop-demand set (R78). -/
structure Demands where
  alarm : Bool
  stageRelease : Bool
  request : Bool
  test : Bool
  raiseFail : Bool
  conflict : Bool
  start : Bool
  deriving DecidableEq, Repr

/-- The members of the drop-demand set by name (R78). -/
inductive Demand where
  | alarm | stageRelease | request | test | raiseFail | conflict | start
  deriving DecidableEq, Repr

/-- The speed window (R82): its count, the reference capture with the wraps since it, and the completed windows. -/
structure SpeedWindow where
  count : Nat
  reference : Option (Nat × Nat)
  completed : Nat
  deriving DecidableEq, Repr

/-- The state of the curtain test record, with the result once CLOSED (R98). -/
inductive TestStatus where
  | empty
  | running
  | closed (pass : Bool)
  deriving DecidableEq, Repr

/-- The curtain test record (R98); `started` is the tick of its acceptance, from which its times are measured. -/
structure TestRecord where
  status : TestStatus
  started : Nat
  firstMove : Option Nat
  highMain : Option Nat
  lowMain : Option Nat
  highSlow : Option Nat
  total : Option Nat
  faults : Word16
  deriving DecidableEq, Repr

/-- The Curtain Governor (R71). The fault set has bit c set for fault code c (R184). -/
structure Curtain where
  state : CurtainState
  holdDrive : Bool
  raisePermit : Bool
  position : Nat
  referenced : Bool
  demands : Demands
  faults : Word16
  capture : Nat
  window : SpeedWindow
  slowEntry : Option Nat
  startTimer : Timer
  stallTimer : Timer
  dropTimer : Timer
  raiseTimer : Timer
  test : TestRecord
  deriving DecidableEq, Repr

/-- The condition of a device map entry; a FIRE entry carries its masked mark (R102). -/
inductive Condition where
  | pre
  | fire (masked : Bool)
  | manual
  | fault
  deriving DecidableEq, Repr

/-- One device map entry (R102). -/
structure Device where
  number : Byte
  condition : Condition
  deriving DecidableEq, Repr

/-- One zone record (R102). The device map is in ascending device order. -/
structure Zone where
  state : ZoneState
  devices : List Device
  knock : Option Byte
  starters : List Byte
  acked : Bool
  ackTimer : Timer
  invTimer : Timer
  window : Timer
  deriving DecidableEq, Repr

/-- The Zone Monitor (R102, R122). -/
structure ZoneMonitor where
  zones : Vector Zone 66
  link : PanelLink
  heartbeat : Timer
  deriving DecidableEq, Repr

/-- The effect set (R126, R128). -/
structure EffectSet where
  curtain : Bool
  emergency : AreaSet
  evacuation : AreaSet
  stageSafe : Bool
  deriving DecidableEq, Repr

/-- The Effect Unit (R126). `noticeDue` is the model's own mark that the act in hand has changed the phase, the stage or
the curtain state (R137); it is clear between steps. -/
structure EffectState where
  set : EffectSet
  stage : Stage
  noticeTimer : Timer
  noticeDue : Bool
  deriving DecidableEq, Repr

/-- Flash progress during a FLASH step (R142, R154). -/
structure FlashProgress where
  low : Bool
  cycles : Nat
  deriving DecidableEq, Repr

/-- A call record (R142). -/
structure Call where
  number : Nat
  program : ProgramId
  priority : Nat
  origin : Origin
  requested : AreaSet
  held : AreaSet
  running : Bool
  cursor : Nat
  counters : Vector Nat 12
  stepTimer : Timer
  awaiting : List Byte
  flash : Option FlashProgress
  deadline : Timer
  deriving DecidableEq, Repr

/-- The Call Sequencer (R142). `freed` is the model's own mark that in the act in hand an area became free or a call
left the pending list (R148); it is clear between steps. -/
structure CallState where
  table : Vector (Option Call) 10
  pendingList : List EntryId
  flash : Vector FlashState 24
  nextNumber : Nat
  clock : Timer
  remaining : Nat
  progress : Vector Progress 6
  freed : Bool
  deriving DecidableEq, Repr

/-- One queue: its whole frames, oldest first, and its overflow latch, `true` when closed (R170). -/
structure Queue where
  frames : List Frame
  latched : Bool
  deriving DecidableEq, Repr

/-- A transmitter (R175): free, sending the head of a queue until a tick, or leaving the idle gap until a tick. -/
inductive TxState where
  | free
  | sending (q : QueueId) (till : Nat)
  | gap (till : Nat)
  deriving DecidableEq, Repr

/-- The Link Ports and Frame Memory (R167, R170, R175). A bad-frame latch is `true` when closed. -/
structure LinkState where
  queues : Vector Queue 7
  tx : Vector TxState 3
  badLatch : Vector Bool 3
  deriving DecidableEq, Repr

/-- An event record (R186). -/
structure EventRecord where
  seq : Word32
  time : Word32
  kind : EventKind
  subject : Byte
  detail0 : Byte
  detail1 : Byte
  deriving DecidableEq, Repr

/-- The Event Log (R186, R189). `removed` says whether a record has been removed from the ring since reset (R188). -/
structure LogState where
  ring : List EventRecord
  next : Word32
  removed : Bool
  statusTimer : Timer
  deriving DecidableEq, Repr

/-- An accepted RESTART on its way (R185): waiting until so many frames of CONSOLE-TX, its reply the last of them, have
been sent; or due at once. -/
inductive RestartState where
  | idle
  | waiting (frames : Nat)
  | due
  deriving DecidableEq, Repr

end Sys2Proof.Machine
end

