-- ==== Sys2Proof/Machine/Flags.lean ====
section
/-! DEFINITION. The behaviour flags of the phases (R1) and the flags the Effect Unit computes from the zones: the
zone-fault attribute, the effect set and the alarm stage (R102, R128, R129). -/

namespace Sys2Proof.Machine

/-- R1, Audience. -/
def audience : Phase → Bool
  | .houseOpen | .performance | .interval | .clearing | .recovery => true
  | .maintenance | .dark | .rehearsal => false

/-- R1, Investigation delay. -/
def permitsDelay : Phase → Bool
  | .rehearsal | .houseOpen | .performance | .interval => true
  | .maintenance | .dark | .clearing | .recovery => false

/-- R1, Curtain raise. -/
def permitsRaise : Phase → Bool
  | .recovery => false
  | .maintenance | .dark | .rehearsal | .houseOpen | .performance | .interval | .clearing => true

/-- R1, SHOW/GENERAL calls. -/
def permitsCalls : Phase → Bool
  | .rehearsal | .houseOpen | .performance | .interval | .clearing => true
  | .maintenance | .dark | .recovery => false

/-- R1, Stage isolation. -/
def permitsIsolation : Phase → Bool
  | .rehearsal | .performance => true
  | .maintenance | .dark | .houseOpen | .interval | .clearing | .recovery => false

/-- R1, R14: the phases whose entry clears staff presence, and in which STAFF-PRESENT is refused. -/
def noStaffPhase : Phase → Bool
  | .maintenance | .dark | .recovery => true
  | .rehearsal | .houseOpen | .performance | .interval | .clearing => false

/-- Whether an entry's condition is FIRE, masked or not. -/
def Condition.isFire : Condition → Bool
  | .fire _ => true
  | .pre | .manual | .fault => false

/-- The zone-fault attribute: the map holds at least one FAULT entry (R102). -/
def Zone.faulty (z : Zone) : Bool := z.devices.any fun d => d.condition = .fault

/-- Whether a map holds a PRE entry or a FIRE entry (R106, R112). -/
def Zone.anyPreOrFire (z : Zone) : Bool := z.devices.any fun d => d.condition = .pre || d.condition.isFire

/-- The effect set with one row's needs added (R128). -/
def addRow (e : EffectSet) (r : ResponseRow) : EffectSet where
  curtain := e.curtain || r.curtainDrop == 1
  emergency := e.emergency ||| r.emergency
  evacuation := e.evacuation ||| r.evacuation
  stageSafe := e.stageSafe || r.stageSafe == 1

/-- The zones in a state, in ascending zone order. -/
def zonesIn (zones : Vector Zone 66) (st : ZoneState) : List ZoneId :=
  (List.finRange 66).filter fun z => zones[z].state = st

/-- R128: the effect set is the union of the rows of the zones in ALARM. -/
def effectSetOf (rows : Vector ResponseRow 66) (zones : Vector Zone 66) : EffectSet :=
  (zonesIn zones .alarm).foldl (fun e z => addRow e rows[z]) ⟨false, 0, 0, false⟩

/-- Whether any zone is in a state. -/
def anyZone (zones : Vector Zone 66) (p : Zone → Bool) : Bool := zones.toList.any p

/-- R129: the highest stage whose condition holds. -/
def stageOf (zones : Vector Zone 66) (link : PanelLink) : Stage :=
  if anyZone zones (fun z => z.state = .alarm) then .evacuate
  else if anyZone zones (fun z => z.state = .investigating) then .staffAlert
  else if anyZone zones (fun z => z.state = .pre || z.state = .firstKnock) || anyZone zones Zone.faulty
      || link = .lost then .attention
  else .normal

/-- The three falling states: what the curtain contribution and ALARM-RESET read (R37, R135). -/
def fallingState : CurtainState → Bool
  | .descending | .slowing | .stalled => true
  | .unknown | .resting | .raising | .out => false

end Sys2Proof.Machine
end

