-- ==== Sys2Proof/Machine/Frames.lean ====
section
/-! DEFINITION. Frames (R165, R166) and the queues of Frame Memory (R170): building a frame, reading its fields, and
filing it whole into a queue with room, which sets a free transmitter to work (R175, R176). -/

namespace Sys2Proof.Machine

/-- Frame kind codes (R165). -/
def kindLevels : Byte := 0x10
/-- MGMT-REQUEST (R165). -/
def kindMgmtRequest : Byte := 0x20
/-- MGMT-REPLY (R165). -/
def kindMgmtReply : Byte := 0x21
/-- ZONE-REPORT (R165). -/
def kindZoneReport : Byte := 0x30
/-- PANEL-BEAT (R165). -/
def kindPanelBeat : Byte := 0x31
/-- PANEL-NOTICE (R165). -/
def kindPanelNotice : Byte := 0x32
/-- CALL-COMMAND (R165). -/
def kindCallCommand : Byte := 0x40
/-- CALL-DONE (R165). -/
def kindCallDone : Byte := 0x41
/-- EVENT (R165). -/
def kindEvent : Byte := 0x50
/-- STATUS (R165). -/
def kindStatus : Byte := 0x51

/-- A frame from its kind, station and body: length byte, then the check over kind through body (R165, R166). -/
def mkFrame (kind station : Byte) (body : List Byte) : Frame :=
  let head := kind :: station :: byteOf body.length :: body
  head ++ bytes16 (crc head)

/-- The kind byte of a frame. -/
def frameKind (f : Frame) : Byte := byteAt f 0

/-- The station byte of a frame. -/
def frameStation (f : Frame) : Byte := byteAt f 1

/-- The body of a frame: as many bytes from byte 3 on as the length byte says (R165). -/
def frameBody (f : Frame) : List Byte := (f.drop 3).take (byteAt f 2).toNat

/-- What the receiver makes of a run of bytes (R167): bad for LENGTH, bad for CHECK, or good. -/
inductive Verdict where
  | badLength
  | badCheck
  | good
  deriving DecidableEq, Repr

/-- R167: fewer than 5 bytes, a length byte above 200, or a byte count other than the length plus 5 is bad for LENGTH;
otherwise a check that differs is bad for CHECK. -/
def judgeFrame (f : Frame) : Verdict :=
  let n := (byteAt f 2).toNat
  if f.length < 5 || 200 < n || f.length != n + 5 then .badLength
  else if crc (f.take (3 + n)) != word16 (byteAt f (3 + n)) (byteAt f (4 + n)) then .badCheck
  else .good

/-- The bytes a frame occupies in its queue: its own and a 4-byte header (R170; DEDUCED, log 10: the header has no
content). -/
def storedSize (f : Frame) : Nat := f.length + 4

/-- The occupied bytes of a queue: the sum over its frames (R170). -/
def occupied (q : Queue) : Nat := (q.frames.map storedSize).sum

/-- The size of a queue's region in the plan in force (R168). -/
def queueSize (t : Tables) (q : QueueId) : Nat := t.link.plan[q.ix].size.toNat

/-- The free bytes of a queue (R170). -/
def freeBytes (t : Tables) (l : LinkState) (q : QueueId) : Nat := queueSize t q - occupied l.queues[q.ix]

/-- Whether a queue has room for a frame: its free bytes are at least the frame's length plus 4 (R170). -/
def hasRoom (t : Tables) (l : LinkState) (q : QueueId) (f : Frame) : Bool := storedSize f ≤ freeBytes t l q

/-- The port whose transmitter serves a queue (9). -/
def portOfQueue : QueueId → Option Port
  | .consoleTx => some .console
  | .rackPass | .rackExpress => some .rack
  | .panelTx => some .panel
  | .consoleRx | .rackRx | .panelRx => none

/-- A waiting transmitter begins the first frame filed in a queue of its own (R175, R176); one byte takes one tick. -/
def startIfFree (now : Nat) (q : QueueId) (f : Frame) (l : LinkState) : LinkState :=
  match portOfQueue q with
  | none => l
  | some p => if l.tx[p.ix] = .free then { l with tx := l.tx.set p.ix (.sending q (now + f.length)) } else l

/-- A frame filed behind the frames already in a queue (R170). -/
def pushFrame (q : QueueId) (f : Frame) (l : LinkState) : LinkState :=
  { l with queues := l.queues.set q.ix { l.queues[q.ix] with frames := l.queues[q.ix].frames ++ [f] } }

/-- A frame offered to a queue: filed whole where there is room, refused whole where there is none (R170). -/
def tryFile (t : Tables) (now : Nat) (q : QueueId) (f : Frame) (l : LinkState) : Option LinkState :=
  if hasRoom t l q f then some (startIfFree now q f (pushFrame q f l)) else none

/-- The head frame leaves its queue; the overflow latch opens when the queue becomes empty (R170). -/
def popFrame (q : QueueId) (l : LinkState) : LinkState :=
  let rest := l.queues[q.ix].frames.drop 1
  { l with queues := l.queues.set q.ix ⟨rest, if rest.isEmpty then false else l.queues[q.ix].latched⟩ }

/-- The Link Ports with all seven queues empty, their latches open and the transmitters free (R169, R175). -/
def emptyQueues (l : LinkState) : LinkState :=
  { l with queues := Vector.replicate 7 ⟨[], false⟩, tx := Vector.replicate 3 .free }

/-- The bytes of an event record in the EVENT layout (R165). -/
def recordBytes (r : EventRecord) : List Byte :=
  bytes32 r.seq ++ bytes32 r.time ++ [r.kind.code, r.subject, r.detail0, r.detail1]

/-- The EVENT frame of a record, carrying the station in force (R187). -/
def eventFrame (t : Tables) (r : EventRecord) : Frame := mkFrame kindEvent t.link.station (recordBytes r)

end Sys2Proof.Machine
end

