-- ==== Sys2Proof/Machine/Validation.lean ====
section
/-! DEFINITION. Validation of the working copy (R24): every table's checks, numbered as its owner chapter numbers them,
in the order tables ascending, entries ascending, checks as listed. -/

namespace Sys2Proof.Machine

/-- One check with its number in its owner's list. -/
abbrev Check := Nat × Bool

/-- The number of the first check that fails. -/
def firstFailed (cs : List Check) : Option Nat := (cs.find? fun c => !c.2).map (·.1)

/-- A value within a closed range. -/
def within (lo hi : Nat) (v : Nat) : Bool := lo ≤ v && v ≤ hi

/-- Every area of a set is in use. -/
def allInUse (t : Tables) (s : AreaSet) : Bool := (areasOf s).all (areaInUse t)

/-- Whether a channel is marked in use. -/
def channelInUse (e : ChannelEntry) : Bool := e.inUse = 1

/-- Whether a guard is marked in use. -/
def guardInUse (e : GuardEntry) : Bool := e.inUse = 1

/-- R17: checks 1–3 of an AREAS entry. -/
def areaChecks (t : Tables) (i : Fin 24) : List Check :=
  let e := t.areas[i]
  [(1, within 0 6 e.kind.toNat)] ++
    if e.kind = 0 then [] else
      [(2, within 0 126 e.callUnit.toNat),
       (3, e.callUnit = 0 || (List.finRange 24).all fun j =>
          !(j.val < i.val && areaInUse t j && t.areas[j].callUnit = e.callUnit))]

/-- R19: checks 1–9 of a CHANNELS entry. -/
def channelChecks (t : Tables) (i : Fin 96) : List Check :=
  let e := t.channels[i]
  [(1, within 0 1 e.inUse.toNat)] ++
    if !channelInUse e then [] else
      [(2, within 0 23 e.area.toNat),
       (3, match areaIdOf e.area with | some a => areaInUse t a | none => false),
       (4, within 0 3 e.univ.toNat),
       (5, e.floor.toNat ≤ e.ceiling.toNat),
       (6, within 0 1 e.marker.toNat),
       (7, within 1 255 e.rise.toNat),
       (8, within 1 255 e.fall.toNat),
       (9, (List.finRange 96).all fun j =>
          !(j.val < i.val && channelInUse t.channels[j] && t.channels[j].univ = e.univ && t.channels[j].slot = e.slot))]

/-- R20: checks 1–4 of a GUARDS entry. -/
def guardChecks (t : Tables) (i : Fin 32) : List Check :=
  let e := t.guards[i]
  [(1, within 0 1 e.inUse.toNat)] ++
    if !guardInUse e then [] else
      [(2, within 0 3 e.univ.toNat),
       (3, (List.finRange 96).all fun j =>
          !(channelInUse t.channels[j] && t.channels[j].univ = e.univ && t.channels[j].slot = e.slot)),
       (4, (List.finRange 32).all fun j =>
          !(j.val < i.val && guardInUse t.guards[j] && t.guards[j].univ = e.univ && t.guards[j].slot = e.slot))]

/-- R53: checks 1–2 of the STREAM record. -/
def streamChecks (t : Tables) : List Check :=
  [(1, within 100 5000 t.stream.timeout.toNat), (2, within 0 60 t.stream.hold.toNat)]

/-- R74: checks 1–15 of the CURTAIN record. -/
def curtainChecks (t : Tables) : List Check :=
  let r := t.curtain
  [(1, within 1000 65000 r.travel.toNat), (2, within 50 2000 r.pitch.toNat), (3, within 1 64 r.window.toNat),
   (4, within 1 2000 r.vmax.toNat), (5, within 1 2000 r.vmin.toNat), (6, within 1 2000 r.vslow.toNat),
   (7, r.vmin.toNat < r.vmax.toNat), (8, r.vslow.toNat < r.vmax.toNat), (9, r.slowStart.toNat < r.travel.toNat),
   (10, within 0 4095 r.grace.toNat), (11, within 500 5000 r.startWindow.toNat), (12, within 100 2000 r.stallLimit.toNat),
   (13, within 5 60 r.maxDrop.toNat), (14, within 10 300 r.maxRaise.toNat), (15, within 1 1000 r.driftTol.toNat)]

/-- R100: checks 1–14 of a RESPONSE row. -/
def responseChecks (t : Tables) (i : Fin 66) : List Check :=
  let r := t.response[i]
  [(1, within 0 6 r.cls.toNat), (2, if i.val < 64 then r.cls != 6 else r.cls = 6)] ++
    if r.cls = 0 then [] else
      [(3, within 0 1 r.coincidence.toNat), (4, within 0 1 r.delay.toNat), (5, within 10 120 r.ackWindow.toNat),
       (6, within 30 300 r.invTime.toNat), (7, r.ackWindow.toNat ≤ r.invTime.toNat), (8, within 0 1 r.isolation.toNat),
       (9, r.isolation != 1 || r.cls = 1), (10, within 0 1 r.curtainDrop.toNat), (11, allInUse t r.emergency),
       (12, allInUse t r.evacuation), (13, within 0 1 r.stageSafe.toNat),
       (14, r.cls != 6 || (r.coincidence = 0 && r.delay = 0))]

/-- Whether a program byte of the ALARM record names a program whose class is as asked; NONE passes (R127). -/
def alarmProgramClass (t : Tables) (b cls : Byte) : Bool :=
  match programIdOf b with
  | some p => t.programs[p].cls = cls
  | none => true

/-- R127: checks 1–6 of the ALARM record. -/
def alarmChecks (t : Tables) : List Check :=
  let r := t.alarm
  [(1, allInUse t r.staffAreas), (2, r.staffProgram.toNat ≤ 15 || r.staffProgram = 255),
   (3, alarmProgramClass t r.staffProgram 1), (4, r.evacProgram.toNat ≤ 15 || r.evacProgram = 255),
   (5, alarmProgramClass t r.evacProgram 0), (6, within 1 255 r.riseRate.toNat)]

/-- Whether a step is final: END, or REPEAT with count FOREVER (R140). -/
def finalStep (e : StepBytes) : Bool := e.kind = 0 || (e.kind = 5 && e.b = 255)

/-- R140: checks 4–13 of the reachable step at index i. -/
def stepChecks (cls : Byte) (e : StepBytes) (i : Nat) : List Check :=
  [(4, within 0 5 e.kind.toNat),
   (5, e.kind != 1 || (within 0 7 e.a.toNat && within 1 4 e.b.toNat)),
   (6, e.kind != 2 || within 1 120 e.b.toNat),
   (7, e.kind != 3 || within 4 100 e.a.toNat),
   (8, e.kind != 3 || within 1 (e.a.toNat - 1) e.b.toNat),
   (9, e.kind != 3 || within 1 20 e.c.toNat),
   (10, e.kind != 4 || within 1 1200 (word16 e.a e.b).toNat),
   (11, e.kind != 5 || e.a.toNat < i),
   (12, e.kind != 5 || within 1 15 e.b.toNat || e.b = 255),
   (13, e.kind != 5 || e.b != 255 || within 0 1 cls.toNat)]

/-- The reachable steps of a program: up to and including its first final step (R140). -/
def reachable (steps : List StepBytes) : List StepBytes :=
  steps.take ((steps.findIdx finalStep) + 1)

/-- R140: checks 1–13 of a program. -/
def programChecks (t : Tables) (i : Fin 16) : List Check :=
  let p := t.programs[i]
  [(1, within 0 3 p.cls.toNat), (2, within 0 120 p.deadline.toNat), (3, p.steps.toList.any finalStep)] ++
    (reachable p.steps.toList).zipIdx.flatMap fun e => stepChecks p.cls e.1 e.2

/-- R141: checks 3–8 of one schedule entry. -/
def scheduleEntryChecks (t : Tables) (e : ScheduleEntry) : List Check :=
  [(3, within 0 1 e.enabled.toNat)] ++
    if e.enabled != 1 then [] else
      [(4, within 0 3600 e.offset.toNat), (5, within 0 15 e.program.toNat),
       (6, match programIdOf e.program with | some p => within 2 3 t.programs[p].cls.toNat | none => false),
       (7, e.areas != 0), (8, allInUse t e.areas)]

/-- R141: checks 1–8 of the SCHEDULE record. -/
def scheduleChecks (t : Tables) : List Check :=
  let r := t.schedule
  [(1, within 60 3600 r.length.toNat), (2, within 500 3000 r.spacing.toNat)] ++
    r.entries.toList.flatMap (scheduleEntryChecks t)

/-- Whether two queue regions share a byte (R168 check 6). -/
def regionsShare (a b : QueueRegion) : Bool :=
  max a.start.toNat b.start.toNat < min (a.start.toNat + a.size.toNat) (b.start.toNat + b.size.toNat)

/-- R168: checks 1–7 of the LINK record. -/
def linkChecks (t : Tables) : List Check :=
  let r := t.link
  [(1, within 1 126 r.station.toNat), (2, within 1 10 r.heartbeat.toNat)] ++
    (r.plan.toList.flatMap fun q =>
      [(3, decide (256 ≤ q.size.toNat)), (4, q.start.toNat % 64 = 0), (5, q.start.toNat + q.size.toNat ≤ 8192)]) ++
    [(6, (List.finRange 7).all fun i => (List.finRange 7).all fun j =>
        !(j.val < i.val && regionsShare r.plan[i] r.plan[j])),
     (7, (List.finRange 24).all fun a => unitOf t a != some r.station)]

/-- The checks of every entry of every table in validation order: table number, entry number, checks (R24). -/
def entryChecks (t : Tables) : List (Nat × Nat × List Check) :=
  (List.finRange 24).map (fun i => (0, i.val, areaChecks t i)) ++
    (List.finRange 96).map (fun i => (1, i.val, channelChecks t i)) ++
    (List.finRange 32).map (fun i => (2, i.val, guardChecks t i)) ++
    [(3, 0, streamChecks t), (4, 0, curtainChecks t)] ++
    (List.finRange 66).map (fun i => (5, i.val, responseChecks t i)) ++
    [(6, 0, alarmChecks t)] ++
    (List.finRange 16).map (fun i => (7, i.val, programChecks t i)) ++
    [(8, 0, scheduleChecks t), (9, 0, linkChecks t)]

/-- R24: VALID (`none`), or the triple of table, entry and check of the first failure. -/
def validate (t : Tables) : Option (Nat × Nat × Nat) :=
  (entryChecks t).findSome? fun e => (firstFailed e.2.2).map fun c => (e.1, e.2.1, c)

end Sys2Proof.Machine
end

