-- ==== Sys2Proof/Machine/Reset.lean ====
section
/-! DEFINITION. Tables taking force (R21, R22, R49, R50, R67) and the values every block takes at a reset (R52, R71,
R102, R126, R142, R186), block by block, for the tables that took force. -/

namespace Sys2Proof.Machine

/-- The index of a slot among the 1024 of universes 0–3; a universe above 3 gives an index beyond them. -/
def slotIndex (univ slot : Byte) : Nat := 256 * univ.toNat + slot.toNat

/-- A slot made HOUSE or GUARD, and marked dirty (R21, R67). -/
def markSlot (c : SlotClass) (i : Nat) (v : Vector Slot 1024) : Vector Slot 1024 :=
  if h : i < 1024 then v.set i { v[i] with cls := c, dirty := true } else v

/-- R21 and R67: the slot map derived from CHANNELS and GUARDS, every dirty mark cleared and then set on every HOUSE and
GUARD slot. The shadow is not changed. -/
def deriveSlots (t : Tables) (old : Vector Slot 1024) : Vector Slot 1024 :=
  let clear := mapVec (fun x => { x with dirty := false, cls := .pass }) old
  let guards := (List.finRange 32).foldl (fun v g =>
    if guardInUse t.guards[g] then markSlot (.guard g) (slotIndex t.guards[g].univ t.guards[g].slot) v else v) clear
  (List.finRange 96).foldl (fun v h =>
    if channelInUse t.channels[h] then markSlot (.house h) (slotIndex t.channels[h].univ t.channels[h].slot) v else v)
    guards

/-- A slot never seen, at level 0, PASS and clear (R52). -/
def blankSlot : Slot := ⟨0, false, false, .pass⟩

/-- The slot at an index; a blank one beyond the 1024. -/
def slotAt (v : Vector Slot 1024) (i : Nat) : Slot := v.getD i blankSlot

/-- R36: a base raised to at least the floor where the audience flag is set, and lowered to at most the ceiling. -/
def windowLevel (aud : Bool) (floor ceiling base : Nat) : Nat :=
  min ceiling (if aud then max base floor else base)

/-- R21, R44, R49, R50: a channel as the tables take force: request and seen flag from the shadow, output at the loss
level held in its window; everything 0 and clear where it is not in use. -/
def forcedChannel (aud : Bool) (slots : Vector Slot 1024) (e : ChannelEntry) : Channel :=
  if channelInUse e then
    let s := slotAt slots (slotIndex e.univ e.slot)
    ⟨s.shadow, s.seen, byteOf (windowLevel aud e.floor.toNat e.ceiling.toNat e.loss.toNat)⟩
  else ⟨0, false, 0⟩

/-- Every channel as the tables take force. -/
def forcedChannels (aud : Bool) (t : Tables) (slots : Vector Slot 1024) : Vector Channel 96 :=
  mapVec (forcedChannel aud slots) t.channels

/-- R22: every master set to the initial master of its entry. -/
def forcedMasters (t : Tables) : Vector Byte 24 := mapVec (·.master) t.areas

/-- A period, started at tick 0. -/
def periodMs (ms : Nat) : Timer := some (ms * ticksPerMs)

/-- The Stream Rewriter after reset (R52). -/
def freshStream (t : Tables) : StreamState where
  slots := deriveSlots t (Vector.replicate 1024 blankSlot)
  freshness := .lost
  consoleTimer := none
  holdTimer := none
  refreshTimer := periodMs 1000
  malformed := Vector.replicate 5 false

/-- The Level Engine after reset, for the phase the load gives (R31, R49). -/
def freshLevels (t : Tables) (p : Phase) : LevelState where
  channels := forcedChannels (audience p) t (freshStream t).slots
  masters := forcedMasters t
  stepTimer := periodMs 25

/-- An empty drop-demand set. -/
def noDemands : Demands := ⟨false, false, false, false, false, false, false⟩

/-- The speed window restarted (R82). -/
def freshWindow : SpeedWindow := ⟨0, none, 0⟩

/-- An empty test record (R71). -/
def emptyTest : TestRecord := ⟨.empty, 0, none, none, none, none, none, 0⟩

/-- The Curtain Governor after reset (R71). -/
def freshCurtain (t : Tables) : Curtain where
  state := .unknown
  holdDrive := false
  raisePermit := false
  position := 0
  referenced := false
  demands := { noDemands with start := true }
  faults := 0
  capture := 0
  window := freshWindow
  slowEntry := none
  startTimer := some (t.curtain.startWindow.toNat * ticksPerMs)
  stallTimer := none
  dropTimer := some (t.curtain.maxDrop.toNat * ticksPerS)
  raiseTimer := none
  test := emptyTest

/-- A zone record after reset (R102). -/
def freshZone : Zone := ⟨.quiet, [], none, [], false, none, none, none⟩

/-- The Zone Monitor after reset (R102, R122). -/
def freshZones (t : Tables) : ZoneMonitor where
  zones := Vector.replicate 66 freshZone
  link := .awaiting
  heartbeat := some (t.link.heartbeat.toNat * ticksPerS)

/-- An empty effect set (R126). -/
def emptyEffects : EffectSet := ⟨false, 0, 0, false⟩

/-- The Effect Unit after reset (R126). -/
def freshEffects : EffectState := ⟨emptyEffects, .normal, periodMs 1000, false⟩

/-- The Call Sequencer after reset (R142). -/
def freshCalls : CallState where
  table := Vector.replicate 10 none
  pendingList := []
  flash := Vector.replicate 24 .inactive
  nextNumber := 1
  clock := none
  remaining := 0
  progress := Vector.replicate 6 .discarded
  freed := false

/-- The phase a load sets (R3): RECOVERY after LOADED, MAINTENANCE after BLANK. -/
def phaseAfterLoad (loaded : Bool) : Phase := if loaded then .recovery else .maintenance

/-- The Phase Controller after reset (R3). -/
def freshPhase (loaded : Bool) : PhaseState := ⟨phaseAfterLoad loaded, false, false⟩

/-- The RESET record, numbered 1 at time 0 (R186, 11.2). -/
def resetRecord (cause : ResetCause) (loaded : Bool) : EventRecord :=
  ⟨1, 0, .reset, 0, cause.code, if loaded then 0 else 1⟩

/-- The Event Log after reset: the ring holds the RESET record (R186, R189). -/
def freshLog (cause : ResetCause) (loaded : Bool) : LogState :=
  ⟨[resetRecord cause loaded], 2, false, periodMs 1000⟩

/-- The Link Ports after reset (R167, R169), with the RESET record's EVENT frame offered to CONSOLE-TX (R187). -/
def freshLinks (t : Tables) (cause : ResetCause) (loaded : Bool) : LinkState :=
  let l : LinkState := ⟨Vector.replicate 7 ⟨[], false⟩, Vector.replicate 3 .free, Vector.replicate 3 false⟩
  (tryFile t 0 .consoleTx (eventFrame t (resetRecord cause loaded)) l).getD l

/-- Every input line released (DESIGN CHOICE, log 6). -/
def releasedLines : Lines := ⟨false, false, false, false, false, false, false, false⟩

/-- A store that has never been written: its marker is absent (R26); the rest of the image is not
read (DESIGN CHOICE, log 6). -/
def blankStore : Store := ⟨⟨none, defaultTables, 0⟩, none⟩

end Sys2Proof.Machine
end

