-- ==== Sys2Proof/Machine/State.lean ====
section
/-! DEFINITION. The state of the part, the reasons a step can stop, and the part right after reset. -/

namespace Sys2Proof.Machine

/-- The reasons a step faults: there is none. The manual names no event that stops the part, and every command has an
effect, if only to leave the state as it is. -/
inductive Fault where
  deriving DecidableEq, Repr

/-- The reasons a step is refused. -/
inductive Refusal where
  /-- Raised by exec's arm of a command that has no meaning yet; safe, since the run stops. -/
  | notModelled (mnemonic : String)
  deriving DecidableEq, Repr

/-- The whole state of the part: the commands waiting, the time since the tables took force in ticks of 10 µs, the input
lines, and the twelve blocks. -/
structure State where
  pending : List Instr
  now : Nat
  lines : Lines
  store : Store
  working : Tables
  tables : Tables
  phase : PhaseState
  stream : StreamState
  levels : LevelState
  curtain : Curtain
  monitor : ZoneMonitor
  effects : EffectState
  calls : CallState
  links : LinkState
  log : LogState
  restart : RestartState
  deriving DecidableEq, Repr

/-- The part right after the power-on sequence with a store that has never been written (R3, R29): the built-in defaults
in force, phase MAINTENANCE, every block at its reset value, every input line released (DESIGN CHOICE, log 6). -/
def State.reset : State where
  pending := []
  now := 0
  lines := releasedLines
  store := blankStore
  working := defaultTables
  tables := defaultTables
  phase := freshPhase false
  stream := freshStream defaultTables
  levels := freshLevels defaultTables (phaseAfterLoad false)
  curtain := freshCurtain defaultTables
  monitor := freshZones defaultTables
  effects := freshEffects
  calls := freshCalls
  links := freshLinks defaultTables .powerOn false
  log := freshLog .powerOn false
  restart := .idle

end Sys2Proof.Machine
end

