-- ==== Sys2Proof/Machine/Ops.lean ====
section
/-! DEFINITION. The named operations every block shares: replacing one block's state, writing an event record (R186,
R187), offering a frame to a queue with the overflow reporting of R170, taking a frame from a receive queue, and the
PANEL-NOTICE of an act (R137). The part has no exception entry; its faults are records and states. -/

namespace Sys2Proof.Machine

/-! ### One block replaced -/

/-- The commands waiting replaced. -/
def State.withPending (s : State) (x : List Instr) : State := { s with pending := x }
/-- The time replaced. -/
def State.withNow (s : State) (x : Nat) : State := { s with now := x }
/-- The input lines replaced. -/
def State.withLines (s : State) (x : Lines) : State := { s with lines := x }
/-- The store replaced. -/
def State.withStore (s : State) (x : Store) : State := { s with store := x }
/-- The working copy replaced. -/
def State.withWorking (s : State) (x : Tables) : State := { s with working := x }
/-- The tables in force replaced. -/
def State.withTables (s : State) (x : Tables) : State := { s with tables := x }
/-- The Phase Controller replaced. -/
def State.withPhase (s : State) (x : PhaseState) : State := { s with phase := x }
/-- The Stream Rewriter replaced. -/
def State.withStream (s : State) (x : StreamState) : State := { s with stream := x }
/-- The Level Engine replaced. -/
def State.withLevels (s : State) (x : LevelState) : State := { s with levels := x }
/-- The Curtain Governor replaced. -/
def State.withCurtain (s : State) (x : Curtain) : State := { s with curtain := x }
/-- The Zone Monitor replaced. -/
def State.withMonitor (s : State) (x : ZoneMonitor) : State := { s with monitor := x }
/-- The Effect Unit replaced. -/
def State.withEffects (s : State) (x : EffectState) : State := { s with effects := x }
/-- The Call Sequencer replaced. -/
def State.withCalls (s : State) (x : CallState) : State := { s with calls := x }
/-- The Link Ports and Frame Memory replaced. -/
def State.withLinks (s : State) (x : LinkState) : State := { s with links := x }
/-- The Event Log replaced. -/
def State.withLog (s : State) (x : LogState) : State := { s with log := x }
/-- The RESTART on its way replaced. -/
def State.withRestart (s : State) (x : RestartState) : State := { s with restart := x }

/-! ### Timers -/

/-- A timer started now, to expire after so many milliseconds. -/
def afterMs (s : State) (ms : Nat) : Timer := some (s.now + ms * ticksPerMs)

/-- A timer started now, to expire after so many seconds. -/
def afterS (s : State) (n : Nat) : Timer := some (s.now + n * ticksPerS)

/-- A timer started now, to expire after so many call units of 50 ms. -/
def afterUnits (s : State) (n : Nat) : Timer := some (s.now + n * ticksPerUnit)

/-! ### The Event Log -/

/-- The house clock: milliseconds since the tables took force, wrapping after 4294967295 (R186). -/
def houseClock (s : State) : Word32 := BitVec.ofNat 32 (s.now / ticksPerMs)

/-- The sequence number after a number: 1 after 4294967295, because 0 is never given (R186). -/
def nextSeq (w : Word32) : Word32 := if w = 0xFFFFFFFF#32 then 1 else w + 1

/-- A record joined to the ring as its newest member; beyond 256 the oldest are removed (R186). -/
def joinRing (ring : List EventRecord) (r : EventRecord) : List EventRecord :=
  (ring ++ [r]).drop (ring.length + 1 - 256)

/-- The record a block writes now: the next sequence number, the house clock, and what the block gives (R186). -/
def recordNow (s : State) (k : EventKind) (subject d0 d1 : Byte) : EventRecord :=
  ⟨s.log.next, houseClock s, k, subject, d0, d1⟩

/-- The Event Log with one record written (R186). -/
def loggedIn (g : LogState) (r : EventRecord) : LogState :=
  { g with ring := joinRing g.ring r, next := nextSeq g.next, removed := g.removed || decide (256 ≤ g.ring.length) }

/-- The Link Ports after an EVENT frame is offered to CONSOLE-TX: a refused one is dropped without a trace (R170, R187). -/
def eventOffered (s : State) (r : EventRecord) : LinkState :=
  (tryFile s.tables s.now .consoleTx (eventFrame s.tables r) s.links).getD s.links

/-- R186, R187: a record is numbered, stamped, placed in the ring and offered to CONSOLE-TX as an EVENT frame. -/
def writeRecord (k : EventKind) (subject d0 d1 : Byte) (s : State) : State :=
  let r := recordNow s k subject d0 d1
  (s.withLog (loggedIn s.log r)).withLinks (eventOffered s r)

/-! ### Queues -/

/-- The head frame of a queue. -/
def headFrame (s : State) (q : QueueId) : Option Frame := s.links.queues[q.ix].frames.head?

/-- The head frame leaves its queue (R170). -/
def dropHead (q : QueueId) (s : State) : State := s.withLinks (popFrame q s.links)

/-- A queue's overflow latch closed. -/
def closeLatch (q : QueueId) (l : LinkState) : LinkState :=
  { l with queues := modAt l.queues q.ix fun x => { x with latched := true } }

/-- R170: what a queue does on refusing a frame: a QUEUE-OVERFLOW record if its latch is open, and the latch closes. -/
def overflowed (q : QueueId) (f : Frame) (s : State) : State :=
  if s.links.queues[q.ix].latched then s
  else
    let s1 := writeRecord .queueOverflow q.code (frameKind f) (byteSat f.length) s
    s1.withLinks (closeLatch q s1.links)

/-- Whether a queue would accept a frame now. -/
def accepts (q : QueueId) (f : Frame) (s : State) : Bool := hasRoom s.tables s.links q f

/-- R170: a frame offered to a queue by any producer but the Event Log's own EVENT frames (DEDUCED, log 12). -/
def offer (q : QueueId) (f : Frame) (s : State) : State :=
  match tryFile s.tables s.now q f s.links with
  | some l => s.withLinks l
  | none => overflowed q f s

/-! ### Acts -/

/-- The mark that the act in hand has changed the phase, the alarm stage or the curtain state (R137). -/
def noticeIsDue (s : State) : State := s.withEffects { s.effects with noticeDue := true }

/-- A PANEL-NOTICE of the state as it stands (R137). -/
def panelNotice (s : State) : Frame :=
  mkFrame kindPanelNotice s.tables.link.station [s.phase.phase.code, s.effects.stage.code, s.curtain.state.code]

/-- R137 item 2: where the act changed one of the three, one notice is built and offered to PANEL-TX. -/
def sendNotice (s : State) : State :=
  if s.effects.noticeDue then
    let s1 := s.withEffects { s.effects with noticeDue := false }
    offer .panelTx (panelNotice s1) s1
  else s

end Sys2Proof.Machine
end

