-- ==== Sys2Proof/Machine/Calls.lean ====
section
/-! DEFINITION. The Call Sequencer's operations (R142 to R159): numbering, unit commands, ending a call, the steps of a
program, pre-emption, starting, admission, the examination of the pending list, suppression, and the two calls of the
Effect Unit. -/

namespace Sys2Proof.Machine

/-! ### The call table -/

/-- The call in an entry. -/
def callAt (s : State) (e : EntryId) : Option Call := s.calls.table[e]

/-- The call table with one entry replaced. -/
def putCall (e : EntryId) (c : Option Call) (s : State) : State :=
  s.withCalls { s.calls with table := putAt s.calls.table e c }

/-- The entry of the RUNNING call that holds an area (R142; DEDUCED, log 11: derived, not held). -/
def holderOf (cs : CallState) (a : AreaId) : Option EntryId :=
  (List.finRange 10).find? fun e =>
    match cs.table[e] with
    | some c => c.running && hasArea c.held a
    | none => false

/-- The mark that an area became free or a call left the pending list (R148). -/
def markFreed (s : State) : State := s.withCalls { s.calls with freed := true }

/-- The flash state of every area of a set. -/
def setFlash (areas : AreaSet) (f : FlashState) (s : State) : State :=
  s.withCalls { s.calls with flash := tabulate 24 fun a => if hasArea areas a then f else s.calls.flash[a] }

/-- The number after a call number, wrapping from 255 to 1 (R143). -/
def numberAfter (n : Nat) : Nat := if 255 ≤ n then 1 else n + 1

/-- Whether a call number belongs to a call in the table. -/
def numberInUse (cs : CallState) (n : Nat) : Bool :=
  cs.table.toList.any fun c => match c with
    | some c => c.number = n
    | none => false

/-- R143: the first number not in use from a number on. The table holds ten calls, so eleven tries suffice. -/
def freeNumber (cs : CallState) : Nat → Nat → Nat
  | 0, n => n
  | k + 1, n => if numberInUse cs n then freeNumber cs k (numberAfter n) else n

/-- The step at a call's cursor in the tables in force (R139, R150); END beyond the twelve steps, which no valid
program reaches (R140). -/
def stepAt (t : Tables) (c : Call) : StepBytes := t.programs[c.program].steps.toList.getD c.cursor ⟨0, 0, 0, 0⟩

/-! ### Unit commands -/

/-- CALL-COMMAND codes (R165): CHIME. -/
def cmdChime : Byte := 1
/-- PLAY (R165). -/
def cmdPlay : Byte := 2
/-- STOP (R165). -/
def cmdStop : Byte := 3

/-- R151: a command offered to RACK-EXPRESS for a unit. -/
def sendCommand (unit cmd a b : Byte) (s : State) : State :=
  offer .rackExpress (mkFrame kindCallCommand unit [cmd, a, b]) s

/-- R151: a command for the unit of an area, where it has one. -/
def sendToArea (cmd x y : Byte) (s : State) (a : AreaId) : State :=
  match unitOf s.tables a with
  | some u => sendCommand u cmd x y s
  | none => s

/-- R151: a command for the unit of each area of a set, in ascending area order. -/
def sendToAreas (areas : AreaSet) (cmd x y : Byte) (s : State) : State := (areasOf areas).foldl (sendToArea cmd x y) s

/-- The units of the areas of a set, in ascending area order. -/
def unitsOf (t : Tables) (areas : AreaSet) : List Byte := (areasOf areas).filterMap (unitOf t)

/-! ### The end of a call -/

/-- R144: the outcomes that call for STOP commands. -/
def stopsUnits (t : Tables) (o : CallOutcome) (c : Call) : Bool :=
  match o with
  | .cancelled => c.running && (stepAt t c).kind = 2
  | .suppressed => c.running
  | .resetByAlarm | .alertOver => true
  | .done | .expired | .preempted => false

/-- R144: a call ends; the pending list is examined when the act ends (R148). -/
def endCall (o : CallOutcome) (e : EntryId) (s : State) : State :=
  match callAt s e with
  | none => s
  | some c =>
    let s1 := if stopsUnits s.tables o c then sendToAreas c.held cmdStop 0 0 s else s
    let cs := s1.calls
    let s2 := setFlash c.held .inactive (s1.withCalls { cs with
      table := putAt cs.table e none
      pendingList := cs.pendingList.filter fun x => x != e
      freed := cs.freed || cs.pendingList.contains e || c.held != 0 })
    writeRecord .callEnded (byteOf c.number) o.code (byteOf c.program.val) s2

/-! ### Steps -/

/-- A call with its cursor moved and its step's timer, awaiting units and flash progress cleared. -/
def moveCursor (c : Call) (to_ : Nat) : Call :=
  { c with cursor := to_, stepTimer := none, awaiting := [], flash := none }

/-- R155: a REPEAT step acts. -/
def repeatStep (c : Call) (st : StepBytes) : Call :=
  let n := c.counters.toList.getD c.cursor 0
  if st.b = 255 then moveCursor c st.a.toNat
  else if n < st.b.toNat then
    moveCursor { c with counters := c.counters.setIfInBounds c.cursor (n + 1) } st.a.toNat
  else moveCursor { c with counters := c.counters.setIfInBounds c.cursor 0 } (c.cursor + 1)

/-- R152: a CHIME step begins. -/
def beginChime (e : EntryId) (c : Call) (st : StepBytes) (s : State) : State :=
  putCall e (some { c with stepTimer := afterMs s (st.b.toNat * s.tables.schedule.spacing.toNat) })
    (sendToAreas c.held cmdChime st.a st.b s)

/-- R153: a MESSAGE step begins. -/
def beginMessage (e : EntryId) (c : Call) (st : StepBytes) (s : State) : State :=
  putCall e (some { c with stepTimer := afterS s st.b.toNat, awaiting := unitsOf s.tables c.held })
    (sendToAreas c.held cmdPlay st.a 0 s)

/-- R154: a FLASH step begins. -/
def beginFlash (e : EntryId) (c : Call) (st : StepBytes) (s : State) : State :=
  putCall e (some { c with stepTimer := afterUnits s st.b.toNat, flash := some ⟨true, 0⟩ }) (setFlash c.held .low s)

/-- R152: a WAIT step begins. -/
def beginWait (e : EntryId) (c : Call) (st : StepBytes) (s : State) : State :=
  putCall e (some { c with stepTimer := afterUnits s (word16 st.a st.b).toNat }) s

/-- R150, R155: a call begins the step at its cursor. REPEAT acts at once, so a run of jumps is followed; the count of
steps followed is the model's own bound (DESIGN CHOICE, log 21), far beyond what a valid program's jumps can make
(R140). -/
def runSteps : Nat → EntryId → State → State
  | 0, _, s => s
  | n + 1, e, s =>
    match callAt s e with
    | none => s
    | some c =>
      let st := stepAt s.tables c
      match st.kind.toNat with
      | 1 => beginChime e c st s
      | 2 => beginMessage e c st s
      | 3 => beginFlash e c st s
      | 4 => beginWait e c st s
      | 5 => runSteps n e (putCall e (some (repeatStep c st)) s)
      | _ => endCall .done e s

/-- The bound on jumps followed. -/
def jumpBound : Nat := 512

/-- R150: a call's current step ends, and the next begins in the same act. -/
def stepEnds (e : EntryId) (s : State) : State :=
  match callAt s e with
  | none => s
  | some c => runSteps jumpBound e (putCall e (some (moveCursor c (c.cursor + 1))) s)

/-! ### Pre-emption and starting -/

/-- An area joins a call's held areas. -/
def takeArea (w : EntryId) (a : AreaId) (s : State) : State :=
  match callAt s w with
  | none => s
  | some c => putCall w (some { c with held := c.held ||| oneArea a }) s

/-- R147 step 2: a call loses an area, and its unit leaves the awaiting units. -/
def loseArea (t : Tables) (a : AreaId) (c : Call) : Call :=
  { c with
    held := dropArea c.held a
    awaiting := match unitOf t a with
      | some u => c.awaiting.filter fun x => x != u
      | none => c.awaiting }

/-- R147: call `w` pre-empts the holder of an area; where `takes` is clear the area is left with no holder. -/
def preempt (w : EntryId) (takes : Bool) (s : State) (a : AreaId) : State :=
  match holderOf s.calls a with
  | none => s
  | some l =>
    if l = w then s else
    match callAt s l with
    | none => s
    | some c =>
      let c1 := loseArea s.tables a c
      let s1 := setFlash (oneArea a) .inactive (putCall l (some c1) (sendToArea cmdStop 0 0 s a))
      let s2 := if c1.held != 0 && c1.awaiting.isEmpty && !c.awaiting.isEmpty then stepEnds l s1 else s1
      let s3 := if takes then takeArea w a s2 else markFreed s2
      if c1.held = 0 then endCall .preempted l s3 else s3

/-- R146 case 1, R147: a call takes an area, from its holder if it has one. -/
def seizeArea (w : EntryId) (s : State) (a : AreaId) : State := takeArea w a (preempt w true s a)

/-- R143, R146 case 1: a call takes every requested area, becomes RUNNING and begins step 0. -/
def startRunning (e : EntryId) (s : State) : State :=
  match callAt s e with
  | none => s
  | some c0 =>
    let s1 := (areasOf c0.requested).foldl (seizeArea e) s
    match callAt s1 e with
    | none => s1
    | some c =>
      runSteps jumpBound e (writeRecord .callStarted (byteOf c.number) (byteOf c.program.val) c.origin.code
        (putCall e (some { moveCursor c 0 with running := true }) s1))

/-! ### Admission -/

/-- A call as admitted: no held areas, counters 0 (R146). Its cursor, which READ-CALLS shows while the call is PENDING,
is 0 until the call begins step 0 (DESIGN CHOICE, log 29). -/
def newCall (n : Nat) (p : ProgramId) (priority : Nat) (o : Origin) (areas : AreaSet) : Call where
  number := n
  program := p
  priority := priority
  origin := o
  requested := areas
  held := 0
  running := false
  cursor := 0
  counters := Vector.replicate 12 0
  stepTimer := none
  awaiting := []
  flash := none
  deadline := none

/-- R143: a call is given a number and placed in its entry. -/
def placeCall (e : EntryId) (p : ProgramId) (o : Origin) (areas : AreaSet) (s : State) : State :=
  let n := freeNumber s.calls 10 s.calls.nextNumber
  s.withCalls { s.calls with
    table := putAt s.calls.table e (some (newCall n p s.tables.programs[p].cls.toNat o areas))
    nextNumber := numberAfter n }

/-- The priority of the call in an entry; below every other where the entry is free. -/
def priorityAt (s : State) (e : EntryId) : Nat :=
  match callAt s e with
  | some c => c.priority
  | none => 4

/-- Whether one of some calls requests an area. -/
def requestedBy (s : State) (es : List EntryId) (a : AreaId) : Bool :=
  es.any fun e => match callAt s e with
    | some c => hasArea c.requested a
    | none => false

/-- R146: whether an area is blocked for a call of a priority with some pending calls ahead of it. -/
def areaBlocked (s : State) (priority : Nat) (ahead : List EntryId) (a : AreaId) : Bool :=
  (match holderOf s.calls a with
    | some l => decide (priorityAt s l ≤ priority)
    | none => false) || requestedBy s ahead a

/-- R146: the pending calls ahead of a call being admitted. -/
def aheadOfNew (s : State) (priority : Nat) : List EntryId :=
  s.calls.pendingList.filter fun e => priorityAt s e ≤ priority

/-- R146 case 3: a call joins the pending list behind those of equal or higher priority, and its deadline timer starts. -/
def joinPending (e : EntryId) (priority : Nat) (seconds : Nat) (s : State) : State :=
  match callAt s e with
  | none => s
  | some c =>
    let ahead := fun x => decide (priorityAt s x ≤ priority)
    (putCall e (some { c with deadline := afterS s seconds }) s).withCalls
      { (putCall e (some { c with deadline := afterS s seconds }) s).calls with
        pendingList := s.calls.pendingList.takeWhile ahead ++ [e] ++ s.calls.pendingList.dropWhile ahead }

/-- R146 case 3: the holders of lower priority are pre-empted, and their areas left free. -/
def clearArea (e : EntryId) (priority : Nat) (s : State) (a : AreaId) : State :=
  match holderOf s.calls a with
  | some l => if priority < priorityAt s l then preempt e false s a else s
  | none => s

/-- R146: an admitted call starts, ends EXPIRED at once, or goes PENDING. -/
def admitCall (e : EntryId) (p : ProgramId) (o : Origin) (areas : AreaSet) (s : State) : State :=
  let s1 := placeCall e p o areas s
  let priority := s.tables.programs[p].cls.toNat
  let deadline := s.tables.programs[p].deadline.toNat
  if (areasOf areas).all fun a => !areaBlocked s1 priority (aheadOfNew s1 priority) a then startRunning e s1
  else if deadline = 0 then endCall .expired e s1
  else joinPending e priority deadline ((areasOf areas).foldl (clearArea e priority) s1)

/-! ### The pending list -/

/-- R148: one pending call is examined: it starts if none of its requested areas is blocked. -/
def examineCall (s : State) (e : EntryId) : State :=
  match callAt s e with
  | none => s
  | some c =>
    if !s.calls.pendingList.contains e then s
    else if (areasOf c.requested).any fun a =>
        areaBlocked s c.priority (s.calls.pendingList.takeWhile fun x => x != e) a then s
    else
      let s1 := putCall e (some { c with deadline := none }) s
      startRunning e (s1.withCalls { s1.calls with
        pendingList := s1.calls.pendingList.filter fun x => x != e
        freed := true })

/-- R148: the pending calls are taken in list order, once each. -/
def examine (s : State) : State := s.calls.pendingList.foldl examineCall s

/-- R148: the examination, made again while it frees an area or takes a call from the list (DEDUCED, log 20). -/
def settleFor : Nat → State → State
  | 0, s => s
  | n + 1, s => if s.calls.freed then settleFor n (examine (s.withCalls { s.calls with freed := false })) else s

/-- R144 step 5, R148: the examination at the end of an act in which an area became free or a call left the list; it
takes a call from the list each time it is made again, so it is made at most once more than the list is long. -/
def settle (s : State) : State :=
  let s1 := settleFor (s.calls.pendingList.length + 1) s
  s1.withCalls { s1.calls with freed := false }

/-! ### Suppression, and the Effect Unit's calls -/

/-- The entries of ordinary calls, 2 to 9 (R142). -/
def ordinaryEntries : List EntryId := [2, 3, 4, 5, 6, 7, 8, 9]

/-- Whether an entry holds a RUNNING call. -/
def runsIn (s : State) (e : EntryId) : Bool :=
  match callAt s e with
  | some c => c.running
  | none => false

/-- R157: every PENDING call ends SUPPRESSED in list order, then every RUNNING call of entries 2 to 9 in entry order; the
examination at the end of the act finds the list empty. -/
def suppressOrdinary (s : State) : State :=
  let s1 := s.calls.pendingList.foldl (fun x e => endCall .suppressed e x) s
  ordinaryEntries.foldl (fun x e => if runsIn x e then endCall .suppressed e x else x) s1

/-- R158, R159: a call of the Effect Unit is admitted to its entry and starts at once. -/
def startAlarmCall (e : EntryId) (p : ProgramId) (o : Origin) (areas : AreaSet) (s : State) : State :=
  startRunning e (placeCall e p o areas s)

/-- R158: one evacuation area not yet held joins the evacuation call. -/
def growArea (s : State) (a : AreaId) : State :=
  match callAt s 0 with
  | none => s
  | some c =>
    if hasArea c.held a then s
    else seizeArea 0 (putCall 0 (some { c with requested := c.requested ||| oneArea a }) s) a

/-- R133: the Effect Unit asks for the evacuation call at a delivery. -/
def askEvacuation (s : State) : State :=
  let areas := s.effects.set.evacuation
  if areas = 0 then s
  else
    match programIdOf s.tables.alarm.evacProgram with
    | none => s
    | some p =>
      match callAt s 0 with
      | none => startAlarmCall 0 p .alarmEvac areas s
      | some _ => (areasOf areas).foldl growArea s

/-- R134 case 1: a zone has entered INVESTIGATING. -/
def askStaff (s : State) : State :=
  match programIdOf s.tables.alarm.staffProgram with
  | none => s
  | some p =>
    if (callAt s 1).isNone && s.tables.alarm.staffAreas != 0 then
      startAlarmCall 1 p .alarmStaff s.tables.alarm.staffAreas s
    else s

end Sys2Proof.Machine
end

