-- ==== Sys2Proof/Machine/Operands.lean ====
section
/-! DEFINITION. The operands that a command finds in the frame at the head of its receive queue (R171 to R174, R177),
the end of an act (R137, R148), and the replies of the Management Unit (R178). -/

namespace Sys2Proof.Machine

/-- The end of an act: the pending list is examined where an area became free or a call left the list (R148), and then
the notice is offered where one is due (R137). Both stand before the reply of R178 (DESIGN CHOICE, log 14). -/
def endAct (s : State) : State := sendNotice (settle s)

/-- The frame the taker of CONSOLE-RX finds; none is taken after an accepted RESTART (R171, R185). -/
def consoleHead (s : State) : Option Frame := if s.restart = .idle then headFrame s .consoleRx else none

/-- Whether a frame taken from CONSOLE-RX is a request addressed to the part (R172 case 2). -/
def forThePart (s : State) (f : Frame) : Bool :=
  frameKind f = kindMgmtRequest && frameStation f = s.tables.link.station

/-- The number of argument bytes the catalogue allows for a code; `none` for a code that is not in it (10.2). For
WRITE-TABLE every number passes here, since R181 makes the test. -/
def argCountOk (code : Byte) (n : Nat) : Option Bool :=
  match code.toNat with
  | 1 => some (n = 3) | 2 => some true | 3 => some (n = 1 || n = 3) | 4 => some (n = 1) | 5 => some (n = 2)
  | 6 => some (n = 4) | 7 => some (n = 1) | 8 => some (n = 2) | 9 => some (n = 1) | 10 => some (n = 1)
  | 11 => some (n = 1) | 12 => some (n = 0) | 13 => some (n = 3) | 14 => some (n = 1) | 15 => some (n = 0)
  | 16 => some (n = 0) | 17 => some (n = 0) | 18 => some (n = 0) | 19 => some (n = 1) | 20 => some (n = 0)
  | 21 => some (n = 5) | 22 => some (n = 0)
  | _ => none

/-- A request as the Management Unit parses it: tag, code and argument bytes (R177). -/
structure Request where
  tag : Byte
  code : Byte
  args : List Byte
  deriving DecidableEq, Repr

/-- What R177 makes of a request's body: refused by test 1, 2 or 3, or handed to its owner. -/
inductive Parsed where
  | refused (tag code : Byte) (reason : Reason)
  | handed (r : Request)
  deriving DecidableEq, Repr

/-- R177, tests 1 to 4. -/
def parseBody (body : List Byte) : Parsed :=
  if body.length < 2 then .refused (byteAt body 0) 0 .badFormat
  else
    match argCountOk (byteAt body 1) (body.length - 2) with
    | none => .refused (byteAt body 0) (byteAt body 1) .unknownRequest
    | some false => .refused (byteAt body 0) (byteAt body 1) .badFormat
    | some true => .handed ⟨byteAt body 0, byteAt body 1, body.drop 2⟩

/-- The request at the head of CONSOLE-RX, as parsed. -/
def headRequest (s : State) : Option Parsed :=
  match consoleHead s with
  | some f => if forThePart s f then some (parseBody (frameBody f)) else none
  | none => none

/-- The request of one code at the head of CONSOLE-RX that R177 hands to its owner. -/
def requestOf (s : State) (code : Byte) : Option Request :=
  match headRequest s with
  | some (.handed r) => if r.code = code then some r else none
  | _ => none

/-- An owner's answer: DONE (`none`) or a refusal's reason, and the data of R179. -/
structure Reply where
  reason : Option Reason
  data : List Byte
  deriving DecidableEq, Repr

/-- DONE with no data. -/
def done : Reply := ⟨none, []⟩

/-- DONE with data. -/
def doneWith (d : List Byte) : Reply := ⟨none, d⟩

/-- REFUSED with a reason and no data. -/
def refuse (r : Reason) : Reply := ⟨some r, []⟩

/-- The outcome and reason bytes of a reply (R165, R178). -/
def replyBody (tag code : Byte) (r : Reply) : List Byte :=
  match r.reason with
  | none => [tag, code, 0, 0] ++ r.data
  | some why => [tag, code, 1, why.code] ++ r.data

/-- The MGMT-REPLY frame, with the station in force as it is built (R178). -/
def replyFrame (s : State) (tag code : Byte) (r : Reply) : Frame :=
  mkFrame kindMgmtReply s.tables.link.station (replyBody tag code r)

/-- R178: a reply is built when the owner has finished acting, and offered to CONSOLE-TX. -/
def sendReply (tag code : Byte) (r : Reply) (s : State) : State := offer .consoleTx (replyFrame s tag code r) s

/-- R177, R178: the request of a code at the head of CONSOLE-RX is taken, its owner acts on its arguments, the act ends
and the reply is offered. Where the head is no such request, there is none to take and nothing happens (DESIGN CHOICE,
log 3). -/
def handle (code : Byte) (owner : List Byte → State → State × Reply) (s : State) : State :=
  match requestOf s code with
  | none => s
  | some r =>
    let out := owner r.args (dropHead .consoleRx s)
    sendReply r.tag code out.2 (endAct out.1)

/-- The area set of three argument bytes, high byte first (10.2). -/
def argAreas (args : List Byte) (i : Nat) : AreaSet :=
  word24 (byteAt args i) (byteAt args (i + 1)) (byteAt args (i + 2))

/-- A two-byte argument, high byte first (10.2). -/
def argWord (args : List Byte) (i : Nat) : Nat := (word16 (byteAt args i) (byteAt args (i + 1))).toNat

/-- A value clamped to a range (00_scope, Numbers). -/
def clamp (lo hi v : Nat) : Nat := max lo (min hi v)

end Sys2Proof.Machine
end

