-- ==== Sys2Proof/Machine/CallCommands.lean ====
section
/-! DEFINITION. The commands of the Call Sequencer: START_CALL, CANCEL_CALL, EXTEND_INTERVAL, TAKE_CALL_DONE, the step
and deadline expiries and the interval clock (R145, R149, R152 to R156, R160 to R163). -/

namespace Sys2Proof.Machine

/-! ### Requests -/

/-- The lowest free entry of 2 to 9 (R143). -/
def freeEntry (s : State) : Option EntryId := ordinaryEntries.find? fun e => (callAt s e).isNone

/-- R145 tests 3 to 6: the reason an ordinary call is refused, or the entry it takes. -/
def ordinaryTests (s : State) (p : ProgramId) : Except Reason EntryId :=
  if s.tables.programs[p].cls.toNat < 2 then .error .reservedProgram
  else if !permitsCalls s.phase.phase then .error .wrongPhase
  else if s.effects.stage = .evacuate then .error .alarmActive
  else match freeEntry s with
    | none => .error .limit
    | some e => .ok e

/-- R145 tests 1 to 6. -/
def startCallTests (s : State) (program : Byte) (areas : AreaSet) : Except Reason (EntryId × ProgramId) :=
  match programIdOf program with
  | none => .error .badArgument
  | some p =>
    if areas = 0 || !allInUse s.tables areas then .error .badArgument
    else match ordinaryTests s p with
      | .error r => .error r
      | .ok e => .ok (e, p)

/-- The state a call reached in the act of admission (R145, R179; DEDUCED, log 22): 0 RUNNING, 1 PENDING,
2 ENDED. -/
def reachedState (s : State) (e : EntryId) (number : Nat) : Byte :=
  match callAt s e with
  | some c => if c.number = number then (if c.running then 0 else 1) else 2
  | none => 2

/-- R145: START-CALL. -/
def startCallOwner (args : List Byte) (s : State) : State × Reply :=
  match startCallTests s (byteAt args 0) (argAreas args 1) with
  | .error r => (s, refuse r)
  | .ok (e, p) =>
    let n := freeNumber s.calls 10 s.calls.nextNumber
    let s1 := settle (admitCall e p .request (argAreas args 1) s)
    (s1, doneWith [byteOf n, reachedState s1 e n])

/-- START_CALL (R145). -/
def execStartCall (s : State) : Host.Outcome State Fault Refusal := .next (handle 6 startCallOwner s)

/-- The entry of the call with a number. -/
def entryOfNumber (s : State) (n : Nat) : Option EntryId :=
  (List.finRange 10).find? fun e => match callAt s e with
    | some c => c.number = n
    | none => false

/-- R156: CANCEL-CALL. -/
def cancelCallOwner (args : List Byte) (s : State) : State × Reply :=
  match entryOfNumber s (byteAt args 0).toNat with
  | none => (s, refuse .noSuchCall)
  | some e => if e.val < 2 then (s, refuse .reservedProgram) else (endCall .cancelled e s, done)

/-- CANCEL_CALL (R156). -/
def execCancelCall (s : State) : Host.Outcome State Fault Refusal := .next (handle 7 cancelCallOwner s)

/-- R162: EXTEND-INTERVAL. -/
def extendIntervalOwner (args : List Byte) (s : State) : State × Reply :=
  if s.phase.phase != .interval then (s, refuse .wrongPhase)
  else
    let n := min 65535 (s.calls.remaining + clamp 10 900 (argWord args 0))
    let clock := if s.calls.clock.isSome then s.calls.clock else afterS s 1
    (s.withCalls { s.calls with remaining := n, clock := clock }, doneWith (nat16 n))

/-- EXTEND_INTERVAL (R162). -/
def execExtendInterval (s : State) : Host.Outcome State Fault Refusal := .next (handle 8 extendIntervalOwner s)

/-! ### Steps and deadlines: the expiry of a stopped timer has no effect (DESIGN CHOICE, logs 3 and 4) -/

/-- A call whose running step has a kind and a running timer. -/
def inStep (s : State) (e : EntryId) (kind : Byte) : Option Call :=
  match callAt s e with
  | some c => if c.running && (stepAt s.tables c).kind = kind && c.stepTimer.isSome then some c else none
  | none => none

/-- R152: a step's time has run: it ends, and the next begins. -/
def timedStepEnds (kind : Byte) (e : EntryId) (s : State) : State :=
  match inStep s e kind with
  | some _ => settle (stepEnds e s)
  | none => s

/-- CHIME_STEP_EXPIRY (R152). -/
def execChimeStepExpiry (e : EntryId) (s : State) : Host.Outcome State Fault Refusal := .next (timedStepEnds 1 e s)

/-- WAIT_STEP_EXPIRY (R152). -/
def execWaitStepExpiry (e : EntryId) (s : State) : Host.Outcome State Fault Refusal := .next (timedStepEnds 4 e s)

/-- R153 case 3: a MESSAGE-TIMEOUT for each unit still awaited; then the step ends. -/
def messageLimit (e : EntryId) (s : State) : State :=
  match inStep s e 2 with
  | none => s
  | some c =>
    settle (stepEnds e (c.awaiting.foldl
      (fun x u => writeRecord .messageTimeout (byteOf c.number) u (stepAt s.tables c).a x) s))

/-- MESSAGE_LIMIT_EXPIRY (R153). -/
def execMessageLimitExpiry (e : EntryId) (s : State) : Host.Outcome State Fault Refusal := .next (messageLimit e s)

/-- The areas a call flashes: those it holds whose flash state is not INACTIVE (R154). -/
def flashedAreas (s : State) (c : Call) : AreaSet :=
  (areasOf c.held).foldl (fun set a => if s.calls.flash[a] = .inactive then set else set ||| oneArea a) 0

/-- R154: the FLASH step's timer runs out in the low or in the high part. -/
def flashTurn (e : EntryId) (s : State) : State :=
  match inStep s e 3 with
  | none => s
  | some c =>
    let st := stepAt s.tables c
    let set := flashedAreas s c
    match c.flash with
    | none => s
    | some p =>
      if p.low then
        setFlash set .high (putCall e (some { c with
          stepTimer := afterUnits s (st.a.toNat - st.b.toNat), flash := some ⟨false, p.cycles⟩ }) s)
      else if p.cycles + 1 < st.c.toNat then
        setFlash set .low (putCall e (some { c with
          stepTimer := afterUnits s st.b.toNat, flash := some ⟨true, p.cycles + 1⟩ }) s)
      else settle (stepEnds e (setFlash set .inactive s))

/-- FLASH_TIMER_EXPIRY (R154). -/
def execFlashTimerExpiry (e : EntryId) (s : State) : Host.Outcome State Fault Refusal := .next (flashTurn e s)

/-- R149: a PENDING call's start deadline runs out. -/
def deadlineOut (e : EntryId) (s : State) : State :=
  match callAt s e with
  | some c => if c.deadline.isSome then settle (endCall .expired e s) else s
  | none => s

/-- DEADLINE_TIMER_EXPIRY (R149). -/
def execDeadlineTimerExpiry (e : EntryId) (s : State) : Host.Outcome State Fault Refusal := .next (deadlineOut e s)

/-- R153 cases 1 and 2: an awaited unit of a MESSAGE step answers. -/
def unitAnswers (unit message : Byte) (s : State) : State :=
  match areaOfUnit s.tables unit with
  | none => s
  | some a =>
    match holderOf s.calls a with
    | none => s
    | some e =>
      match callAt s e with
      | none => s
      | some c =>
        let st := stepAt s.tables c
        if st.kind = 2 && st.a = message && c.awaiting.contains unit then
          let left := c.awaiting.filter fun x => x != unit
          let s1 := putCall e (some { c with awaiting := left }) s
          if left.isEmpty then settle (stepEnds e s1) else s1
        else s

/-- R173 cases 1 and 2: a CALL-DONE is handed over where its body is one byte, and otherwise discarded. -/
def takeCallDone (f : Frame) (s : State) : State :=
  if (frameBody f).length = 1 then unitAnswers (frameStation f) (byteAt (frameBody f) 0) s else s

/-- TAKE_CALL_DONE (R153, R173). -/
def execTakeCallDone (s : State) : Host.Outcome State Fault Refusal :=
  match headFrame s .rackRx with
  | some f => if frameKind f = kindCallDone then .next (takeCallDone f (dropHead .rackRx s)) else .next s
  | none => .next s

/-! ### The interval clock -/

/-- The progress of one schedule entry replaced. -/
def setProgress (i : Fin 6) (p : Progress) (s : State) : State :=
  s.withCalls { s.calls with progress := putAt s.calls.progress i p }

/-- R160: what becomes of an entry as the clock starts. -/
def startEntry (length : Nat) (s : State) (i : Fin 6) : State :=
  let e := s.tables.schedule.entries[i]
  if e.enabled != 1 then setProgress i .discarded s
  else if length ≤ e.offset.toNat then
    writeRecord .scheduleSkipped (byteOf i.val) (e.offset.extractLsb' 8 8) (e.offset.extractLsb' 0 8)
      (setProgress i .skipped s)
  else setProgress i .unfired s

/-- R160: the clock starts on entry to INTERVAL. -/
def startInterval (length : Nat) (s : State) : State :=
  (List.finRange 6).foldl (startEntry length)
    (s.withCalls { s.calls with remaining := length, clock := afterS s 1 })

/-- R163: the clock stops as INTERVAL is left. -/
def stopInterval (s : State) : State :=
  s.withCalls { s.calls with
    clock := none
    progress := mapVec (fun p => if p = .unfired then .discarded else p) s.calls.progress }

/-- R161: a schedule entry fires. -/
def fireEntry (i : Fin 6) (s : State) : State :=
  let e := s.tables.schedule.entries[i]
  let s1 := setProgress i .fired s
  match startCallTests s1 e.program e.areas with
  | .error r => writeRecord .scheduleRefused (byteOf i.val) r.code 0 s1
  | .ok (n, p) => admitCall n p .schedule e.areas s1

/-- R161: the entry fires if it is UNFIRED and its offset is the remaining time. -/
def fireIfDue (s : State) (i : Fin 6) : State :=
  if s.calls.progress[i] = .unfired && s.tables.schedule.entries[i].offset.toNat = s.calls.remaining
  then fireEntry i s else s

/-- R161: the interval has ended: its record, and the clock stops. -/
def intervalEnds (s : State) : State :=
  let s1 := writeRecord .intervalEnd 0 0 0 s
  s1.withCalls { s1.calls with clock := none }

/-- R161: one tick of a running clock, with the examination of R148 at the end of the act. -/
def clockTick (s : State) : State :=
  let n := s.calls.remaining - 1
  let s1 := (List.finRange 6).foldl fireIfDue (s.withCalls { s.calls with remaining := n, clock := afterS s 1 })
  settle (if n = 0 then intervalEnds s1 else s1)

/-- INTERVAL_CLOCK_TICK (R161). -/
def execIntervalClockTick (s : State) : Host.Outcome State Fault Refusal :=
  if s.calls.clock.isSome then .next (clockTick s) else .next s

end Sys2Proof.Machine
end

