-- ==== Sys2Proof/Machine/Clock.lean ====
section
/-! DEFINITION. What the part does of itself when no command waits (assumption log 2): the command that its own state
makes due now, if there is one, is put in the queue; otherwise one tick of 10 µs passes. -/

namespace Sys2Proof.Machine

/-- A timer whose expiry has been reached. -/
def isDue (now : Nat) : Timer → Bool
  | none => false
  | some e => decide (e ≤ now)

/-- A command, where a condition holds. -/
def when_ (b : Bool) (c : Instr) : Option Instr := if b then some c else none

/-- The request command of a code in the catalogue (10.2). -/
def requestCommand (code : Byte) : Instr :=
  match code.toNat with
  | 1 => .readTable | 2 => .writeTable | 3 => .setPhase | 4 => .staffPresent | 5 => .setMaster | 6 => .startCall
  | 7 => .cancelCall | 8 => .extendInterval | 9 => .alarmAck | 10 => .alarmConfirm | 11 => .alarmCancel
  | 12 => .alarmReset | 13 => .isolateZone | 14 => .endIsolation | 15 => .curtainRelease | 16 => .curtainRaise
  | 17 => .curtainTest | 18 => .readStatus | 19 => .readZone | 20 => .readCalls | 21 => .readEvents | 22 => .restart
  | _ => .unknownRequest

/-- The command that takes the head of CONSOLE-RX (R172, R177). -/
def consoleTaker (s : State) : Option Instr :=
  match consoleHead s with
  | none => none
  | some f =>
    if frameKind f = kindLevels then some .takeLevels
    else if forThePart s f then
      match parseBody (frameBody f) with
      | .refused _ _ _ => some .unknownRequest
      | .handed r => some (requestCommand r.code)
    else some .takeConsolePass

/-- The command that takes the head of RACK-RX (R173). -/
def rackTaker (s : State) : Option Instr :=
  (headFrame s .rackRx).map fun f => if frameKind f = kindCallDone then .takeCallDone else .takeRackReturn

/-- The command that takes the head of PANEL-RX (R174). -/
def panelTaker (s : State) : Option Instr :=
  (headFrame s .panelRx).map fun f =>
    if frameKind f = kindZoneReport then .takeZoneReport
    else if frameKind f = kindPanelBeat then .takePanelBeat
    else .takePanelOther

/-- The end of a frame or of an idle gap at a port's transmitter (R165, R170, R175). -/
def transmitterDue (s : State) (p : Port) : Option Instr :=
  match s.links.tx[p.ix] with
  | .free => none
  | .sending _ till => when_ (decide (till ≤ s.now)) (.frameSent p)
  | .gap till => when_ (decide (till ≤ s.now)) (.transmitterFree p)

/-- The timers of one zone (R116, R119). -/
def zoneDue (s : State) (z : ZoneId) : Option Instr :=
  let r := s.monitor.zones[z]
  (when_ (isDue s.now r.ackTimer) (.ackTimerExpiry z)).or
    ((when_ (isDue s.now r.invTimer) (.investigationTimerExpiry z)).or
      (when_ (isDue s.now r.window) (.isolationWindowExpiry z)))

/-- The timers of one call entry (R149, R152 to R154). -/
def callDue (s : State) (e : EntryId) : Option Instr :=
  match s.calls.table[e] with
  | none => none
  | some c =>
    if isDue s.now c.deadline then some (.deadlineTimerExpiry e)
    else if isDue s.now c.stepTimer then
      match ((s.tables.programs[c.program].steps.toList.getD c.cursor ⟨0, 0, 0, 0⟩).kind).toNat with
      | 1 => some (.chimeStepExpiry e)
      | 2 => some (.messageLimitExpiry e)
      | 3 => some (.flashTimerExpiry e)
      | 4 => some (.waitStepExpiry e)
      | _ => none
    else none

/-- The timers of the part, in the table's order. -/
def timerDue (s : State) : Option Instr :=
  [when_ (isDue s.now s.levels.stepTimer) .levelStep,
   when_ (isDue s.now s.stream.refreshTimer) .periodicRefresh,
   when_ (isDue s.now s.stream.consoleTimer) .consoleTimerExpiry,
   when_ (isDue s.now s.stream.holdTimer) .holdTimerExpiry,
   when_ (isDue s.now s.monitor.heartbeat) .heartbeatTimerExpiry,
   when_ (isDue s.now s.effects.noticeTimer) .noticeTimerExpiry,
   when_ (isDue s.now s.log.statusTimer) .statusTimerExpiry,
   when_ (isDue s.now s.curtain.startTimer) .startWindowExpiry,
   when_ (isDue s.now s.curtain.stallTimer) .stallTimerExpiry,
   when_ (isDue s.now s.curtain.dropTimer) .dropTimerExpiry,
   when_ (isDue s.now s.curtain.raiseTimer) .raiseTimerExpiry,
   (List.finRange 66).findSome? (zoneDue s),
   (List.finRange 10).findSome? (callDue s),
   when_ (isDue s.now s.calls.clock) .intervalClockTick].findSome? id

/-- The command the part's own state makes due now, in the model's order (DESIGN CHOICE, log 2). -/
def nextDue (s : State) : Option Instr :=
  [when_ (decide (s.restart = .due)) .restartPowerOnSequence,
   [Port.console, Port.rack, Port.panel].findSome? (transmitterDue s),
   consoleTaker s, rackTaker s, panelTaker s, timerDue s].findSome? id

/-- One tick of 10 µs: the capture timer counts, and its wrap is a command of its own (R82). -/
def passTick (s : State) : State :=
  let s1 := s.withNow (s.now + 1)
  if s.curtain.capture = 65535 then s1.withPending [.captureTimerWrap]
  else s1.withCurtain { s.curtain with capture := s.curtain.capture + 1 }

/-- What the part does when no command waits; nothing while the RESET line is asserted. -/
def tick (s : State) : State :=
  if s.lines.reset then s
  else match nextDue s with
    | some c => s.withPending [c]
    | none => passTick s

end Sys2Proof.Machine
end

