-- ==== Sys2Proof/Machine/Zones.lean ====
section
/-! DEFINITION. The Zone Monitor's operations (R102 to R124): zone records and their changes of state, device maps, the
five kinds of report, the confirm decision, isolation windows with their replays, and the internal zone 64. Every change
is handed to the Effect Unit (R103); the operations take that hand-over as an argument, because the hand-over's own
consequences call on them again (R131, R132). -/

namespace Sys2Proof.Machine

/-- The hand-over to the Effect Unit (R103); its argument says whether a zone has just entered INVESTIGATING (R134). -/
abbrev HandOver := Bool → State → State

/-- The reports of the Curtain Governor to zone 64 (R92). -/
inductive CurtainReport where
  | alarm | pre | clear
  deriving DecidableEq, Repr

/-! ### Records -/

/-- One zone record. -/
def zoneAt (s : State) (z : ZoneId) : Zone := s.monitor.zones[z]

/-- The response row of a zone in the tables in force. -/
def rowOf (s : State) (z : ZoneId) : ResponseRow := s.tables.response[z]

/-- One zone record changed. -/
def updZone (z : ZoneId) (f : Zone → Zone) (s : State) : State :=
  s.withMonitor { s.monitor with zones := modAt s.monitor.zones z f }

/-- A zone's number as a byte. -/
def zoneByte (z : ZoneId) : Byte := byteOf z.val

/-- The exits of R113. -/
def leaveInvestigation (r : Zone) : Zone := { r with ackTimer := none, invTimer := none, acked := false, starters := [] }

/-- R103, R113: a zone takes a state: the record, and the hand-over. -/
def enterState (ho : HandOver) (z : ZoneId) (st : ZoneState) (s : State) : State :=
  let old := (zoneAt s z).state
  if old = st then s
  else
    let s1 := updZone z (fun r => { (if old = .investigating then leaveInvestigation r else r) with state := st }) s
    ho (decide (st = .investigating)) (writeRecord .zoneState (zoneByte z) old.code st.code s1)

/-! ### Device maps -/

/-- The entry of a device. -/
def deviceIn (ds : List Device) (n : Byte) : Option Device := ds.find? fun d => d.number = n

/-- A map without a device's entry. -/
def removeDevice (n : Byte) (ds : List Device) : List Device := ds.filter fun d => d.number != n

/-- A map with a device's entry set, in ascending device order (R102). -/
def setDevice (n : Byte) (c : Condition) (ds : List Device) : List Device :=
  (ds.filter fun d => d.number.toNat < n.toNat) ++ [⟨n, c⟩] ++ ds.filter fun d => n.toNat < d.number.toNat

/-- R105: whether a report from a device is an overflow report. -/
def overflows (ds : List Device) (n : Byte) : Bool := (deviceIn ds n).isNone && decide (16 ≤ ds.length)

/-- A zone's map replaced; a change of the zone-fault attribute is handed over (R103). -/
def putMap (ho : HandOver) (z : ZoneId) (ds : List Device) (s : State) : State :=
  let s1 := updZone z (fun r => { r with devices := ds }) s
  if (zoneAt s1 z).faulty = (zoneAt s z).faulty then s1 else ho false s1

/-- R105: a report's entry is set, or DEVICE-OVERFLOW is written. -/
def noteReport (ho : HandOver) (z : ZoneId) (n : Byte) (k : ReportKind) (c : Condition) (s : State) : State :=
  if overflows (zoneAt s z).devices n then writeRecord .deviceOverflow (zoneByte z) n k.code s
  else putMap ho z (setDevice n c (zoneAt s z).devices) s

/-! ### Reports -/

/-- R106 case 1, R112 case 1: a PRE zone whose map holds no PRE and no FIRE entry becomes QUIET. -/
def settlePre (ho : HandOver) (z : ZoneId) (s : State) : State :=
  if (zoneAt s z).state = .pre && !(zoneAt s z).anyPreOrFire then enterState ho z .quiet s else s

/-- The knock device made NONE. -/
def clearKnock (z : ZoneId) (s : State) : State := updZone z (fun r => { r with knock := none }) s

/-- R106 case 2, R112 case 2: the knock ends. -/
def endKnock (ho : HandOver) (z : ZoneId) (s : State) : State :=
  enterState ho z (if (zoneAt s z).anyPreOrFire then .pre else .quiet) (clearKnock z s)

/-- Whether a device is the knock device of a zone in FIRST-KNOCK. -/
def isKnock (s : State) (z : ZoneId) (n : Byte) : Bool :=
  (zoneAt s z).state = .firstKnock && (zoneAt s z).knock = some n

/-- R106: a NORMAL report. -/
def normalReport (ho : HandOver) (z : ZoneId) (n : Byte) (s : State) : State :=
  let s1 := putMap ho z (removeDevice n (zoneAt s z).devices) s
  if isKnock s1 z n then endKnock ho z s1 else settlePre ho z s1

/-- R107: a PRE report. -/
def preReport (ho : HandOver) (z : ZoneId) (n : Byte) (s : State) : State :=
  let s1 := noteReport ho z n .pre .pre s
  if (zoneAt s1 z).state = .quiet then enterState ho z .pre s1
  else if isKnock s1 z n then enterState ho z .pre (clearKnock z s1)
  else s1

/-- R112: a FAULT report. -/
def faultReport (ho : HandOver) (z : ZoneId) (n : Byte) (s : State) : State :=
  let s1 := noteReport ho z n .fault .fault s
  if isKnock s1 z n then endKnock ho z s1 else settlePre ho z s1

/-- R111: a MANUAL report. -/
def manualReport (ho : HandOver) (z : ZoneId) (n : Byte) (s : State) : State :=
  enterState ho z .alarm (noteReport ho z n .manual .manual s)

/-- R110: the five conditions of the confirm decision. -/
def delayGranted (s : State) (z : ZoneId) : Bool :=
  permitsDelay s.phase.phase && s.phase.staff && (rowOf s z).delay = 1 && s.monitor.link = .up
    && s.effects.stage != .evacuate

/-- R113: entry to INVESTIGATING. -/
def investigate (ho : HandOver) (z : ZoneId) (starters : List Byte) (s : State) : State :=
  enterState ho z .investigating (updZone z (fun r => { r with
    starters := starters
    acked := false
    ackTimer := afterS s (rowOf s z).ackWindow.toNat
    invTimer := afterS s (rowOf s z).invTime.toNat }) s)

/-- Zones sent to ALARM one by one (R103, R110; DEDUCED, log 16). -/
def toAlarm (ho : HandOver) (zs : List ZoneId) (s : State) : State := zs.foldl (fun x z => enterState ho z .alarm x) s

/-- R110: the confirm decision. -/
def confirm (ho : HandOver) (z : ZoneId) (starters : List Byte) (s : State) : State :=
  let s1 := clearKnock z s
  if !delayGranted s z then enterState ho z .alarm s1
  else if (zonesIn s.monitor.zones .investigating).all fun y => y = z then investigate ho z starters s1
  else toAlarm ho ((List.finRange 66).filter fun y => y = z || (zoneAt s y).state = .investigating) s1

/-- R109: an unmasked FIRE acts on its zone, its entry being set. -/
def fireActs (ho : HandOver) (z : ZoneId) (n : Byte) (s : State) : State :=
  let r := zoneAt s z
  match r.state with
  | .quiet | .pre =>
    if (rowOf s z).coincidence = 1 then
      enterState ho z .firstKnock (updZone z (fun r => { r with knock := some n }) s)
    else confirm ho z [n] s
  | .firstKnock => if r.knock = some n then s else confirm ho z (r.knock.toList ++ [n]) s
  | .investigating => if r.starters.contains n then s else enterState ho z .alarm s
  | .alarm => s

/-- R120: one masked FIRE entry is replayed, if it still holds the masked mark. -/
def replayDevice (ho : HandOver) (z : ZoneId) (s : State) (n : Byte) : State :=
  match deviceIn (zoneAt s z).devices n with
  | some ⟨_, .fire true⟩ => fireActs ho z n (putMap ho z (setDevice n (.fire false) (zoneAt s z).devices) s)
  | _ => s

/-- R119, R120: an open window closes with its cause, and its masked entries are replayed in ascending device order. -/
def closeWindow (ho : HandOver) (cause : CloseCause) (s : State) (z : ZoneId) : State :=
  if (zoneAt s z).window.isNone then s
  else
    let s1 := writeRecord .isolationClosed (zoneByte z) cause.code 0 (updZone z (fun r => { r with window := none }) s)
    ((zoneAt s1 z).devices.map (·.number)).foldl (replayDevice ho z) s1

/-- R119: every open window closes, in ascending zone order, each with its replay before the next. -/
def closeWindows (ho : HandOver) (cause : CloseCause) (s : State) : State :=
  (List.finRange 66).foldl (closeWindow ho cause) s

/-- R109: a FIRE report that is not masked. -/
def openFire (ho : HandOver) (z : ZoneId) (n : Byte) (s : State) : State :=
  fireActs ho z n (putMap ho z (setDevice n (.fire false) (zoneAt s z).devices) s)

/-- R108: a FIRE report masked by the zone's open window. -/
def maskedFire (ho : HandOver) (z : ZoneId) (n : Byte) (s : State) : State :=
  let s1 := writeRecord .isolatedFire (zoneByte z) n 0
    (putMap ho z (setDevice n (.fire true) (zoneAt s z).devices) s)
  if (zoneAt s1 z).state = .quiet then enterState ho z .pre s1 else s1

/-- R108, R109: a FIRE report. -/
def fireReport (ho : HandOver) (z : ZoneId) (n : Byte) (s : State) : State :=
  if deviceIn (zoneAt s z).devices n = some ⟨n, .fire false⟩ then s
  else if overflows (zoneAt s z).devices n then
    fireActs ho z n (closeWindow ho .overflow (writeRecord .deviceOverflow (zoneByte z) n ReportKind.fire.code s) z)
  else if (zoneAt s z).window.isSome then maskedFire ho z n s
  else openFire ho z n s

/-- R106 to R112: a report that passes the tests of R104 is applied. -/
def applyReport (ho : HandOver) (z : ZoneId) (k : ReportKind) (n : Byte) (s : State) : State :=
  match k with
  | .normal => normalReport ho z n s
  | .pre => preReport ho z n s
  | .fire => fireReport ho z n s
  | .manual => manualReport ho z n s
  | .fault => faultReport ho z n s

/-- What R104 makes of a ZONE-REPORT's body. -/
inductive Judged where
  | discarded (subject code : Byte)
  | applied (z : ZoneId) (k : ReportKind) (device : Byte)
  deriving DecidableEq, Repr

/-- R104: the five cases in which a report is discarded, tested in order. -/
def judgeReport (t : Tables) (body : List Byte) : Judged :=
  let subject : Byte := if body.isEmpty then 0xFF else byteAt body 0
  if body.length != 3 then .discarded subject 5
  else if 63 < (byteAt body 0).toNat then .discarded subject 1
  else match ReportKind.ofCode (byteAt body 1) with
    | none => .discarded subject 4
    | some k =>
      if byteAt body 2 = 255 then .discarded subject 3
      else match zoneIdOf (byteAt body 0) with
        | none => .discarded subject 1
        | some z => if t.response[z].cls = 0 then .discarded subject 2 else .applied z k (byteAt body 2)

/-- R104: a ZONE-REPORT is judged and discarded, or applied. -/
def takeReport (ho : HandOver) (body : List Byte) (s : State) : State :=
  match judgeReport s.tables body with
  | .discarded subject code => writeRecord .reportDiscarded subject code 0 s
  | .applied z k n => applyReport ho z k n s

/-! ### Investigations and internal zones -/

/-- R117: the investigation loses one of its conditions. -/
def endInvestigation (ho : HandOver) (s : State) : State := toAlarm ho (zonesIn s.monitor.zones .investigating) s

/-- R124: a report of the Curtain Governor to zone 64. -/
def report64 (ho : HandOver) (r : CurtainReport) (s : State) : State :=
  match r, (zoneAt s 64).state with
  | .alarm, _ => enterState ho 64 .alarm s
  | .pre, .quiet => enterState ho 64 .pre s
  | .clear, .pre => enterState ho 64 .quiet s
  | .pre, _ | .clear, _ => s

/-- R123: an assertion of PANEL-FIRE brings zone 65 to ALARM. -/
def panelFire (ho : HandOver) (s : State) : State := enterState ho 65 .alarm s

/-- The number of open isolation windows (R118). -/
def openWindows (zones : Vector Zone 66) : Nat := zones.toList.countP fun z => z.window.isSome

end Sys2Proof.Machine
end

