-- ==== Sys2Proof/Machine/CurtainOps.lean ====
section
/-! DEFINITION. The Curtain Governor's operations (R71 to R98): faults, the drop-demand set, referencing, arrival,
release, abort, the slow-zone test, the speed window and the test record. Faults are reported to zone 64 (R92) through
the reporter the operations take as an argument. -/

namespace Sys2Proof.Machine

/-- The report to zone 64 (R92). -/
abbrev Reporter := CurtainReport → State → State

/-- The governor's state changed. -/
def updCurtain (f : Curtain → Curtain) (s : State) : State := s.withCurtain (f s.curtain)

/-! ### Faults and states -/

/-- Whether a fault is in the fault set: bit c for fault code c (R91, R184). -/
def hasFault (c : Curtain) (f : CurtainFault) : Bool := c.faults.getLsbD f.num

/-- A fault set with a fault added. -/
def addFault (w : Word16) (f : CurtainFault) : Word16 := w ||| BitVec.ofNat 16 (2 ^ f.num)

/-- R92: what a recorded fault reports to zone 64. -/
def reportOf (c : Curtain) (f : CurtainFault) : CurtainReport :=
  if (f = .startFail || f = .stall) && c.demands.alarm then .alarm else .pre

/-- R91: a fault is recorded, unless it is already in the fault set. -/
def recordFault (rep : Reporter) (f : CurtainFault) (s : State) : State :=
  if hasFault s.curtain f then s
  else
    let p : Word16 := BitVec.ofNat 16 s.curtain.position
    let s1 := updCurtain (fun c => { c with faults := addFault c.faults f }) s
    rep (reportOf s1.curtain f)
      (writeRecord .curtainFault (byteOf f.num) (p.extractLsb' 8 8) (p.extractLsb' 0 8) s1)

/-- R73: a change of curtain state, with its CURTAIN-STATE record. -/
def toState (st : CurtainState) (s : State) : State :=
  let old := s.curtain.state
  if old = st then s
  else writeRecord .curtainState 0 old.code st.code (noticeIsDue (updCurtain (fun c => { c with state := st }) s))

/-! ### Demands -/

/-- Whether the drop-demand set holds any member. -/
def Demands.any (d : Demands) : Bool :=
  d.alarm || d.stageRelease || d.request || d.test || d.raiseFail || d.conflict || d.start

/-- The drop-demand set with a member added (R78). -/
def Demands.insert (d : Demands) : Demand → Demands
  | .alarm => { d with alarm := true }
  | .stageRelease => { d with stageRelease := true }
  | .request => { d with request := true }
  | .test => { d with test := true }
  | .raiseFail => { d with raiseFail := true }
  | .conflict => { d with conflict := true }
  | .start => { d with start := true }

/-- R89 step 3: the members that arrival at IN leaves. -/
def Demands.atIn (d : Demands) : Demands := { noDemands with alarm := d.alarm, conflict := d.conflict }

/-! ### The test record -/

/-- A time since an acceptance in whole milliseconds, rounded down (R98; DEDUCED, log 19). -/
def testMs (s : State) : Nat := (s.now - s.curtain.test.started) / ticksPerMs

/-- R98, R13: an open test record closes, with its TEST-RESULT record, and the result goes to the Phase Controller. -/
def closeTest (pass : Bool) (total : Option Nat) (s : State) : State :=
  match s.curtain.test.status with
  | .running =>
    let s1 := updCurtain (fun c => { c with
      test := { c.test with status := .closed pass, total := total, faults := c.faults } }) s
    let w : Word16 := BitVec.ofNat 16 (total.getD 65535)
    writeRecord .testResult (if pass then 0 else 1) (w.extractLsb' 8 8) (w.extractLsb' 0 8)
      (s1.withPhase { s1.phase with testValid := pass })
  | .empty | .closed _ => s

/-- R98 case 1: the record closes at arrival at IN. -/
def closeTestAtIn (s : State) : State :=
  closeTest (decide (s.curtain.faults = 0) && decide (testMs s ≤ s.tables.curtain.maxDrop.toNat * 1000))
    (some (min 65535 (testMs s))) s

/-! ### Referencing and arrival -/

/-- R77: the position is referenced at a limit. -/
def referenceAt (rep : Reporter) (p : Nat) (s : State) : State :=
  let far := max p s.curtain.position - min p s.curtain.position
  let s1 := if s.curtain.referenced && decide (s.tables.curtain.tolerance.toNat < far)
    then recordFault rep .positionMismatch s else s
  updCurtain (fun c => { c with position := p, referenced := true }) s1

/-- R89: arrival at IN. -/
def arriveIn (rep : Reporter) (s : State) : State :=
  let s1 := updCurtain (fun c => { c with
    raisePermit := false
    holdDrive := false
    startTimer := none
    stallTimer := none
    dropTimer := none
    raiseTimer := none
    demands := c.demands.atIn
    slowEntry := none }) (referenceAt rep 0 s)
  rep .clear (toState .resting (closeTestAtIn s1))

/-- R94: arrival at OUT during a raise. -/
def arriveOut (rep : Reporter) (s : State) : State :=
  let s1 := updCurtain (fun c => { c with raisePermit := false, startTimer := none, raiseTimer := none })
    (referenceAt rep s.tables.curtain.travel.toNat s)
  rep .clear (toState .out s1)

/-! ### The slow zone -/

/-- R85: the two conditions on which the curtain enters the slow zone. -/
def slowHolds (s : State) : Bool :=
  (s.curtain.referenced && decide (s.curtain.position ≤ s.tables.curtain.slowStart.toNat)) || s.lines.slowSw

/-- R85 case 1: the switch closes early. -/
def switchEarly (s : State) : Bool :=
  s.curtain.referenced
    && decide (s.tables.curtain.slowStart.toNat + s.tables.curtain.tolerance.toNat < s.curtain.position)

/-- R85 case 2: the switch is late. -/
def switchLate (s : State) : Bool :=
  s.curtain.referenced && !s.lines.slowSw
    && decide (s.curtain.position + s.tables.curtain.tolerance.toNat ≤ s.tables.curtain.slowStart.toNat)

/-- R85: the fault of the comparison of the switch with the count; `asserts` at an assertion of SLOW-SW. -/
def compareSwitch (rep : Reporter) (asserts : Bool) (s : State) : State :=
  if (asserts && switchEarly s) || switchLate s then recordFault rep .slowSwitchMismatch s else s

/-- R85: the slow zone is entered at the position at that moment. -/
def becomeSlowing (s : State) : State :=
  toState .slowing (updCurtain (fun c => { c with slowEntry := some c.position }) s)

/-- R85: entry to SLOWING from DESCENDING, where the slow zone is reached. -/
def enterSlowing (s : State) : State :=
  if s.curtain.state = .descending && slowHolds s then becomeSlowing s else s

/-- R85: the slow-zone test, in DESCENDING and SLOWING. -/
def slowZoneTest (rep : Reporter) (asserts : Bool) (s : State) : State := enterSlowing (compareSwitch rep asserts s)

/-- R85: entry to DESCENDING, with its slow-zone test; a fault the test records is written before the change of state
(R73). -/
def enterDescending (rep : Reporter) (s : State) : State :=
  enterSlowing (toState .descending (compareSwitch rep false s))

/-! ### Release, abort and conflict -/

/-- R79, R80: the window, the slow-zone entry and the timers of a fall that begins now. -/
def fallBegins (s : State) : State :=
  updCurtain (fun c => { c with
    window := freshWindow
    slowEntry := none
    startTimer := afterMs s s.tables.curtain.startWindow.toNat
    dropTimer := afterS s s.tables.curtain.maxDrop.toNat }) s

/-- R80: the release from OUT. -/
def releaseFromOut (rep : Reporter) (s : State) : State :=
  enterDescending rep (fallBegins (updCurtain (fun c => { c with holdDrive := false, faults := 0 }) s))

/-- R79: a raise is aborted. -/
def abortRaise (rep : Reporter) (s : State) : State :=
  let s1 := updCurtain (fun c => { c with raisePermit := false, holdDrive := false, raiseTimer := none }) s
  if s.lines.limitIn then arriveIn rep s1 else enterDescending rep (fallBegins s1)

/-- R78: what follows when the drop-demand set passes from empty to holding a member. -/
def demandTaken (rep : Reporter) (s : State) : State :=
  match s.curtain.state with
  | .out => releaseFromOut rep s
  | .raising => abortRaise rep s
  | .unknown | .resting | .descending | .slowing | .stalled => s

/-- R78: a member joins the drop-demand set. -/
def addDemand (rep : Reporter) (d : Demand) (s : State) : State :=
  let s1 := updCurtain (fun c => { c with demands := c.demands.insert d }) s
  if s.curtain.demands.any then s1 else demandTaken rep s1

/-- R92: START-FAIL or STALL stands in the fault set of a STALLED curtain. -/
def stalledFault (s : State) : Bool :=
  s.curtain.state = .stalled && (hasFault s.curtain .startFail || hasFault s.curtain .stall)

/-- R78, R92, R98 case 2: ALARM joins the drop-demand set, unless it is a member already. A test that is OPEN closes
before a STALLED curtain's ALARM is reported to zone 64 (DESIGN CHOICE, log 28). -/
def addAlarm (rep : Reporter) (s : State) : State :=
  if s.curtain.demands.alarm then s
  else
    let s1 := addDemand rep .alarm (closeTest false none s)
    if stalledFault s1 then rep .alarm s1 else s1

/-- R77: the limits conflict. -/
def limitsConflict (rep : Reporter) (s : State) : State :=
  toState .unknown (updCurtain (fun c => { c with
    referenced := false
    demands := c.demands.insert .conflict
    raisePermit := false
    holdDrive := false
    startTimer := none
    stallTimer := none
    raiseTimer := none }) (recordFault rep .limitConflict s))

/-- R94: a raise fails: RAISE-TIMEOUT, RAISE-FAIL, and the abort. -/
def raiseFails (rep : Reporter) (s : State) : State :=
  abortRaise rep (updCurtain (fun c => { c with demands := c.demands.insert .raiseFail })
    (recordFault rep .raiseTimeout s))

/-- R89: LIMIT-IN is taken with LIMIT-OUT not asserted. -/
def limitInTaken (rep : Reporter) (s : State) : State :=
  if s.curtain.state = .resting then referenceAt rep 0 s else arriveIn rep s

/-- R80, R90: LIMIT-OUT in UNKNOWN or IN: the state passes through OUT and the curtain is released (log 18). -/
def releaseThroughOut (rep : Reporter) (s : State) : State :=
  releaseFromOut rep (toState .out (referenceAt rep s.tables.curtain.travel.toNat s))

/-- R90: LIMIT-OUT is taken with LIMIT-IN not asserted. -/
def limitOutTaken (rep : Reporter) (s : State) : State :=
  match s.curtain.state with
  | .raising => arriveOut rep s
  | .out => referenceAt rep s.tables.curtain.travel.toNat s
  | .descending | .slowing | .stalled =>
    updCurtain (fun c => { c with window := freshWindow }) (referenceAt rep s.tables.curtain.travel.toNat s)
  | .unknown | .resting => releaseThroughOut rep s

/-! ### Counts -/

/-- R83: the speed of a window, in mm/s (log 19). -/
def speedOf (window pitch wraps capture reference : Nat) : Nat :=
  min 65535 (100 * window * pitch / max 1 (wraps * 65536 + capture - reference))

/-- The greater of a recorded value and a new one (R98). -/
def highest (o : Option Nat) (v : Nat) : Option Nat := some (match o with | some x => max x v | none => v)

/-- The lesser of a recorded value and a new one (R98). -/
def lowest (o : Option Nat) (v : Nat) : Option Nat := some (match o with | some x => min x v | none => v)

/-- The open test record changed (R98). -/
def updTest (f : TestRecord → TestRecord) (s : State) : State :=
  match s.curtain.test.status with
  | .running => updCurtain (fun c => { c with test := f c.test }) s
  | .empty | .closed _ => s

/-- R98: the time of the first downward count after the acceptance. -/
def noteFirstMove (s : State) : State :=
  updTest (fun t => { t with firstMove := match t.firstMove with
    | some x => some x
    | none => some (min 65535 (testMs s)) }) s

/-- R84: a speed taken in DESCENDING. -/
def judgeMain (rep : Reporter) (v : Nat) (s : State) : State :=
  let s1 := updTest (fun t => { t with highMain := highest t.highMain v }) s
  if s.curtain.window.completed < 3 then s1
  else
    let s2 := updTest (fun t => { t with lowMain := lowest t.lowMain v }) s1
    let s3 := if s.tables.curtain.vmax.toNat < v then recordFault rep .overspeed s2 else s2
    if v < s.tables.curtain.vmin.toNat then recordFault rep .underspeed s3 else s3

/-- R86: a speed taken in SLOWING. -/
def judgeSlow (rep : Reporter) (v : Nat) (s : State) : State :=
  match s.curtain.slowEntry with
  | none => s
  | some entry =>
    if s.curtain.position + s.tables.curtain.grace.toNat ≤ entry then
      let s1 := updTest (fun t => { t with highSlow := highest t.highSlow v }) s
      if s.tables.curtain.vslow.toNat < v then recordFault rep .slowOverspeed s1 else s1
    else s

/-- R82: a capture taken as the reference, which starts the stall timer afresh (R87). -/
def takeReference (s : State) : State :=
  updCurtain (fun c => { c with
    window := { c.window with reference := some (c.capture, 0) }
    stallTimer := afterMs s s.tables.curtain.stallLimit.toNat }) s

/-- R82, R83: the capture at a window's end, its speed and its judgement in the state it is taken in. -/
def windowEnd (rep : Reporter) (reference wraps : Nat) (s : State) : State :=
  let v := speedOf s.tables.curtain.window.toNat s.tables.curtain.pitch.toNat wraps s.curtain.capture reference
  let s1 := updCurtain (fun c => { c with
    window := ⟨0, some (c.capture, 0), min 3 (c.window.completed + 1)⟩
    stallTimer := afterMs s s.tables.curtain.stallLimit.toNat }) s
  if s.curtain.state = .slowing then judgeSlow rep v s1 else judgeMain rep v s1

/-- R82: a downward count in the speed window. -/
def countWindow (rep : Reporter) (s : State) : State :=
  match s.curtain.window.reference with
  | none => takeReference s
  | some (reference, wraps) =>
    if s.curtain.window.count + 1 < s.tables.curtain.window.toNat then
      updCurtain (fun c => { c with window := { c.window with count := c.window.count + 1 } }) s
    else windowEnd rep reference wraps s

/-- R95: the drift comparison in OUT. -/
def driftTest (rep : Reporter) (s : State) : State :=
  if s.curtain.referenced
      && decide (s.curtain.position + s.tables.curtain.driftTol.toNat < s.tables.curtain.travel.toNat)
  then recordFault rep .drift s else s

/-- R87: a capture in STALLED returns the state: to SLOWING with the slow-zone entry it kept, to SLOWING where the
slow-zone test holds, and otherwise to DESCENDING. The comparison of R85 is made as well (DEDUCED, log 17). -/
def leaveStalled (rep : Reporter) (s : State) : State :=
  let s1 := compareSwitch rep false s
  if s1.curtain.slowEntry.isSome then toState .slowing s1
  else if slowHolds s1 then becomeSlowing s1
  else toState .descending s1

/-- The conflict of R77 stands: both limits are asserted. -/
def inConflict (s : State) : Bool := s.lines.limitIn && s.lines.limitOut

/-- R76, R81, R82, R85, R87, R88, R95: a downward count. -/
def downCount (rep : Reporter) (s0 : State) : State :=
  let s := updCurtain (fun c => { c with position := c.position - 1 }) s0
  if inConflict s then s
  else match s.curtain.state with
    | .unknown =>
      enterDescending rep (takeReference (updCurtain (fun c => { c with
        startTimer := none
        dropTimer := if c.dropTimer.isSome then c.dropTimer else afterS s s.tables.curtain.maxDrop.toNat }) s))
    | .descending | .slowing =>
      slowZoneTest rep false (countWindow rep (noteFirstMove (updCurtain (fun c => { c with startTimer := none }) s)))
    | .stalled =>
      leaveStalled rep (takeReference (noteFirstMove (updCurtain (fun c => { c with startTimer := none }) s)))
    | .out => driftTest rep s
    | .raising | .resting => s

/-- R76, R82, R94, R95: an upward count. -/
def upCount (rep : Reporter) (s0 : State) : State :=
  let s := updCurtain (fun c => { c with position := if c.position < s0.tables.curtain.travel.toNat
    then c.position + 1 else c.position }) s0
  if inConflict s then s
  else match s.curtain.state with
    | .raising => updCurtain (fun c => { c with startTimer := none }) s
    | .descending | .slowing | .stalled => updCurtain (fun c => { c with window := freshWindow }) s
    | .out => driftTest rep s
    | .unknown | .resting => s

/-- R76: an illegal transition. -/
def illegalCount (rep : Reporter) (s : State) : State :=
  recordFault rep .encoderError (updCurtain (fun c => { c with referenced := false }) s)

end Sys2Proof.Machine
end

