-- ==== Sys2Proof/Machine/Levels.lean ====
section
/-! DEFINITION. House level resolution (R31 to R51): the six stages of one channel, the level step, and the commands
LEVEL_STEP and PERIODIC_REFRESH with the refresh frames of R63 to R67. -/

namespace Sys2Proof.Machine

/-! ### The stages -/

/-- R35: the request scaled by the master. -/
def scaledLevel (c m : Nat) : Nat := (c * m + 127) / 255

/-- The master of a channel's area; 0 where its area byte names no area, which no tables in force hold (R19 check 2;
DESIGN CHOICE, log 25). -/
def masterFor (s : State) (e : ChannelEntry) : Byte :=
  match areaIdOf e.area with
  | some a => s.levels.masters[a]
  | none => 0

/-- R34: whether the base is the loss level. -/
def baseIsLoss (s : State) (c : Channel) : Bool :=
  s.phase.phase = .recovery || s.stream.freshness = .lost || !c.seen

/-- Stage 1 (R34, R35). -/
def baseLevel (s : State) (e : ChannelEntry) (c : Channel) : Nat :=
  if baseIsLoss s c then e.loss.toNat else scaledLevel c.request.toNat (masterFor s e).toNat

/-- R37: whether the curtain contributes. -/
def curtainContributes (s : State) : Bool := fallingState s.curtain.state && audience s.phase.phase

/-- Stage 3 (R37). -/
def curtainLevel (applies : Bool) (e : ChannelEntry) (b3 : Nat) : Nat :=
  if applies && e.marker = 1 then max b3 e.curtain.toNat else b3

/-- The flash state of a channel's area (R142). -/
def flashOf (s : State) (e : ChannelEntry) : FlashState :=
  match areaIdOf e.area with
  | some a => s.calls.flash[a]
  | none => .inactive

/-- The flash depth of a channel's area (R16). -/
def depthOf (s : State) (e : ChannelEntry) : Nat :=
  match areaIdOf e.area with
  | some a => s.tables.areas[a].depth.toNat
  | none => 0

/-- Stage 4 (R38). -/
def flashLevel (low : Bool) (depth b4 : Nat) : Nat := if low then b4 * (255 - depth) / 255 else b4

/-- R39: whether a channel's emergency flag is set. -/
def emergencyFlag (s : State) (e : ChannelEntry) : Bool :=
  match areaIdOf e.area with
  | some a => hasArea s.effects.set.emergency a
  | none => false

/-- Stages 1 to 5: the target of a channel (R34 to R39). -/
def targetLevel (s : State) (e : ChannelEntry) (c : Channel) : Nat :=
  let b2 := baseLevel s e c
  let b3 := windowLevel (audience s.phase.phase) e.floor.toNat e.ceiling.toNat b2
  let b4 := curtainLevel (curtainContributes s) e b3
  let t5 := flashLevel (flashOf s e = .low) (depthOf s e) b4
  if emergencyFlag s e then e.emergency.toNat else t5

/-- Stage 6 (R40 to R42): from the output toward the target, at the rise rate given, at the fall rate given, or at once. -/
def slew (snap : Bool) (rise fall target output : Nat) : Nat :=
  if output < target then if snap then target else min target (output + rise)
  else if target < output then if snap then target else max target (output - fall)
  else output

/-- The new output of one channel in use (R34 to R42). -/
def resolveChannel (s : State) (e : ChannelEntry) (c : Channel) : Nat :=
  let em := emergencyFlag s e
  slew (!em && flashOf s e != .inactive) (if em then s.tables.alarm.riseRate.toNat else e.rise.toNat) e.fall.toNat
    (targetLevel s e c) c.output.toNat

/-- One channel at a level step; one not in use is not resolved (R44). -/
def stepChannel (s : State) (h : ChannelId) : Channel :=
  let c := s.levels.channels[h]
  let e := s.tables.channels[h]
  if channelInUse e then { c with output := byteOf (resolveChannel s e c) } else c

/-! ### Dirty marks -/

/-- The dirty mark of the slot at an index set. -/
def markDirty (v : Vector Slot 1024) (i : Nat) : Vector Slot 1024 :=
  if h : i < 1024 then v.set i { v[i] with dirty := true } else v

/-- The slot index of a channel. -/
def channelSlot (t : Tables) (h : ChannelId) : Nat := slotIndex t.channels[h].univ t.channels[h].slot

/-- The slot index of a guard. -/
def guardSlot (t : Tables) (g : Fin 32) : Nat := slotIndex t.guards[g].univ t.guards[g].slot

/-- R43: the slots of the channels whose output changed are marked. -/
def markChanged (t : Tables) (old new : Vector Channel 96) (v : Vector Slot 1024) : Vector Slot 1024 :=
  (List.finRange 96).foldl (fun v h =>
    if channelInUse t.channels[h] && old[h].output != new[h].output then markDirty v (channelSlot t h) else v) v

/-- A slot marked if it is HOUSE or GUARD. -/
def markHeld (x : Slot) : Slot := if x.cls = .pass then x else { x with dirty := true }

/-- A slot's mark cleared if it is HOUSE or GUARD. -/
def clearHeld (x : Slot) : Slot := if x.cls = .pass then x else { x with dirty := false }

/-! ### What a slot carries -/

/-- R45: the effective level of a guard, from the stage-safe flag and the shadow of its slot. -/
def guardLevel (s : State) (g : Fin 32) (shadow : Byte) : Byte :=
  if s.effects.set.stageSafe then s.tables.guards[g].safe else shadow

/-- R61, R64: the level a slot carries to the racks. -/
def carriedLevel (s : State) (x : Slot) : Byte :=
  match x.cls with
  | .pass => x.shadow
  | .house h => s.levels.channels[h].output
  | .guard g => guardLevel s g x.shadow

/-- The body of a LEVELS frame (R165). -/
def levelsBody (univ start : Byte) (levels : List Byte) : List Byte :=
  univ :: start :: byteOf levels.length :: levels

/-! ### Refresh frames -/

/-- The 256 slots of a universe. -/
def universeSlots (v : Vector Slot 1024) (u : Nat) : List Slot := (v.toList.drop (256 * u)).take 256

/-- R63: the start and the count of the refresh frame of a universe's slots; `none` where none is marked. -/
def refreshSpan (slots : List Slot) : Option (Nat × Nat) :=
  if slots.any (·.dirty) then
    let start := slots.findIdx (·.dirty)
    let reach := (slots.drop start).take 64
    some (start, reach.length - reach.reverse.findIdx (·.dirty))
  else none

/-- R64: the refresh frame of a universe over a span. -/
def refreshFrame (s : State) (u start count : Nat) : Frame :=
  let run := (universeSlots s.stream.slots u).drop start |>.take count
  mkFrame kindLevels 0 (levelsBody (byteOf u) (byteOf start) (run.map (carriedLevel s)))

/-- The slots replaced. -/
def withSlots (s : State) (v : Vector Slot 1024) : State := s.withStream { s.stream with slots := v }

/-- R63 to R65: one universe's refresh frame built and offered to RACK-EXPRESS. -/
def refreshUniverse (s : State) (u : Nat) : State :=
  match refreshSpan (universeSlots s.stream.slots u) with
  | none => s
  | some (start, count) =>
    let f := refreshFrame s u start count
    match tryFile s.tables s.now .rackExpress f s.links with
    | some l => withSlots (s.withLinks l) (mapRangeVec clearHeld (256 * u + start) count s.stream.slots)
    | none => overflowed .rackExpress f s

/-- R63: the refresh frames of a level step, universes 0 to 3 in order. -/
def refreshAll (s : State) : State := [0, 1, 2, 3].foldl refreshUniverse s

/-! ### The commands -/

/-- R31, R43: every channel takes its new output and the changed slots are marked; the next step stands 25 ms after this
one (DESIGN CHOICE, log 4). -/
def resolveAll (s : State) : State :=
  let new := tabulate 96 (stepChannel s)
  withSlots (s.withLevels { s.levels with channels := new, stepTimer := afterMs s 25 })
    (markChanged s.tables s.levels.channels new s.stream.slots)

/-- LEVEL_STEP (R31, R63). -/
def execLevelStep (s : State) : Host.Outcome State Fault Refusal := .next (refreshAll (resolveAll s))

/-- R66: every HOUSE and GUARD slot is marked. -/
def periodicMarks (s : State) : State :=
  s.withStream { s.stream with slots := mapVec markHeld s.stream.slots, refreshTimer := afterMs s 1000 }

/-- PERIODIC_REFRESH (R66). -/
def execPeriodicRefresh (s : State) : Host.Outcome State Fault Refusal := .next (periodicMarks s)

/-- R46: the stage-safe flag has changed: every guard in use whose safe level differs from its shadow is marked. -/
def markGuards (s : State) : State :=
  withSlots s ((List.finRange 32).foldl (fun v g =>
    if guardInUse s.tables.guards[g] && s.tables.guards[g].safe != (slotAt v (guardSlot s.tables g)).shadow
    then markDirty v (guardSlot s.tables g) else v) s.stream.slots)

end Sys2Proof.Machine
end

