-- ==== Sys2Proof/Machine/Effects.lean ====
section
/-! DEFINITION. The Effect Unit (R126 to R137): the hand-over from the Zone Monitor, the alarm stage with the
consequences of EVACUATE, the delivery of the effect set, and ALARM_RESET and NOTICE_TIMER_EXPIRY.

A hand-over can bring further hand-overs: the closings of R131 replay fires, and ALARM joining the drop-demand set can
have the governor report to zone 64. Each level below is the hand-over as it acts inside the next, where the
consequences it leaves out cannot arise: inside a delivery to the governor ALARM is already in the drop-demand set and
the stage is already EVACUATE; inside the closings of R131 the stage is already EVACUATE (DEDUCED, log 15; R131, last
sentence of step 3's paragraph). -/

namespace Sys2Proof.Machine

/-! ### Delivery -/

/-- R132: the effect set delivered, in order, to the governor, the Level Engine (which reads it), the Stream Rewriter
and the Call Sequencer; `old` is the set before this hand-over. -/
def deliver (curtain : State → State) (old : EffectSet) (s : State) : State :=
  let s1 := if s.effects.set.curtain then curtain s else s
  let s2 := if s1.effects.set.stageSafe && !old.stageSafe then markGuards s1 else s1
  askEvacuation s2

/-- R130: the stage takes a new value, with its ALARM-STAGE record. -/
def setStage (st : Stage) (s : State) : State :=
  let old := s.effects.stage
  writeRecord .alarmStage 0 old.code st.code (noticeIsDue (s.withEffects { s.effects with stage := st }))

/-- R130, R131: the stage recomputed; `rise` stands for the consequences of a change to EVACUATE. -/
def recomputeStage (rise : State → State) (s : State) : State :=
  let st := stageOf s.monitor.zones s.monitor.link
  if st = s.effects.stage then s
  else
    let s1 := setStage st s
    if st = .evacuate then rise s1 else s1

/-- The effect set of the zones as they stand (R128). -/
def currentSet (s : State) : EffectSet := effectSetOf s.tables.response s.monitor.zones

/-- R134: the staff call starts at an entry to INVESTIGATING and ends when no zone investigates. -/
def followInvestigation (entered : Bool) (s : State) : State :=
  let s1 := if entered then askStaff s else s
  if (zonesIn s1.monitor.zones .investigating).isEmpty then endCall .alertOver 1 s1 else s1

/-- R128 to R134: a hand-over, with the consequences of a rise to EVACUATE and the delivery to the governor given. The
stage with its record comes before the staff call starts or ends (DESIGN CHOICE, log 30). A hand-over that leaves the
effect set as it was makes no delivery, so a zone that joins the alarm after the evacuation call ended DONE, and whose row
adds nothing to the set, starts no call (DESIGN CHOICE between R132 and R133 item 2, log 31). -/
def handOverWith (rise curtain : State → State) (entered : Bool) (s : State) : State :=
  let old := s.effects.set
  let set := currentSet s
  let s1 := recomputeStage rise (s.withEffects { s.effects with set := set })
  let s2 := if set = old then s1 else deliver curtain old s1
  followInvestigation entered s2

/-- The hand-over of zone 64 inside a delivery to the governor. -/
def handOverInDelivery : HandOver := handOverWith id id

/-- The governor's delivery: ALARM joins the drop-demand set (R78, R132). -/
def deliverCurtain (s : State) : State := addAlarm (report64 handOverInDelivery) s

/-- The hand-over inside the closings of R131 step 3. -/
def handOverInRise : HandOver := handOverWith id deliverCurtain

/-- R131: the staff call ends, the ordinary calls are suppressed and every open window closes. -/
def riseToEvacuate (s : State) : State :=
  closeWindows handOverInRise .evacuate (suppressOrdinary (endCall .alertOver 1 s))

/-- R130 to R134: the hand-over from the Zone Monitor. -/
def handOver : HandOver := handOverWith riseToEvacuate deliverCurtain

/-- R92, R124: a report of the governor to zone 64. -/
def reportCurtain : Reporter := report64 handOver

/-! ### Alarm reset -/

/-- Whether a device map holds a FIRE entry, masked or not, or a MANUAL entry (R135 test 2). -/
def holdsFire (z : Zone) : Bool := z.devices.any fun d => d.condition.isFire || d.condition = .manual

/-- R135: the tests of ALARM-RESET. -/
def alarmResetTests (s : State) : Option Reason :=
  if s.monitor.link != .up then some .panelLink
  else if (List.finRange 66).any fun z => decide (z.val < 64) && holdsFire (zoneAt s z) then some .alarmActive
  else if s.lines.panelFire then some .alarmActive
  else if fallingState s.curtain.state then some .curtainState
  else none

/-- R136 step 1: one zone becomes QUIET. -/
def quietZone (s : State) (z : ZoneId) : State :=
  let old := (zoneAt s z).state
  if old = .quiet then s
  else
    writeRecord .zoneState (zoneByte z) old.code ZoneState.quiet.code (updZone z (fun r => { leaveInvestigation r with
      devices := r.devices.filter fun d => d.condition != .pre
      knock := none
      state := .quiet }) s)

/-- R136 step 3: the emptied set is delivered. -/
def deliverEmpty (old : EffectSet) (s : State) : State :=
  let s1 := updCurtain (fun c => { c with demands := { c.demands with alarm := false } }) s
  let s2 := if old.stageSafe then markGuards s1 else s1
  endCall .resetByAlarm 0 s2

/-- R136: an accepted ALARM-RESET. -/
def alarmReset (s : State) : State :=
  let s1 := (List.finRange 66).foldl quietZone s
  let s2 := deliverEmpty s.effects.set (s1.withEffects { s1.effects with set := emptyEffects })
  writeRecord .alarmReset 0 0 0 (recomputeStage id (endCall .alertOver 1 s2))

/-- R135, R136: ALARM-RESET. -/
def alarmResetOwner (_ : List Byte) (s : State) : State × Reply :=
  match alarmResetTests s with
  | some r => (s, refuse r)
  | none => (alarmReset s, done)

/-- ALARM_RESET (R135). -/
def execAlarmReset (s : State) : Host.Outcome State Fault Refusal := .next (handle 12 alarmResetOwner s)

/-! ### Notices -/

/-- R137 item 1: the periodic notice. -/
def periodicNotice (s : State) : State :=
  offer .panelTx (panelNotice s) (s.withEffects { s.effects with noticeTimer := afterMs s 1000 })

/-- NOTICE_TIMER_EXPIRY (R137). -/
def execNoticeTimerExpiry (s : State) : Host.Outcome State Fault Refusal := .next (periodicNotice s)

end Sys2Proof.Machine
end

