-- ==== Sys2Proof/Machine/CurtainCommands.lean ====
section
/-! DEFINITION. The commands of the Curtain Governor: the encoder, the limit, slow-zone and stage-release lines, the
capture timer, the four timers, CURTAIN_RELEASE, CURTAIN_RAISE and CURTAIN_TEST (R70 to R98). -/

namespace Sys2Proof.Machine

/-! ### Lines -/

/-- R76: whether a valid transition of the pair, new levels `a` and `b`, counts downward. -/
def countsDown (changedB a b : Bool) : Bool := if changedB then b != a else a == b

/-- R76: a sample of the pair; one that equals the last is no transition (log 3). -/
def encoderSample (a b : Bool) (s : State) : State :=
  let changedA := s.lines.encA != a
  let changedB := s.lines.encB != b
  let s1 := s.withLines { s.lines with encA := a, encB := b }
  if changedA && changedB then illegalCount reportCurtain s1
  else if changedA || changedB then
    if countsDown changedB a b then downCount reportCurtain s1 else upCount reportCurtain s1
  else s1

/-- ENCODER_TRANSITION (R76). -/
def execEncoderTransition (a b : Bool) (s : State) : Host.Outcome State Fault Refusal :=
  .next (endAct (encoderSample a b s))

/-- R77, R89: LIMIT-IN asserts. -/
def limitInAsserts (s : State) : State :=
  let s1 := s.withLines { s.lines with limitIn := true }
  if s.lines.limitOut then limitsConflict reportCurtain s1 else limitInTaken reportCurtain s1

/-- LIMIT_IN_ASSERTED (R89). -/
def execLimitInAsserted (s : State) : Host.Outcome State Fault Refusal :=
  if s.lines.limitIn then .next s else .next (endAct (limitInAsserts s))

/-- R77, R90: LIMIT-OUT asserts. -/
def limitOutAsserts (s : State) : State :=
  let s1 := s.withLines { s.lines with limitOut := true }
  if s.lines.limitIn then limitsConflict reportCurtain s1 else limitOutTaken reportCurtain s1

/-- LIMIT_OUT_ASSERTED (R90). -/
def execLimitOutAsserted (s : State) : Host.Outcome State Fault Refusal :=
  if s.lines.limitOut then .next s else .next (endAct (limitOutAsserts s))

/-- CONFLICT removed from the drop-demand set (R77). -/
def dropConflict (s : State) : State :=
  updCurtain (fun c => { c with demands := { c.demands with conflict := false } }) s

/-- R77, R90: a limit releases; outside a conflict that has no effect. -/
def limitReleases (l : Limit) (s : State) : State :=
  match l with
  | .inLimit =>
    let s1 := s.withLines { s.lines with limitIn := false }
    if inConflict s then limitOutTaken reportCurtain (dropConflict s1) else s1
  | .outLimit =>
    let s1 := s.withLines { s.lines with limitOut := false }
    if inConflict s then limitInTaken reportCurtain (dropConflict s1) else s1

/-- LIMIT_RELEASED (R77). -/
def execLimitReleased (l : Limit) (s : State) : Host.Outcome State Fault Refusal := .next (endAct (limitReleases l s))

/-- R85: SLOW-SW asserts. -/
def slowSwAsserts (s : State) : State :=
  let s1 := s.withLines { s.lines with slowSw := true }
  match s.curtain.state with
  | .descending | .slowing => slowZoneTest reportCurtain true s1
  | .unknown | .resting | .raising | .out | .stalled => s1

/-- SLOW_SW_ASSERTED (R85). -/
def execSlowSwAsserted (s : State) : Host.Outcome State Fault Refusal :=
  if s.lines.slowSw then .next s else .next (endAct (slowSwAsserts s))

/-- SLOW_SW_RELEASED (R70). -/
def execSlowSwReleased (s : State) : Host.Outcome State Fault Refusal :=
  .next (s.withLines { s.lines with slowSw := false })

/-- R78: STAGE-RELEASE asserts. -/
def stageReleaseAsserts (s : State) : State :=
  let s1 := s.withLines { s.lines with stageRelease := true }
  if s.curtain.state = .resting then s1 else addDemand reportCurtain .stageRelease s1

/-- STAGE_RELEASE_ASSERTED (R78). -/
def execStageReleaseAsserted (s : State) : Host.Outcome State Fault Refusal :=
  if s.lines.stageRelease then .next s else .next (endAct (stageReleaseAsserts s))

/-- STAGE_RELEASE_RELEASED (R70). -/
def execStageReleaseReleased (s : State) : Host.Outcome State Fault Refusal :=
  .next (s.withLines { s.lines with stageRelease := false })

/-! ### Timers: the expiry of a stopped timer has no effect (DESIGN CHOICE, logs 3 and 4) -/

/-- R82: the capture timer wraps to 0, which a held reference counts, to 255. -/
def captureWraps (s : State) : State :=
  updCurtain (fun c => { c with
    capture := 0
    window := { c.window with reference := c.window.reference.map fun r => (r.1, min 255 (r.2 + 1)) } }) s

/-- CAPTURE_TIMER_WRAP (R82). -/
def execCaptureTimerWrap (s : State) : Host.Outcome State Fault Refusal := .next (captureWraps s)

/-- R81, R88, R94: the start-window timer runs out. -/
def startWindowOut (s : State) : State :=
  let s1 := updCurtain (fun c => { c with startTimer := none }) s
  match s.curtain.state with
  | .raising => raiseFails reportCurtain s1
  | .unknown | .descending | .slowing => toState .stalled (recordFault reportCurtain .startFail s1)
  | .resting | .out | .stalled => s1

/-- START_WINDOW_EXPIRY (R88). -/
def execStartWindowExpiry (s : State) : Host.Outcome State Fault Refusal :=
  if s.curtain.startTimer.isSome then .next (endAct (startWindowOut s)) else .next s

/-- R87: the stall timer runs out. -/
def stallOut (s : State) : State :=
  match s.curtain.state with
  | .descending | .slowing =>
    toState .stalled (updCurtain (fun c => { c with window := freshWindow, stallTimer := none })
      (recordFault reportCurtain .stall s))
  | .unknown | .resting | .raising | .out | .stalled => updCurtain (fun c => { c with stallTimer := none }) s

/-- STALL_TIMER_EXPIRY (R87). -/
def execStallTimerExpiry (s : State) : Host.Outcome State Fault Refusal :=
  if s.curtain.stallTimer.isSome then .next (endAct (stallOut s)) else .next s

/-- R88, R98 case 3: the drop timer runs out. -/
def dropOut (s : State) : State :=
  closeTest false none (recordFault reportCurtain .dropTimeout (updCurtain (fun c => { c with dropTimer := none }) s))

/-- DROP_TIMER_EXPIRY (R88). -/
def execDropTimerExpiry (s : State) : Host.Outcome State Fault Refusal :=
  if s.curtain.dropTimer.isSome then .next (endAct (dropOut s)) else .next s

/-- R94: the raise timer runs out. -/
def raiseOut (s : State) : State :=
  let s1 := updCurtain (fun c => { c with raiseTimer := none }) s
  if s.curtain.state = .raising then raiseFails reportCurtain s1 else s1

/-- RAISE_TIMER_EXPIRY (R94). -/
def execRaiseTimerExpiry (s : State) : Host.Outcome State Fault Refusal :=
  if s.curtain.raiseTimer.isSome then .next (endAct (raiseOut s)) else .next s

/-! ### Requests -/

/-- R96: CURTAIN-RELEASE. -/
def curtainReleaseOwner (_ : List Byte) (s : State) : State × Reply :=
  match s.curtain.state with
  | .out | .raising => (addDemand reportCurtain .request s, done)
  | .unknown | .resting | .descending | .slowing | .stalled => (s, done)

/-- CURTAIN_RELEASE (R96). -/
def execCurtainRelease (s : State) : Host.Outcome State Fault Refusal := .next (handle 15 curtainReleaseOwner s)

/-- R93: the tests of CURTAIN-RAISE. -/
def raiseTests (s : State) : Option Reason :=
  if s.curtain.state != .resting then some .curtainState
  else if s.curtain.demands.any then some .curtainState
  else if s.effects.stage = .staffAlert || s.effects.stage = .evacuate then some .alarmActive
  else if !permitsRaise s.phase.phase then some .wrongPhase
  else none

/-- R93: an accepted raise. -/
def beginRaise (s : State) : State :=
  toState .raising (updCurtain (fun c => { c with
    faults := 0
    holdDrive := true
    raisePermit := true
    startTimer := afterMs s s.tables.curtain.startWindow.toNat
    raiseTimer := afterS s s.tables.curtain.maxRaise.toNat }) s)

/-- R93: CURTAIN-RAISE. -/
def curtainRaiseOwner (_ : List Byte) (s : State) : State × Reply :=
  match raiseTests s with
  | some r => (s, refuse r)
  | none => (beginRaise s, done)

/-- CURTAIN_RAISE (R93). -/
def execCurtainRaise (s : State) : Host.Outcome State Fault Refusal := .next (handle 16 curtainRaiseOwner s)

/-- R97, R98: the test record opened at an acceptance. -/
def openTest (s : State) : State :=
  updCurtain (fun c => { c with test := ⟨.running, s.now, none, none, none, none, none, 0⟩ }) s

/-- R97: CURTAIN-TEST. -/
def curtainTestOwner (_ : List Byte) (s : State) : State × Reply :=
  if s.curtain.state != .out then (s, refuse .curtainState)
  else if !(s.phase.phase = .dark || s.phase.phase = .rehearsal) then (s, refuse .wrongPhase)
  else (openTest (addDemand reportCurtain .test s), done)

/-- CURTAIN_TEST (R97). -/
def execCurtainTest (s : State) : Host.Outcome State Fault Refusal := .next (handle 17 curtainTestOwner s)

end Sys2Proof.Machine
end

