-- ==== Sys2Proof/Machine/LinkCommands.lean ====
section
/-! DEFINITION. The Link Ports (R165 to R176): FRAME_ARRIVAL, FRAME_SENT, TRANSMITTER_FREE, and the frames passed on by
TAKE_CONSOLE_PASS and TAKE_RACK_RETURN. -/

namespace Sys2Proof.Machine

/-- The receive queue of a port (9). -/
def receiveQueue : Port → QueueId
  | .console => .consoleRx
  | .rack => .rackRx
  | .panel => .panelRx

/-- A port's bad-frame latch set. -/
def setBadLatch (p : Port) (closed : Bool) (s : State) : State :=
  s.withLinks { s.links with badLatch := putAt s.links.badLatch p.ix closed }

/-- R167: a bad frame is discarded, with a FRAME-BAD record if the port's latch is open; its byte count is that of the
whole run, sent as 255 above 255 (11.2 note 3), though the receiver stops storing at 206 (R165). -/
def badFrame (p : Port) (cause : Byte) (bytes : List Byte) (s : State) : State :=
  if s.links.badLatch[p.ix] then s
  else setBadLatch p true (writeRecord .frameBad p.code cause (byteSat bytes.length) s)

/-- R167: a run of bytes is judged, and discarded or offered to the port's receive queue. -/
def receive (p : Port) (bytes : List Byte) (s : State) : State :=
  match judgeFrame bytes with
  | .badLength => badFrame p 0 bytes s
  | .badCheck => badFrame p 1 bytes s
  | .good => offer (receiveQueue p) bytes (setBadLatch p false s)

/-- R29: the receivers file nothing from the RESET line's assertion, or from the sending of the RESTART reply with which
the power-on sequence begins, until the tables take force. -/
def loading (s : State) : Bool := s.lines.reset || s.restart = .due

/-- FRAME_ARRIVAL (R167). No frame is filed or reported while the tables are loaded (R29), and a line held idle is never
a frame (R165). -/
def execFrameArrival (p : Port) (bytes : List Byte) (s : State) : Host.Outcome State Fault Refusal :=
  if loading s || bytes.isEmpty then .next s else .next (receive p bytes s)

/-- The queues a port's transmitter serves, in its order of preference (R175, R176). -/
def transmitQueues : Port → List QueueId
  | .console => [.consoleTx]
  | .rack => [.rackExpress, .rackPass]
  | .panel => [.panelTx]

/-- What a transmitter does when free: it begins the head frame of the first of its queues that holds one (R175). -/
def nextSending (s : State) : List QueueId → TxState
  | [] => .free
  | q :: qs =>
    match headFrame s q with
    | some f => .sending q (s.now + f.length)
    | none => nextSending s qs

/-- A port's transmitter replaced. -/
def setTx (p : Port) (t : TxState) (s : State) : State := s.withLinks { s.links with tx := putAt s.links.tx p.ix t }

/-- R185: a frame of CONSOLE-TX has been sent while an accepted RESTART waits for its reply. -/
def restartCounts (p : Port) (r : RestartState) : RestartState :=
  match p, r with
  | .console, .waiting n => if n ≤ 1 then .due else .waiting (n - 1)
  | _, r => r

/-- R170: a transmitter has sent a frame's last byte: the frame leaves its queue, and the idle gap follows (R165). It
acts as it is offered, before the tick at which the frame would end as well (DESIGN CHOICE, log 4). -/
def frameSent (p : Port) (s : State) : State :=
  match s.links.tx[p.ix] with
  | .sending q _ => (setTx p (.gap (s.now + 3)) (dropHead q s)).withRestart (restartCounts p s.restart)
  | .free | .gap _ => s

/-- FRAME_SENT (R170; DESIGN CHOICE, log 3: no effect where no frame is being sent). -/
def execFrameSent (p : Port) (s : State) : Host.Outcome State Fault Refusal := .next (frameSent p s)

/-- R175: the transmitter is free, unless it is sending. It acts as it is offered, before the tick at which the gap would
end as well (DESIGN CHOICE, log 4). -/
def transmitterFree (p : Port) (s : State) : State :=
  match s.links.tx[p.ix] with
  | .sending _ _ => s
  | .free | .gap _ => setTx p (nextSending s (transmitQueues p)) s

/-- TRANSMITTER_FREE (R175, R176; DESIGN CHOICE, log 3: no effect while a frame is being sent). -/
def execTransmitterFree (p : Port) (s : State) : Host.Outcome State Fault Refusal := .next (transmitterFree p s)

/-- TAKE_CONSOLE_PASS (R172 case 3). -/
def execTakeConsolePass (s : State) : Host.Outcome State Fault Refusal :=
  match consoleHead s with
  | some f =>
    if frameKind f = kindLevels || forThePart s f then .next s else .next (offer .rackPass f (dropHead .consoleRx s))
  | none => .next s

/-- TAKE_RACK_RETURN (R173 case 3). -/
def execTakeRackReturn (s : State) : Host.Outcome State Fault Refusal :=
  match headFrame s .rackRx with
  | some f => if frameKind f = kindCallDone then .next s else .next (offer .consoleTx f (dropHead .rackRx s))
  | none => .next s

end Sys2Proof.Machine
end

