-- ==== Sys2Proof/Config.lean ====
section
/-! DEFINITION. What the manual leaves open and the model does not choose. -/

namespace Sys2Proof.Config

/-- The format marker of the store image (R26). The manual names it and gives no bytes for it, so it is a free value:
nothing constrains it, and the image checks computed over it are free with it (assumption log 1). -/
opaque formatMarker : List Byte

/-- Whether SLOW-SW is taken before the limit lines where both are asserted as the tables take force (R70: either may be
taken first). A free value (assumption log 7). -/
opaque slowSwitchFirst : Bool

end Sys2Proof.Config
end

