-- ==== Sys2Proof/Machine/Store.lean ====
section
/-! DEFINITION. The non-volatile store (R26 to R28) and tables taking force at a commit (R25, R50, R67, R75, R169):
STORE_WRITE_END and RESET_ASSERTED. -/

namespace Sys2Proof.Machine

/-- R26: the check of an image with the format marker and some tables. -/
def imageCheck (t : Tables) : Word16 := crc (Config.formatMarker ++ allTableBytes t)

/-- R26, R27: the image written for some tables. -/
def imageOf (t : Tables) : StoreImage := ⟨some Config.formatMarker, t, imageCheck t⟩

/-- R26: an image is good when its marker is present, its check agrees and its tables pass validation. -/
def imageGood (i : StoreImage) : Bool :=
  i.marker = some Config.formatMarker && i.check = imageCheck i.tables && (validate i.tables).isNone

/-- The check of an image as read back, over the marker it holds and its tables (R28; DEDUCED, log 9). -/
def readBackCheck (i : StoreImage) : Word16 := crc (i.marker.getD [] ++ allTableBytes i.tables)

/-- R28: an image with its marker erased. -/
def eraseMarker (i : StoreImage) : StoreImage := { i with marker := none }

/-- R28: the store write ends. -/
def writeEnds (back written : StoreImage) (s : State) : State :=
  if imageGood back && decide (back = written) then
    writeRecord .commitStored 0 (back.check.extractLsb' 8 8) (back.check.extractLsb' 0 8)
      (s.withStore ⟨back, none⟩)
  else
    let c := readBackCheck back
    writeRecord .storeFailed 0 (c.extractLsb' 8 8) (c.extractLsb' 0 8) (s.withStore ⟨eraseMarker back, none⟩)

/-- STORE_WRITE_END (R28); the store is IDLE when no write is under way, and the end of none has no effect
(DESIGN CHOICE, log 3). -/
def execStoreWriteEnd (back : StoreImage) (s : State) : Host.Outcome State Fault Refusal :=
  match s.store.writing with
  | some w => .next (writeEnds back w s)
  | none => .next s

/-- R28: a write under way is abandoned, and the image it was writing is bad. -/
def abandonWrite (st : Store) : Store := if st.writing.isSome then ⟨eraseMarker st.image, none⟩ else st

/-- RESET_ASSERTED (R28, R29): any store write is abandoned, and the receivers file nothing while the line stands
(DEDUCED, log 8: nothing else changes). -/
def execResetAsserted (s : State) : Host.Outcome State Fault Refusal :=
  .next ((s.withLines { s.lines with reset := true }).withStore (abandonWrite s.store))

/-- R75: the governor under new tables. -/
def curtainTakesTables (old new : Tables) (c : Curtain) : Curtain :=
  { c with
    position := min c.position new.curtain.travel.toNat
    referenced := c.referenced && decide (old.curtain.travel = new.curtain.travel)
    window := freshWindow }

/-- R25 steps 1 to 5: the working copy takes force, in DARK. -/
def commitTables (s : State) : State :=
  let t := s.working
  let slots := deriveSlots t s.stream.slots
  (((((s.withTables t).withStream { s.stream with slots := slots }).withLevels { s.levels with
      channels := forcedChannels (audience .dark) t slots, masters := forcedMasters t }).withStore
    { s.store with writing := some (imageOf t) }).withCurtain (curtainTakesTables s.tables t s.curtain)).withLinks
    (emptyQueues s.links)

end Sys2Proof.Machine
end

