-- ==== Sys2Proof/Machine/PhaseCommands.lean ====
section
/-! DEFINITION. The Phase Controller (R1 to R14): SET_PHASE with its transition table, guards, commit and reactions, and
STAFF_PRESENT; and SET_MASTER of the Level Engine (R23). -/

namespace Sys2Proof.Machine

/-- The rows of the transition table of 1.3. -/
def isTransition : Phase → Phase → Bool
  | .maintenance, .dark | .dark, .maintenance | .dark, .rehearsal | .rehearsal, .dark | .dark, .houseOpen
  | .houseOpen, .performance | .houseOpen, .clearing | .performance, .interval | .performance, .clearing
  | .interval, .performance | .interval, .clearing | .clearing, .dark
  | .recovery, .dark | .recovery, .houseOpen | .recovery, .performance | .recovery, .interval
  | .recovery, .clearing => true
  | _, _ => false

/-- R5: INVALID-TABLES with the triple of the first failing check. -/
def invalidTables (f : Nat × Nat × Nat) : Reply := ⟨some .invalidTables, [byteOf f.1, byteOf f.2.1, byteOf f.2.2]⟩

/-- R8: the guards of DARK to HOUSE-OPEN. -/
def openingGuards (s : State) : Option Reason :=
  if !s.phase.testValid then some .curtainTest
  else if s.effects.stage = .staffAlert || s.effects.stage = .evacuate then some .alarmActive
  else if s.monitor.link != .up then some .panelLink
  else none

/-- R5, R6, R8, R12: the guards of a transition; the refusal of the first that fails. -/
def guardOf (s : State) (target : Phase) : Option Reply :=
  match s.phase.phase, target with
  | .maintenance, _ => (validate s.working).map invalidTables
  | .dark, .maintenance => if s.store.writing.isSome then some (refuse .busy) else none
  | .dark, .houseOpen => (openingGuards s).map refuse
  | .recovery, _ => if s.curtain.state = .unknown then some (refuse .curtainState) else none
  | _, _ => none

/-- R4 tests 3 to 5: the refusal of a transition to another phase. -/
def transitionTests (s : State) (target : Phase) : Option Reply :=
  if s.effects.stage = .evacuate && target != .clearing then some (refuse .alarmActive)
  else if !isTransition s.phase.phase target then some (refuse .wrongPhase)
  else guardOf s target

/-- R13: the entries that clear curtain-test validity. -/
def clearsValidity (p : Phase) : Bool := p = .dark || p = .maintenance

/-- R2, R13, R14: the phase changes, with its records. -/
def changePhase (target : Phase) (s : State) : State :=
  let old := s.phase
  let s1 := noticeIsDue (s.withPhase { old with
    phase := target
    testValid := old.testValid && !clearsValidity target
    staff := old.staff && !noStaffPhase target })
  let s2 := writeRecord .phaseChanged 0 old.phase.code target.code s1
  if old.staff && noStaffPhase target then writeRecord .staffPresence 0 0 1 s2 else s2

/-- R125: one zone under the new tables. A zone in ALARM, which no commit finds (R25), would keep its state (R103). -/
def zoneTakesTables (s : State) (z : ZoneId) : State :=
  if (rowOf s z).cls != 0 || (zoneAt s z).state = .alarm then s
  else
    let old := zoneAt s z
    let s1 := updZone z (fun r => { leaveInvestigation r with state := .quiet, devices := [], knock := none }) s
    let s2 := if old.state = .quiet then s1
      else handOver false (writeRecord .zoneState (zoneByte z) old.state.code ZoneState.quiet.code s1)
    if old.faulty then handOver false s2 else s2

/-- R121: the Zone Monitor's reactions to a change of phase. -/
def zonesFollowPhase (target : Phase) (s : State) : State :=
  let s1 := if permitsDelay target then s else endInvestigation handOver s
  if permitsIsolation target then s1 else closeWindows handOver .phase s1

/-- R157, R160, R163: the Call Sequencer's reactions to a change of phase. -/
def callsFollowPhase (old target : Phase) (length : Nat) (s : State) : State :=
  let s1 := if permitsCalls target then s else suppressOrdinary s
  let s2 := if old = .interval then stopInterval s1 else s1
  if target = .interval then startInterval length s2 else s2

/-- R4 test 6: an accepted transition is carried out (DEDUCED, log 24: the order). -/
def carryOut (target : Phase) (length : Nat) (s : State) : State :=
  let old := s.phase.phase
  let s1 := changePhase target (if old = .maintenance then commitTables s else s)
  let s2 := if old = .maintenance then (List.finRange 66).foldl zoneTakesTables s1 else s1
  let s3 := if target = .maintenance then s2.withWorking s2.tables else s2
  callsFollowPhase old target length (zonesFollowPhase target s3)

/-- R9: the interval length of a request. -/
def intervalLength (s : State) (args : List Byte) : Nat :=
  if args.length = 3 then clamp 60 3600 (argWord args 1) else s.tables.schedule.length.toNat

/-- R4: SET-PHASE. -/
def setPhaseOwner (args : List Byte) (s : State) : State × Reply :=
  match Phase.ofCode (byteAt args 0) with
  | none => (s, refuse .badArgument)
  | some target =>
    if target = s.phase.phase then (s, doneWith [target.code])
    else match transitionTests s target with
      | some r => (s, r)
      | none => (carryOut target (intervalLength s args) s, doneWith [target.code])

/-- SET_PHASE (R4). -/
def execSetPhase (s : State) : Host.Outcome State Fault Refusal := .next (handle 3 setPhaseOwner s)

/-- R14, R117: staff presence takes a new value by request. -/
def changeStaff (on : Bool) (s : State) : State :=
  let s1 := writeRecord .staffPresence 0 (boolByte on) 0 (s.withPhase { s.phase with staff := on })
  if on then s1 else endInvestigation handOver s1

/-- R14: STAFF-PRESENT. -/
def staffPresentOwner (args : List Byte) (s : State) : State × Reply :=
  if 1 < (byteAt args 0).toNat then (s, refuse .badArgument)
  else if noStaffPhase s.phase.phase then (s, refuse .wrongPhase)
  else if s.phase.staff = decide (byteAt args 0 = 1) then (s, done)
  else (changeStaff (decide (byteAt args 0 = 1)) s, done)

/-- STAFF_PRESENT (R14). -/
def execStaffPresent (s : State) : Host.Outcome State Fault Refusal := .next (handle 4 staffPresentOwner s)

/-- R23: SET-MASTER. -/
def setMasterOwner (args : List Byte) (s : State) : State × Reply :=
  match areaIdOf (byteAt args 0) with
  | none => (s, refuse .badArgument)
  | some a =>
    if areaInUse s.tables a then
      (s.withLevels { s.levels with masters := putAt s.levels.masters a (byteAt args 1) }, done)
    else (s, refuse .badArgument)

/-- SET_MASTER (R23). -/
def execSetMaster (s : State) : Host.Outcome State Fault Refusal := .next (handle 5 setMasterOwner s)

end Sys2Proof.Machine
end

