-- ==== Sys2Proof/Machine/ZoneCommands.lean ====
section
/-! DEFINITION. The commands of the Zone Monitor: TAKE_ZONE_REPORT, TAKE_PANEL_BEAT, TAKE_PANEL_OTHER, the PANEL-FIRE
line, ALARM_ACK, ALARM_CONFIRM, ALARM_CANCEL, ISOLATE_ZONE, END_ISOLATION and the expiries (R104, R114 to R123). -/

namespace Sys2Proof.Machine

/-! ### The panel link -/

/-- TAKE_ZONE_REPORT (R104, R174). -/
def execTakeZoneReport (s : State) : Host.Outcome State Fault Refusal :=
  match headFrame s .panelRx with
  | some f =>
    if frameKind f = kindZoneReport then .next (endAct (takeReport handOver (frameBody f) (dropHead .panelRx s)))
    else .next s
  | none => .next s

/-- R122: the panel link takes a state, with its PANEL-LINK record and hand-over. -/
def setLink (l : PanelLink) (s : State) : State :=
  let old := s.monitor.link
  handOver false (writeRecord .panelLink 0 old.code l.code (s.withMonitor { s.monitor with link := l }))

/-- R122: a PANEL-BEAT. -/
def panelBeat (s : State) : State :=
  let s1 := s.withMonitor { s.monitor with heartbeat := afterS s s.tables.link.heartbeat.toNat }
  if s.monitor.link = .up then s1 else setLink .up s1

/-- TAKE_PANEL_BEAT (R122, R174). -/
def execTakePanelBeat (s : State) : Host.Outcome State Fault Refusal :=
  match headFrame s .panelRx with
  | some f => if frameKind f = kindPanelBeat then .next (endAct (panelBeat (dropHead .panelRx s))) else .next s
  | none => .next s

/-- TAKE_PANEL_OTHER (R174). -/
def execTakePanelOther (s : State) : Host.Outcome State Fault Refusal :=
  match headFrame s .panelRx with
  | some f =>
    if frameKind f = kindZoneReport || frameKind f = kindPanelBeat then .next s else .next (dropHead .panelRx s)
  | none => .next s

/-- R117, R122: the heartbeat timer runs out. -/
def heartbeatOut (s : State) : State :=
  endAct (endInvestigation handOver (setLink .lost (s.withMonitor { s.monitor with heartbeat := none })))

/-- HEARTBEAT_TIMER_EXPIRY (R122). -/
def execHeartbeatTimerExpiry (s : State) : Host.Outcome State Fault Refusal :=
  if s.monitor.heartbeat.isSome then .next (heartbeatOut s) else .next s

/-! ### The PANEL-FIRE line -/

/-- PANEL_FIRE_ASSERTED (R123). -/
def execPanelFireAsserted (s : State) : Host.Outcome State Fault Refusal :=
  if s.lines.panelFire then .next s
  else .next (endAct (panelFire handOver (s.withLines { s.lines with panelFire := true })))

/-- PANEL_FIRE_RELEASED (R123). -/
def execPanelFireReleased (s : State) : Host.Outcome State Fault Refusal :=
  .next (s.withLines { s.lines with panelFire := false })

/-! ### Requests on an investigation -/

/-- R114, R115: the zone of a request, which must be INVESTIGATING. -/
def investigatingZone (s : State) (b : Byte) : Except Reason ZoneId :=
  match zoneIdOf b with
  | none => .error .badArgument
  | some z => if (zoneAt s z).state = .investigating then .ok z else .error .notInvestigating

/-- R114: ALARM-ACK. -/
def alarmAckOwner (args : List Byte) (s : State) : State × Reply :=
  match investigatingZone s (byteAt args 0) with
  | .error r => (s, refuse r)
  | .ok z => (updZone z (fun r => { r with acked := true, ackTimer := none }) s, done)

/-- ALARM_ACK (R114). -/
def execAlarmAck (s : State) : Host.Outcome State Fault Refusal := .next (handle 9 alarmAckOwner s)

/-- R115: ALARM-CONFIRM. -/
def alarmConfirmOwner (args : List Byte) (s : State) : State × Reply :=
  match investigatingZone s (byteAt args 0) with
  | .error r => (s, refuse r)
  | .ok z => (enterState handOver z .alarm s, done)

/-- ALARM_CONFIRM (R115). -/
def execAlarmConfirm (s : State) : Host.Outcome State Fault Refusal := .next (handle 10 alarmConfirmOwner s)

/-- R115: an acknowledged investigation is cancelled. -/
def cancelInvestigation (z : ZoneId) (s : State) : State :=
  enterState handOver z .quiet (updZone z (fun r => { r with
    devices := r.devices.filter fun d => !(d.condition = .pre || d.condition.isFire)
    knock := none }) s)

/-- R115: ALARM-CANCEL. -/
def alarmCancelOwner (args : List Byte) (s : State) : State × Reply :=
  match investigatingZone s (byteAt args 0) with
  | .error r => (s, refuse r)
  | .ok z => if (zoneAt s z).acked then (cancelInvestigation z s, done) else (s, refuse .notAcknowledged)

/-- ALARM_CANCEL (R115). -/
def execAlarmCancel (s : State) : Host.Outcome State Fault Refusal := .next (handle 11 alarmCancelOwner s)

/-- R116: the ack timer runs out. -/
def ackOut (z : ZoneId) (s : State) : State :=
  if (zoneAt s z).ackTimer.isSome && (zoneAt s z).state = .investigating && !(zoneAt s z).acked then
    endAct (enterState handOver z .alarm s)
  else s

/-- ACK_TIMER_EXPIRY (R116). -/
def execAckTimerExpiry (z : ZoneId) (s : State) : Host.Outcome State Fault Refusal := .next (ackOut z s)

/-- R116: the investigation timer runs out. -/
def investigationOut (z : ZoneId) (s : State) : State :=
  if (zoneAt s z).invTimer.isSome && (zoneAt s z).state = .investigating then
    endAct (enterState handOver z .alarm s)
  else s

/-- INVESTIGATION_TIMER_EXPIRY (R116). -/
def execInvestigationTimerExpiry (z : ZoneId) (s : State) : Host.Outcome State Fault Refusal :=
  .next (investigationOut z s)

/-! ### Isolation windows -/

/-- R118: the tests 1 to 5 and 7 of ISOLATE-ZONE: the reason of refusal, or the zone. -/
def isolateTests (s : State) (b : Byte) : Except Reason ZoneId :=
  match zoneIdOf b with
  | none => .error .badArgument
  | some z =>
    if 63 < z.val then .error .badArgument
    else if !((rowOf s z).cls = 1 && (rowOf s z).isolation = 1) then .error .badArgument
    else if !permitsIsolation s.phase.phase then .error .wrongPhase
    else if s.effects.stage = .evacuate then .error .alarmActive
    else if (zoneAt s z).state = .investigating || (zoneAt s z).state = .alarm then .error .alarmActive
    else if (zoneAt s z).window.isNone && decide (4 ≤ openWindows s.monitor.zones) then .error .limit
    else .ok z

/-- R118 tests 6 and 8: a window opens, or is renewed. -/
def openWindow (z : ZoneId) (seconds : Nat) (s : State) : State :=
  let w : Word16 := BitVec.ofNat 16 seconds
  writeRecord .isolationOpened (zoneByte z) (w.extractLsb' 8 8) (w.extractLsb' 0 8)
    (updZone z (fun r => { r with window := afterS s seconds }) s)

/-- R118: ISOLATE-ZONE. -/
def isolateZoneOwner (args : List Byte) (s : State) : State × Reply :=
  match isolateTests s (byteAt args 0) with
  | .error r => (s, refuse r)
  | .ok z => (openWindow z (clamp 10 900 (argWord args 1)) s, done)

/-- ISOLATE_ZONE (R118). -/
def execIsolateZone (s : State) : Host.Outcome State Fault Refusal := .next (handle 13 isolateZoneOwner s)

/-- R119: END-ISOLATION. -/
def endIsolationOwner (args : List Byte) (s : State) : State × Reply :=
  match zoneIdOf (byteAt args 0) with
  | none => (s, refuse .badArgument)
  | some z => if 63 < z.val then (s, refuse .badArgument) else (closeWindow handOver .byRequest s z, done)

/-- END_ISOLATION (R119). -/
def execEndIsolation (s : State) : Host.Outcome State Fault Refusal := .next (handle 14 endIsolationOwner s)

/-- R119: a window's expiry is reached. -/
def windowOut (z : ZoneId) (s : State) : State :=
  if (zoneAt s z).window.isSome then endAct (closeWindow handOver .expiry s z) else s

/-- ISOLATION_WINDOW_EXPIRY (R119). -/
def execIsolationWindowExpiry (z : ZoneId) (s : State) : Host.Outcome State Fault Refusal := .next (windowOut z s)

end Sys2Proof.Machine
end

