-- ==== Sys2Proof/Machine/PowerOn.lean ====
section
/-! DEFINITION. The power-on sequence (R3, R29, R70, R123, R185): POWER_ON and RESTART_POWER_ON_SEQUENCE. -/

namespace Sys2Proof.Machine

/-- R29: the tables that take force from an image. -/
def loadedTables (i : StoreImage) : Tables := if imageGood i then i.tables else defaultTables

/-- Every block at its reset value, with the RESET record written, before any line assertion is taken (R3, R29, R186). -/
def resetBlocks (cause : ResetCause) (pending : List Instr) (lines : Lines) (store : Store) : State :=
  let loaded := imageGood store.image
  let t := loadedTables store.image
  { pending := pending
    now := 0
    lines := lines
    store := store
    working := t
    tables := t
    phase := freshPhase loaded
    stream := freshStream t
    levels := freshLevels t (phaseAfterLoad loaded)
    curtain := freshCurtain t
    monitor := freshZones t
    effects := freshEffects
    calls := freshCalls
    links := freshLinks t cause loaded
    log := freshLog cause loaded
    restart := .idle }

/-- R70, R77: the limit lines asserted as the tables take force; both asserted are in conflict. -/
def takeLimits (s : State) : State :=
  if s.lines.limitIn && s.lines.limitOut then limitsConflict reportCurtain s
  else if s.lines.limitIn then limitInTaken reportCurtain s
  else if s.lines.limitOut then limitOutTaken reportCurtain s
  else s

/-- R70: SLOW-SW asserted as the tables take force. -/
def takeSlowSw (s : State) : State := if s.lines.slowSw then slowSwAsserts s else s

/-- R70: the limits and SLOW-SW asserted together, of which either may be taken first (assumption log 7). -/
def takeTravel (s : State) : State :=
  if s.lines.slowSw && (s.lines.limitIn || s.lines.limitOut) && Config.slowSwitchFirst then takeLimits (takeSlowSw s)
  else takeSlowSw (takeLimits s)

/-- R70, R123, R186: each line asserted as the tables take force is taken as an assertion at that moment, PANEL-FIRE
first, so that its ZONE-STATE is record 2 (log 7); the sequence is one act (R138). -/
def takeLines (s : State) : State :=
  let s1 := takeTravel (if s.lines.panelFire then panelFire handOver s else s)
  endAct (if s1.lines.stageRelease then stageReleaseAsserts s1 else s1)

/-- The power-on sequence. -/
def powerOnSequence (cause : ResetCause) (s : State) : State :=
  takeLines (resetBlocks cause s.pending { s.lines with reset := false } (abandonWrite s.store))

/-- POWER_ON (R29; DESIGN CHOICE, log 7: taken in every state). -/
def execPowerOn (s : State) : Host.Outcome State Fault Refusal := .next (powerOnSequence .powerOn s)

/-- RESTART_POWER_ON_SEQUENCE (R185): it runs when an accepted RESTART's reply has been sent, or was dropped. -/
def execRestartPowerOnSequence (s : State) : Host.Outcome State Fault Refusal :=
  if s.restart = .due then .next (powerOnSequence .restart s) else .next s

end Sys2Proof.Machine
end

