-- ==== Sys2Proof/Machine/Reads.lean ====
section
/-! DEFINITION. The Management Unit's own requests and the reads (R177 to R185, R188, R189): UNKNOWN_REQUEST,
READ_TABLE, WRITE_TABLE, READ_STATUS, READ_ZONE, READ_CALLS, READ_EVENTS, RESTART and STATUS_TIMER_EXPIRY. -/

namespace Sys2Proof.Machine

/-! ### Requests refused as they are parsed -/

/-- UNKNOWN_REQUEST (R177 tests 1 to 3). -/
def execUnknownRequest (s : State) : Host.Outcome State Fault Refusal :=
  match headRequest s with
  | some (.refused tag code why) => .next (sendReply tag code (refuse why) (dropHead .consoleRx s))
  | some (.handed _) | none => .next s

/-! ### Tables -/

/-- R180: the most whole entries that fit in the 193 bytes left of a reply body. -/
def mostRead (id : TableId) : Nat := 193 / tableWidth id

/-- R180: the tables READ-TABLE reads. -/
def readSource (s : State) : Tables := if s.phase.phase = .maintenance then s.working else s.tables

/-- R180: READ-TABLE. -/
def readTableOwner (args : List Byte) (s : State) : State × Reply :=
  match tableOf (byteAt args 0) with
  | none => (s, refuse .badArgument)
  | some id =>
    let first := (byteAt args 1).toNat
    if tableEntries id ≤ first then (s, refuse .badArgument)
    else
      let n := min (min (byteAt args 2).toNat (tableEntries id - first)) (mostRead id)
      (s, doneWith ([byteAt args 0, byteAt args 1, byteOf n] ++ tableBytes (readSource s) id first n))

/-- READ_TABLE (R180). -/
def execReadTable (s : State) : Host.Outcome State Fault Refusal := .next (handle 1 readTableOwner s)

/-- R181: WRITE-TABLE. -/
def writeTableOwner (args : List Byte) (s : State) : State × Reply :=
  if args.length < 2 then (s, refuse .badFormat)
  else match tableOf (byteAt args 0) with
    | none => (s, refuse .badArgument)
    | some id =>
      let bytes := args.drop 2
      let n := bytes.length / tableWidth id
      let first := (byteAt args 1).toNat
      if bytes.isEmpty || bytes.length % tableWidth id != 0 then (s, refuse .badFormat)
      else if s.phase.phase != .maintenance then (s, refuse .wrongPhase)
      else if tableEntries id < first + n then (s, refuse .badArgument)
      else (s.withWorking (putEntries id first n bytes s.working),
        doneWith [byteAt args 0, byteAt args 1, byteOf n])

/-- WRITE_TABLE (R181). -/
def execWriteTable (s : State) : Host.Outcome State Fault Refusal := .next (handle 2 writeTableOwner s)

/-! ### Status -/

/-- The number of RUNNING calls (R143). -/
def runningCalls (s : State) : Nat :=
  s.calls.table.toList.countP fun c => match c with
    | some c => c.running
    | none => false

/-- The sequence number of the newest record held (R189). -/
def newestSeq (s : State) : Word32 :=
  match s.log.ring.getLast? with
  | some r => r.seq
  | none => 0

/-- The seven queues in queue-number order (R168). -/
def allQueues : List QueueId := [.consoleRx, .rackPass, .rackExpress, .rackRx, .consoleTx, .panelRx, .panelTx]

/-- The STATUS body (R165, R189). -/
def statusBody (s : State) : List Byte :=
  [s.phase.phase.code, s.effects.stage.code, boolByte s.phase.staff, s.curtain.state.code]
    ++ nat16 s.curtain.position
    ++ [boolByte s.curtain.referenced, s.stream.freshness.code, s.monitor.link.code, byteOf (runningCalls s),
      byteOf s.calls.pendingList.length, byteOf (openWindows s.monitor.zones)]
    ++ allQueues.flatMap (fun q => nat16 (freeBytes s.tables s.links q))
    ++ [boolByte s.store.writing.isSome]
    ++ bytes32 (newestSeq s)

/-- R189: the periodic STATUS frame. -/
def periodicStatus (s : State) : State :=
  offer .consoleTx (mkFrame kindStatus s.tables.link.station (statusBody s))
    (s.withLog { s.log with statusTimer := afterMs s 1000 })

/-- STATUS_TIMER_EXPIRY (R189). -/
def execStatusTimerExpiry (s : State) : Host.Outcome State Fault Refusal := .next (periodicStatus s)

/-- A field of the test record; 0xFFFF where it holds NONE (R184). -/
def testField (o : Option Nat) : List Byte := nat16 (o.getD 65535)

/-- R184: the 14 bytes of the curtain test record. -/
def testBytes (c : Curtain) : List Byte :=
  let t := c.test
  (match t.status with
    | .empty => [0, 255]
    | .running => [1, 255]
    | .closed pass => [2, if pass then 0 else 1])
    ++ testField t.firstMove ++ testField t.highMain ++ testField t.lowMain ++ testField t.highSlow
    ++ testField t.total
    ++ (match t.status with
      | .empty => bytes16 0
      | .running => bytes16 c.faults
      | .closed _ => bytes16 t.faults)

/-- R184: READ-STATUS. -/
def readStatusOwner (_ : List Byte) (s : State) : State × Reply := (s, doneWith (statusBody s ++ testBytes s.curtain))

/-- READ_STATUS (R184). -/
def execReadStatus (s : State) : Host.Outcome State Fault Refusal := .next (handle 18 readStatusOwner s)

/-! ### Zones and calls -/

/-- The condition code of a device map entry (R182). -/
def conditionCode : Condition → Byte
  | .pre => 0
  | .fire masked => if masked then 4 else 1
  | .manual => 2
  | .fault => 3

/-- R182: the two starter places, lower first, 255 for an empty place. -/
def starterBytes : List Byte → List Byte
  | [] => [255, 255]
  | [a] => [a, 255]
  | a :: b :: _ => if a.toNat ≤ b.toNat then [a, b] else [b, a]

/-- R182: a zone's record. -/
def zoneBytes (s : State) (z : ZoneId) : List Byte :=
  let r := zoneAt s z
  [zoneByte z, r.state.code, boolByte r.acked, r.knock.getD 255] ++ starterBytes r.starters
    ++ [byteOf (secondsLeft s.now r.ackTimer)] ++ nat16 (secondsLeft s.now r.invTimer)
    ++ [boolByte r.window.isSome] ++ nat16 (secondsLeft s.now r.window)
    ++ [boolByte r.faulty, byteOf r.devices.length]
    ++ r.devices.flatMap fun d => [d.number, conditionCode d.condition]

/-- R182: READ-ZONE. -/
def readZoneOwner (args : List Byte) (s : State) : State × Reply :=
  match zoneIdOf (byteAt args 0) with
  | none => (s, refuse .badArgument)
  | some z => (s, doneWith (zoneBytes s z))

/-- READ_ZONE (R182). -/
def execReadZone (s : State) : Host.Outcome State Fault Refusal := .next (handle 19 readZoneOwner s)

/-- R183: the 13 bytes of one call entry. -/
def callBytes (now : Nat) : Option Call → List Byte
  | none => List.replicate 13 0
  | some c =>
    [if c.running then 2 else 1, byteOf c.number, byteOf c.program.val, byteOf c.priority, c.origin.code, byteOf c.cursor]
      ++ bytes24 c.requested ++ bytes24 c.held ++ [byteOf (secondsLeft now c.deadline)]

/-- The call numbers of the pending list, in list order. -/
def pendingNumbers (cs : CallState) : List Byte :=
  cs.pendingList.map fun e => match cs.table[e] with
    | some c => byteOf c.number
    | none => 0

/-- R183: the call table, the pending list and the interval clock. -/
def callsBytes (s : State) : List Byte :=
  s.calls.table.toList.flatMap (callBytes s.now)
    ++ [byteOf s.calls.pendingList.length] ++ (pendingNumbers s.calls ++ List.replicate 8 0).take 8
    ++ [boolByte s.calls.clock.isSome] ++ nat16 s.calls.remaining ++ s.calls.progress.toList.map Progress.code

/-- R183: READ-CALLS. -/
def readCallsOwner (_ : List Byte) (s : State) : State × Reply := (s, doneWith (callsBytes s))

/-- READ_CALLS (R183). -/
def execReadCalls (s : State) : Host.Outcome State Fault Refusal := .next (handle 20 readCallsOwner s)

/-! ### Events -/

/-- R188: the distance of a number back from the newest record, counted around the wrap from 4294967295 to 1
(log 23). -/
def backFrom (newest from_ : Word32) : Nat := (newest.toNat + 4294967295 - from_.toNat) % 4294967295

/-- R188: the GAP flag, and the records held from a starting number on. -/
def eventsFrom (g : LogState) (newest from_ : Word32) : Bool × List EventRecord :=
  let held := g.ring.length
  let d := backFrom newest from_
  if from_ = 0 then (g.removed, g.ring)
  else if d < held then (false, g.ring.drop (held - 1 - d))
  else if d ≤ 2147483647 then (g.removed, g.ring)
  else (false, [])

/-- The sequence number of the oldest record held. -/
def oldestSeq (s : State) : Word32 :=
  match s.log.ring.head? with
  | some r => r.seq
  | none => 0

/-- R188: READ-EVENTS. -/
def readEventsOwner (args : List Byte) (s : State) : State × Reply :=
  let found := eventsFrom s.log (newestSeq s) (word32 (byteAt args 0) (byteAt args 1) (byteAt args 2) (byteAt args 3))
  let records := found.2.take (min 8 (byteAt args 4).toNat)
  (s, doneWith ([boolByte found.1] ++ bytes32 (oldestSeq s) ++ [byteOf records.length]
    ++ records.flatMap recordBytes))

/-- READ_EVENTS (R188). -/
def execReadEvents (s : State) : Host.Outcome State Fault Refusal := .next (handle 21 readEventsOwner s)

/-! ### Restart -/

/-- R185: the tests of RESTART. -/
def restartTests (s : State) : Option Reason :=
  if !(s.phase.phase = .maintenance || s.phase.phase = .dark) then some .wrongPhase
  else if !(s.curtain.state = .resting || s.curtain.state = .unknown) then some .curtainState
  else if s.store.writing.isSome then some .busy
  else none

/-- R185: how long the power-on sequence waits: until the reply, the last frame of CONSOLE-TX, has been sent, or not at
all where the reply is dropped (DESIGN CHOICE, log 13). -/
def restartWait (filed : Bool) (s : State) : RestartState :=
  if filed then .waiting s.links.queues[QueueId.consoleTx.ix].frames.length else .due

/-- R185: an accepted RESTART. -/
def acceptRestart (tag code : Byte) (s : State) : State :=
  let s1 := sendReply tag code done s
  s1.withRestart (restartWait (accepts .consoleTx (replyFrame s tag code done) s) s1)

/-- R185: RESTART. -/
def restartRequest (r : Request) (s : State) : State :=
  match restartTests s with
  | some why => sendReply r.tag r.code (refuse why) s
  | none => acceptRestart r.tag r.code s

/-- RESTART (R185). -/
def execRestart (s : State) : Host.Outcome State Fault Refusal :=
  match requestOf s 22 with
  | some r => .next (restartRequest r (dropHead .consoleRx s))
  | none => .next s

end Sys2Proof.Machine
end

