-- ==== Sys2Proof/Machine/Stream.lean ====
section
/-! DEFINITION. The level stream (R52 to R62): console freshness with its two timers, and taking a console LEVELS frame:
TAKE_LEVELS, CONSOLE_TIMER_EXPIRY and HOLD_TIMER_EXPIRY. -/

namespace Sys2Proof.Machine

/-- A change of freshness with its CONSOLE-STATE record (R54 to R56). -/
def setFreshness (f : Freshness) (s : State) : State :=
  let old := s.stream.freshness
  writeRecord .consoleState 0 old.code f.code (s.withStream { s.stream with freshness := f })

/-- R54: a well-formed frame starts the console timer afresh and makes the stream FRESH. -/
def refreshConsole (s : State) : State :=
  let s1 := s.withStream { s.stream with
    consoleTimer := afterMs s s.tables.stream.timeout.toNat
    holdTimer := none }
  if s.stream.freshness = .fresh then s1 else setFreshness .fresh s1

/-- R59: well-formed, for a body whose universe is 0–3. -/
def wellFormedLevels (body : List Byte) : Bool :=
  let count := (byteAt body 2).toNat
  decide (3 ≤ body.length) && decide (1 ≤ count) && decide (count ≤ 64) &&
    decide ((byteAt body 1).toNat + count ≤ 256) && decide (body.length = 3 + count)

/-- The malformed-report latch of a universe byte 0–3; latch 4 is that of frames naming none (R52). -/
def latchOf (body : List Byte) : Fin 5 :=
  if body.isEmpty then 4 else
    match (byteAt body 0).toNat with
    | 0 => 0 | 1 => 1 | 2 => 2 | 3 => 3
    | _ => 4

/-- R59: a malformed frame is discarded, with a FRAME-MALFORMED record if its latch is open. -/
def malformedLevels (body : List Byte) (s : State) : State :=
  if s.stream.malformed[latchOf body] then s
  else
    writeRecord .frameMalformed 0 (if body.isEmpty then 0xFF else byteAt body 0) (byteSat body.length)
      (s.withStream { s.stream with malformed := putAt s.stream.malformed (latchOf body) true })

/-- R60 steps 1 and 3: one slot takes the frame's level. -/
def takeLevel (stageSafe : Bool) (x : Slot) (level : Byte) : Slot :=
  let change : Bool := match x.cls with
    | .guard _ => !stageSafe && x.shadow != level
    | .pass | .house _ => false
  { x with shadow := level, seen := true, dirty := x.dirty || change }

/-- R60 step 2: a HOUSE slot's level becomes the channel's request (R33). -/
def takeRequest (v : Vector Channel 96) (p : Slot × Byte) : Vector Channel 96 :=
  match p.1.cls with
  | .house h => modAt v h fun c => { c with request := p.2, seen := true }
  | .pass | .guard _ => v

/-- R60: the run of levels taken into the shadow, the marks and the console requests. -/
def takeRun (at_ : Nat) (levels : List Byte) (s : State) : State :=
  let run := (s.stream.slots.toList.drop at_).take levels.length
  let s1 := withSlots s (zipRangeVec (takeLevel s.effects.set.stageSafe) at_ levels s.stream.slots)
  s1.withLevels { s.levels with channels := (run.zip levels).foldl takeRequest s.levels.channels }

/-- R61: the frame with its house and guard slots written over and its check recomputed. -/
def rewritten (f : Frame) (at_ count : Nat) (s : State) : Frame :=
  let run := (s.stream.slots.toList.drop at_).take count
  mkFrame (frameKind f) (frameStation f)
    (levelsBody (byteAt (frameBody f) 0) (byteAt (frameBody f) 1) (run.map (carriedLevel s)))

/-- R62: the rewritten frame is offered to RACK-PASS, and the outcome decides the marks of its run. -/
def passRewritten (f : Frame) (at_ count : Nat) (s : State) : State :=
  match tryFile s.tables s.now .rackPass f s.links with
  | some l => withSlots (s.withLinks l) (mapRangeVec clearHeld at_ count s.stream.slots)
  | none => overflowed .rackPass f (withSlots s (mapRangeVec markHeld at_ count s.stream.slots))

/-- R54, R59 to R62: a well-formed frame for a universe 0–3 is taken. -/
def takeWellFormed (f : Frame) (s : State) : State :=
  let body := frameBody f
  let levels := body.drop 3
  let first := slotIndex (byteAt body 0) (byteAt body 1)
  let open_ := putAt (putAt s.stream.malformed (latchOf body) false) 4 false
  let s1 := refreshConsole (s.withStream { s.stream with malformed := open_ })
  let s2 := takeRun first levels s1
  passRewritten (rewritten f first levels.length s2) first levels.length s2

/-- R58: a LEVELS frame taken is sorted as malformed, foreign or well-formed. -/
def takeLevelsFrame (f : Frame) (s : State) : State :=
  let body := frameBody f
  if body.isEmpty then malformedLevels body s
  else if 3 < (byteAt body 0).toNat then offer .rackPass f s
  else if wellFormedLevels body then takeWellFormed f s
  else malformedLevels body s

/-- TAKE_LEVELS (R58, R172 case 1). -/
def execTakeLevels (s : State) : Host.Outcome State Fault Refusal :=
  match consoleHead s with
  | some f => if frameKind f = kindLevels then .next (takeLevelsFrame f (dropHead .consoleRx s)) else .next s
  | none => .next s

/-- R55: the console timer runs out (DESIGN CHOICE, log 4: whatever the freshness). -/
def consoleTimerOut (s : State) : State :=
  let s1 := s.withStream { s.stream with consoleTimer := none }
  if s.tables.stream.hold = 0 then setFreshness .lost s1
  else setFreshness .held (s1.withStream { s1.stream with holdTimer := afterS s s.tables.stream.hold.toNat })

/-- CONSOLE_TIMER_EXPIRY (R55). -/
def execConsoleTimerExpiry (s : State) : Host.Outcome State Fault Refusal :=
  if s.stream.consoleTimer.isSome then .next (consoleTimerOut s) else .next s

/-- R56: the hold timer runs out. -/
def holdTimerOut (s : State) : State := setFreshness .lost (s.withStream { s.stream with holdTimer := none })

/-- HOLD_TIMER_EXPIRY (R56). -/
def execHoldTimerExpiry (s : State) : Host.Outcome State Fault Refusal :=
  if s.stream.holdTimer.isSome then .next (holdTimerOut s) else .next s

end Sys2Proof.Machine
end

