-- ==== Sys2Proof/Machine/Dispatch.lean ====
section
/-! DEFINITION. The meaning of every command: one arm per constructor, each one call of the command's meaning. -/

namespace Sys2Proof.Machine

def exec (i : Instr) (s : State) : Host.Outcome State Fault Refusal :=
  match i with
  | .resetAsserted => Sys2Proof.Machine.execResetAsserted s
  | .powerOn => Sys2Proof.Machine.execPowerOn s
  | .restartPowerOnSequence => Sys2Proof.Machine.execRestartPowerOnSequence s
  | .encoderTransition a b => Sys2Proof.Machine.execEncoderTransition a b s
  | .captureTimerWrap => Sys2Proof.Machine.execCaptureTimerWrap s
  | .limitInAsserted => Sys2Proof.Machine.execLimitInAsserted s
  | .limitOutAsserted => Sys2Proof.Machine.execLimitOutAsserted s
  | .limitReleased limit => Sys2Proof.Machine.execLimitReleased limit s
  | .slowSwAsserted => Sys2Proof.Machine.execSlowSwAsserted s
  | .stageReleaseAsserted => Sys2Proof.Machine.execStageReleaseAsserted s
  | .panelFireAsserted => Sys2Proof.Machine.execPanelFireAsserted s
  | .frameArrival port bytes => Sys2Proof.Machine.execFrameArrival port bytes s
  | .takeLevels => Sys2Proof.Machine.execTakeLevels s
  | .takeConsolePass => Sys2Proof.Machine.execTakeConsolePass s
  | .takeCallDone => Sys2Proof.Machine.execTakeCallDone s
  | .takeRackReturn => Sys2Proof.Machine.execTakeRackReturn s
  | .takeZoneReport => Sys2Proof.Machine.execTakeZoneReport s
  | .takePanelBeat => Sys2Proof.Machine.execTakePanelBeat s
  | .takePanelOther => Sys2Proof.Machine.execTakePanelOther s
  | .unknownRequest => Sys2Proof.Machine.execUnknownRequest s
  | .readTable => Sys2Proof.Machine.execReadTable s
  | .writeTable => Sys2Proof.Machine.execWriteTable s
  | .setPhase => Sys2Proof.Machine.execSetPhase s
  | .staffPresent => Sys2Proof.Machine.execStaffPresent s
  | .setMaster => Sys2Proof.Machine.execSetMaster s
  | .startCall => Sys2Proof.Machine.execStartCall s
  | .cancelCall => Sys2Proof.Machine.execCancelCall s
  | .extendInterval => Sys2Proof.Machine.execExtendInterval s
  | .alarmAck => Sys2Proof.Machine.execAlarmAck s
  | .alarmConfirm => Sys2Proof.Machine.execAlarmConfirm s
  | .alarmCancel => Sys2Proof.Machine.execAlarmCancel s
  | .alarmReset => Sys2Proof.Machine.execAlarmReset s
  | .isolateZone => Sys2Proof.Machine.execIsolateZone s
  | .endIsolation => Sys2Proof.Machine.execEndIsolation s
  | .curtainRelease => Sys2Proof.Machine.execCurtainRelease s
  | .curtainRaise => Sys2Proof.Machine.execCurtainRaise s
  | .curtainTest => Sys2Proof.Machine.execCurtainTest s
  | .readStatus => Sys2Proof.Machine.execReadStatus s
  | .readZone => Sys2Proof.Machine.execReadZone s
  | .readCalls => Sys2Proof.Machine.execReadCalls s
  | .readEvents => Sys2Proof.Machine.execReadEvents s
  | .restart => Sys2Proof.Machine.execRestart s
  | .levelStep => Sys2Proof.Machine.execLevelStep s
  | .periodicRefresh => Sys2Proof.Machine.execPeriodicRefresh s
  | .consoleTimerExpiry => Sys2Proof.Machine.execConsoleTimerExpiry s
  | .holdTimerExpiry => Sys2Proof.Machine.execHoldTimerExpiry s
  | .heartbeatTimerExpiry => Sys2Proof.Machine.execHeartbeatTimerExpiry s
  | .noticeTimerExpiry => Sys2Proof.Machine.execNoticeTimerExpiry s
  | .statusTimerExpiry => Sys2Proof.Machine.execStatusTimerExpiry s
  | .startWindowExpiry => Sys2Proof.Machine.execStartWindowExpiry s
  | .stallTimerExpiry => Sys2Proof.Machine.execStallTimerExpiry s
  | .dropTimerExpiry => Sys2Proof.Machine.execDropTimerExpiry s
  | .raiseTimerExpiry => Sys2Proof.Machine.execRaiseTimerExpiry s
  | .ackTimerExpiry zone => Sys2Proof.Machine.execAckTimerExpiry zone s
  | .investigationTimerExpiry zone => Sys2Proof.Machine.execInvestigationTimerExpiry zone s
  | .isolationWindowExpiry zone => Sys2Proof.Machine.execIsolationWindowExpiry zone s
  | .chimeStepExpiry entry => Sys2Proof.Machine.execChimeStepExpiry entry s
  | .waitStepExpiry entry => Sys2Proof.Machine.execWaitStepExpiry entry s
  | .messageLimitExpiry entry => Sys2Proof.Machine.execMessageLimitExpiry entry s
  | .flashTimerExpiry entry => Sys2Proof.Machine.execFlashTimerExpiry entry s
  | .deadlineTimerExpiry entry => Sys2Proof.Machine.execDeadlineTimerExpiry entry s
  | .intervalClockTick => Sys2Proof.Machine.execIntervalClockTick s
  | .storeWriteEnd readBack => Sys2Proof.Machine.execStoreWriteEnd readBack s
  | .frameSent port => Sys2Proof.Machine.execFrameSent port s
  | .transmitterFree port => Sys2Proof.Machine.execTransmitterFree port s
  | .panelFireReleased => Sys2Proof.Machine.execPanelFireReleased s
  | .slowSwReleased => Sys2Proof.Machine.execSlowSwReleased s
  | .stageReleaseReleased => Sys2Proof.Machine.execStageReleaseReleased s

end Sys2Proof.Machine
end

