-- ==== Sys2Proof/Safety.lean ====
section
/-! DEFINITION. What counts as a safe state, in the terms the statements use: the laws the manual itself calls laws of
the part, and the vocabulary of frames. -/

namespace Sys2Proof.Machine

/-! ### Frames -/

/-- The sixteen parts of the state. -/
inductive Block where
  | pending | now | lines | store | working | tables | phase | stream | levels | curtain | monitor | effects | calls
  | links | log | restart
  deriving DecidableEq, Repr

/-- Two states agree on one part. -/
def sameBlock (s t : State) : Block → Prop
  | .pending => t.pending = s.pending
  | .now => t.now = s.now
  | .lines => t.lines = s.lines
  | .store => t.store = s.store
  | .working => t.working = s.working
  | .tables => t.tables = s.tables
  | .phase => t.phase = s.phase
  | .stream => t.stream = s.stream
  | .levels => t.levels = s.levels
  | .curtain => t.curtain = s.curtain
  | .monitor => t.monitor = s.monitor
  | .effects => t.effects = s.effects
  | .calls => t.calls = s.calls
  | .links => t.links = s.links
  | .log => t.log = s.log
  | .restart => t.restart = s.restart

/-- Every part but the named ones is unchanged. -/
def OnlyTouches (bs : List Block) (s t : State) : Prop := ∀ b, b ∉ bs → sameBlock s t b

/-- The parts an alarm's consequences can reach: the hand-over of R128 to R134 with everything it delivers. -/
def alarmReach : List Block := [.phase, .stream, .curtain, .monitor, .effects, .calls, .links, .log]

/-! ### Laws of the queues and the log -/

/-- R170: the occupied bytes of every queue never exceed its size. -/
def QueuesFit (s : State) : Prop := ∀ q : QueueId, occupied s.links.queues[q.ix] ≤ queueSize s.tables q

/-- Each record's number follows the one before it. -/
def Consecutive : List EventRecord → Prop
  | [] => True
  | [_] => True
  | a :: b :: rest => b.seq = nextSeq a.seq ∧ Consecutive (b :: rest)

/-- R186: at most 256 records with consecutive numbers, oldest first, the next number following the newest; 0 is never
given. -/
def LogLaw (g : LogState) : Prop :=
  g.ring.length ≤ 256 ∧ Consecutive g.ring ∧ (∀ r ∈ g.ring.getLast?, g.next = nextSeq r.seq)
    ∧ g.next ≠ 0 ∧ ∀ r ∈ g.ring, r.seq ≠ 0

/-! ### Laws of the curtain -/

/-- R72: HOLD-DRIVE is energised only in RAISING or OUT with no drop demand, and RAISE-PERMIT only in RAISING. -/
abbrev CurtainLaw (c : Curtain) : Prop :=
  (c.holdDrive = true → (c.state = .raising ∨ c.state = .out) ∧ c.demands.any = false)
    ∧ (c.raisePermit = true → c.state = .raising)

/-- R76: the position lies within 0–N. -/
abbrev PositionLaw (s : State) : Prop := s.curtain.position ≤ s.tables.curtain.travel.toNat

/-- R78, R132: ALARM is in the drop-demand set exactly while the effect set's curtain flag is set. -/
abbrev DemandLaw (s : State) : Prop := s.curtain.demands.alarm = s.effects.set.curtain

/-! ### Laws of the zones -/

/-- R102: a device map holds at most 16 entries, in strictly ascending device order. -/
abbrev MapLaw (z : Zone) : Prop :=
  z.devices.length ≤ 16 ∧ z.devices.Pairwise fun a b => a.number.toNat < b.number.toNat

/-- R118: at most four isolation windows are open; each belongs to a STAGE row with isolation allowed, and windows are
open only while the phase permits isolation and the stage is not EVACUATE. -/
def WindowsLaw (s : State) : Prop :=
  openWindows s.monitor.zones ≤ 4 ∧ ∀ z : ZoneId, (zoneAt s z).window.isSome = true →
    (rowOf s z).cls = 1 ∧ (rowOf s z).isolation = 1 ∧ permitsIsolation s.phase.phase = true
      ∧ s.effects.stage ≠ .evacuate

/-- R113: at most one zone is INVESTIGATING. -/
abbrev OneInvestigates (s : State) : Prop :=
  ∀ y z : ZoneId, (zoneAt s y).state = .investigating → (zoneAt s z).state = .investigating → y = z

/-- R128, R129: the effect set is the union of the rows of the zones in ALARM, and the stage is that of the zones and
the panel link. -/
abbrev AlarmLaw (s : State) : Prop :=
  s.effects.set = effectSetOf s.tables.response s.monitor.zones
    ∧ s.effects.stage = stageOf s.monitor.zones s.monitor.link

/-- R113: a zone is INVESTIGATING only while the phase permits delay, staff presence is on and the panel link is UP. The
law's clause about the stage concerns the entry alone. -/
abbrev InvestigationLaw (s : State) : Prop :=
  (∃ z : ZoneId, (zoneAt s z).state = .investigating) →
    permitsDelay s.phase.phase = true ∧ s.phase.staff = true ∧ s.monitor.link = .up

/-! ### Laws of the tables and the calls -/

/-- R5, R25, R29: the tables in force pass validation. -/
abbrev TablesLaw (s : State) : Prop := validate s.tables = none

/-- R142, R146: a PENDING call is an ordinary call and holds no area, and an area is held by at most one call. -/
def HolderLaw (cs : CallState) : Prop :=
  (∀ (e : EntryId) (c : Call), cs.table[e] = some c → c.running = false → c.held = 0 ∧ 2 ≤ e.val)
    ∧ ∀ (d e : EntryId) (x y : Call) (a : AreaId), cs.table[d] = some x → cs.table[e] = some y →
      hasArea x.held a = true → hasArea y.held a = true → d = e

/-- R146, R149: the pending list holds the entries of the PENDING calls and no other. -/
def PendingLaw (cs : CallState) : Prop :=
  ∀ e : EntryId, e ∈ cs.pendingList ↔ ∃ c, cs.table[e] = some c ∧ c.running = false

/-- R139, R142, R146: entries 0 and 1 hold calls of priority 0 or 1 and the others calls of priority 2 or 3; the pending
list is in order of priority; and no PENDING call requests an area held by a call of lower priority than its own. -/
def WaitingLaw (s : State) : Prop :=
  (∀ (e : EntryId) (c : Call), callAt s e = some c → (e.val < 2 ↔ c.priority < 2))
    ∧ s.calls.pendingList.Pairwise (fun d e => priorityAt s d ≤ priorityAt s e)
    ∧ ∀ (d e : EntryId) (x y : Call) (a : AreaId), callAt s d = some x → callAt s e = some y → x.running = false →
      hasArea x.requested a = true → hasArea y.held a = true → y.priority ≤ x.priority

/-- R157: while the stage is EVACUATE or the phase permits no calls, no ordinary call is running or pending. -/
abbrev SuppressionLaw (s : State) : Prop :=
  (s.effects.stage = .evacuate ∨ permitsCalls s.phase.phase = false) → ∀ e : EntryId, 2 ≤ e.val → callAt s e = none

/-- A call of a program runs in an entry on a set of areas, all of them held, at its first step. -/
def RunsOn (t : State) (e : EntryId) (p : ProgramId) (o : Origin) (areas : AreaSet) : Prop :=
  ∃ c, callAt t e = some c ∧ c.program = p ∧ c.origin = o ∧ c.running = true ∧ c.requested = areas ∧ c.held = areas
    ∧ c.cursor = 0

/-- The STOP command for a unit (R151, R165). -/
abbrev stopFrame (unit : Byte) : Frame := mkFrame 0x40 unit [3, 0, 0]

/-! ### Taking from the queues -/

/-- A request of a code stands at the head of CONSOLE-RX, handed to its owner with these arguments and this tag (R177). -/
abbrev Requested (s : State) (code tag : Byte) (args : List Byte) : Prop := requestOf s code = some ⟨tag, code, args⟩

/-- A frame stands at the head of a queue, with some frames behind it. -/
abbrev AtHead (s : State) (q : QueueId) (f : Frame) (rest : List Frame) : Prop := s.links.queues[q.ix].frames
  = f :: rest

/-- A ZONE-REPORT stands at the head of PANEL-RX, of a panel zone whose row is in use, of a kind and from a device
(R104). -/
def ReportAt (s : State) (z : ZoneId) (k : ReportKind) (n : Byte) : Prop :=
  (∃ (f : Frame) (rest : List Frame), AtHead s .panelRx f rest ∧ frameKind f = 0x30
    ∧ frameBody f = [zoneByte z, k.code, n])
    ∧ z.val < 64 ∧ (rowOf s z).cls ≠ 0 ∧ n ≠ 255

/-- A zone's map after a report's entry is set, or as it was where the report is an overflow report (R105). -/
def mapAfter (r : Zone) (n : Byte) (c : Condition) : List Device :=
  if deviceIn r.devices n = none ∧ 16 ≤ r.devices.length then r.devices else setDevice n c r.devices

/-- The five conditions of the confirm decision (R110). -/
abbrev DelayGranted (s : State) (z : ZoneId) : Prop :=
  permitsDelay s.phase.phase = true ∧ s.phase.staff = true ∧ (rowOf s z).delay = 1 ∧ s.monitor.link = .up
    ∧ s.effects.stage ≠ .evacuate

/-- What the confirm decision makes of a zone whose record is `r` but for the report's entry (R110, R113): INVESTIGATING
with its starters and timers where the delay is granted and no other zone investigates, and ALARM otherwise, with the
other investigating zone where there is one; its map holds the report's FIRE entry where there is room. -/
def ConfirmedAs (s t : State) (z : ZoneId) (r : Zone) (n : Byte) (starters : List Byte) : Prop :=
  let map := mapAfter r n (.fire false)
  let alarmed := (zoneAt t z).state = .alarm ∧ (zoneAt t z).knock = none ∧ (zoneAt t z).devices = map
  (DelayGranted s z → (∀ y : ZoneId, (zoneAt s y).state ≠ .investigating) → zoneAt t z = { r with
      state := .investigating, knock := none, starters := starters, acked := false, devices := map
      ackTimer := some (s.now + (rowOf s z).ackWindow.toNat * 100000)
      invTimer := some (s.now + (rowOf s z).invTime.toNat * 100000) })
    ∧ (DelayGranted s z → ∀ y : ZoneId, (zoneAt s y).state = .investigating →
        alarmed ∧ (zoneAt t y).state = .alarm)
    ∧ (¬DelayGranted s z → alarmed)

/-- R46: every guard in use whose safe level differs from its slot's shadow is marked, and the stream is otherwise as it
was. -/
def GuardsMarked (s t : State) : Prop :=
  t.stream = { s.stream with slots := t.stream.slots } ∧ ∀ i : Fin 1024,
    let x := s.stream.slots[i]
    let changes := ∃ g : Fin 32, let e := s.tables.guards[g]
      e.inUse = 1 ∧ 256 * e.univ.toNat + e.slot.toNat = i.val ∧ e.safe ≠ x.shadow
    t.stream.slots[i] = { x with dirty := t.stream.slots[i].dirty }
      ∧ (t.stream.slots[i].dirty = true ↔ x.dirty = true ∨ changes)

/-- The universes, of those listed, whose refresh frames find room one after the other in so many free bytes (R65,
R170). -/
def filedUniverses (frameOf : Nat → Option Frame) : Nat → List Nat → List Nat
  | _, [] => []
  | free, u :: rest =>
    match frameOf u with
    | none => filedUniverses frameOf free rest
    | some f =>
      if f.length + 4 ≤ free then u :: filedUniverses frameOf (free - (f.length + 4)) rest
      else filedUniverses frameOf free rest

/-- Whether the slot at an index of a universe is marked (R63). -/
def slotMarked (slots : List Slot) (i : Nat) : Bool :=
  match slots[i]? with
  | some x => x.dirty
  | none => false

/-- The rows of the transition table of 1.3, and the guards of R5, R6, R8 and R12, as a request meets them. -/
def transitionRows : List (Phase × Phase) :=
  [(.maintenance, .dark), (.dark, .maintenance), (.dark, .rehearsal), (.rehearsal, .dark), (.dark, .houseOpen),
    (.houseOpen, .performance), (.houseOpen, .clearing), (.performance, .interval), (.performance, .clearing),
    (.interval, .performance), (.interval, .clearing), (.clearing, .dark), (.recovery, .dark), (.recovery, .houseOpen),
    (.recovery, .performance), (.recovery, .interval), (.recovery, .clearing)]

/-- The STATUS body, field by field (R165, R189). -/
def statusFields (s : State) : List Byte :=
  [s.phase.phase.code, s.effects.stage.code, if s.phase.staff then 1 else 0, s.curtain.state.code,
    byteOf (s.curtain.position / 256), byteOf s.curtain.position, if s.curtain.referenced then 1 else 0,
    s.stream.freshness.code, s.monitor.link.code,
    byteOf (s.calls.table.toList.countP fun c => match c with | some c => c.running | none => false),
    byteOf s.calls.pendingList.length, byteOf (openWindows s.monitor.zones)]
    ++ ([.consoleRx, .rackPass, .rackExpress, .rackRx, .consoleTx, .panelRx, .panelTx] : List QueueId).flatMap
      (fun q => [byteOf (freeBytes s.tables s.links q / 256), byteOf (freeBytes s.tables s.links q)])
    ++ [if s.store.writing.isSome then 1 else 0]
    ++ (match s.log.ring.getLast? with
      | some r => bytes32 r.seq
      | none => [0, 0, 0, 0])

/-- The state after a request is taken, acted on as `t` says, the act ended and the reply sent. -/
def replied (tag code : Byte) (r : Reply) (t : State) : State := sendReply tag code r (endAct t)

/-- A command answers a next state that has a property. -/
def Answers (c : Instr) (s : State) (P : State → Prop) : Prop := ∃ t, exec c s = .next t ∧ P t

/-- A request is refused with a reason and changes nothing: it is taken and the refusal is sent. -/
def RefusedWith (c : Instr) (s : State) (code tag : Byte) (why : Reason) : Prop :=
  exec c s = .next (replied tag code (refuse why) (dropHead .consoleRx s))

/-- A request is answered DONE with some data, its owner having left the state `t`. -/
def DoneWith (c : Instr) (s : State) (code tag : Byte) (data : List Byte) (t : State) : Prop :=
  exec c s = .next (replied tag code (doneWith data) t)

end Sys2Proof.Machine
end

