-- ==== Sys2Proof/Certificates/Slice0/Obligations.lean ====
section
/-! DEFINITION. The statements for the provers. Each docstring names the rule it formalises; a statement that rests on a
choice of the model says so and names the assumption log. -/

open Sys2Proof Sys2Proof.Machine

/-! ### Steps -/

/-- A step runs exec on the command at the front of the queue, on the state with the queue's rest. The queue of commands
is the model's own (log 26). -/
def Obligations.StepRunsFront : Prop :=
  ∀ (c : Instr) (rest : List Instr) (s : State), s.pending = c :: rest → step s = exec c (s.withPending rest)

/-- No command stops the part, and none touches the commands waiting behind it. The model's own marks, of a notice due
(R137) and of an area freed (R148), are clear after a command that found them clear. That a command with nothing to act
on leaves the state as it is is the model's choice (log 3); the marks are its own (log 14). -/
def Obligations.EveryCommandRuns : Prop :=
  ∀ (c : Instr) (s : State), ∃ t, exec c s = .next t ∧ t.pending = s.pending
    ∧ (s.effects.noticeDue = false → s.calls.freed = false → t.effects.noticeDue = false ∧ t.calls.freed = false)

/-- R22, R25, R28, R29, R181, R4, R14: each piece of state with one owner changes by that owner's commands alone: the
tables in force, the working copy, the store, the masters, the phase and staff presence; and HOLD-DRIVE and RAISE-PERMIT
are energised in one act alone, the acceptance of CURTAIN-RAISE (R72). -/
def Obligations.OwnersAlone : Prop :=
  ∀ (c : Instr) (s t : State), exec c s = .next t →
    (t.tables ≠ s.tables → c = .setPhase ∨ c = .powerOn ∨ c = .restartPowerOnSequence)
      ∧ (t.working ≠ s.working → c = .setPhase ∨ c = .writeTable ∨ c = .powerOn ∨ c = .restartPowerOnSequence)
      ∧ (t.store ≠ s.store → c = .setPhase ∨ c = .resetAsserted ∨ c = .powerOn ∨ c = .restartPowerOnSequence
          ∨ ∃ back, c = .storeWriteEnd back)
      ∧ (t.levels.masters ≠ s.levels.masters →
          c = .setMaster ∨ c = .setPhase ∨ c = .powerOn ∨ c = .restartPowerOnSequence)
      ∧ (t.phase.phase ≠ s.phase.phase → c = .setPhase ∨ c = .powerOn ∨ c = .restartPowerOnSequence)
      ∧ (t.phase.staff ≠ s.phase.staff →
          c = .setPhase ∨ c = .staffPresent ∨ c = .powerOn ∨ c = .restartPowerOnSequence)
      ∧ (s.curtain.holdDrive = false → t.curtain.holdDrive = true → c = .curtainRaise)
      ∧ (s.curtain.raisePermit = false → t.curtain.raisePermit = true → c = .curtainRaise)

/-! ### Reset and the store -/

/-- R3, R21, R29, R49, R52, R67, R71, R102, R122, R126, R142, R169, R175, R186: what the power-on sequence leaves in every
part of the state where no input line of the governor or the panel is asserted, for a good image and for a bad one,
after the RESET line and after a RESTART. That POWER_ON is taken in every state, a store write that still stands being
abandoned, is the model's choice (log 7). -/
def Obligations.PowerOnValues : Prop :=
  ∀ s : State, s.lines.limitIn = false → s.lines.limitOut = false → s.lines.slowSw = false →
    s.lines.stageRelease = false → s.lines.panelFire = false →
    ∀ c ∈ [(Instr.powerOn, (0 : Byte)), (Instr.restartPowerOnSequence, (1 : Byte))],
      (c.1 = .restartPowerOnSequence → s.restart = .due) →
      Answers c.1 s fun t =>
        let loaded := imageGood (abandonWrite s.store).image
        let r : EventRecord := ⟨1, 0, .reset, 0, c.2, if loaded then 0 else 1⟩
        t.pending = s.pending ∧ t.now = 0 ∧ t.lines = { s.lines with reset := false } ∧ t.store = abandonWrite s.store
          ∧ t.tables = (if loaded then (abandonWrite s.store).image.tables else defaultTables) ∧ t.working = t.tables
          ∧ t.phase = ⟨if loaded then .recovery else .maintenance, false, false⟩
          ∧ t.stream.freshness = .lost ∧ t.stream.consoleTimer = none ∧ t.stream.holdTimer = none
          ∧ t.stream.refreshTimer = some 100000 ∧ t.stream.malformed = Vector.replicate 5 false
          ∧ (∀ i : Fin 1024, let x := t.stream.slots[i]
              x.shadow = 0 ∧ x.seen = false ∧ x.dirty = decide (x.cls ≠ .pass)
                ∧ (∀ h : ChannelId, x.cls = .house h → t.tables.channels[h].inUse = 1
                  ∧ 256 * t.tables.channels[h].univ.toNat + t.tables.channels[h].slot.toNat = i.val)
                ∧ (∀ g : Fin 32, x.cls = .guard g → t.tables.guards[g].inUse = 1
                  ∧ 256 * t.tables.guards[g].univ.toNat + t.tables.guards[g].slot.toNat = i.val)
                ∧ (x.cls = .pass → (∀ h : ChannelId, t.tables.channels[h].inUse = 1 →
                    256 * t.tables.channels[h].univ.toNat + t.tables.channels[h].slot.toNat ≠ i.val)
                  ∧ ∀ g : Fin 32, t.tables.guards[g].inUse = 1 →
                    256 * t.tables.guards[g].univ.toNat + t.tables.guards[g].slot.toNat ≠ i.val))
          ∧ (∀ h : ChannelId, let e := t.tables.channels[h]
              let base := if loaded then max e.loss.toNat e.floor.toNat else e.loss.toNat
              t.levels.channels[h] = ⟨0, false, if e.inUse = 1 then byteOf (min e.ceiling.toNat base) else 0⟩)
          ∧ t.levels.stepTimer = some 2500 ∧ (∀ a : AreaId, t.levels.masters[a] = t.tables.areas[a].master)
          ∧ t.curtain = ⟨.unknown, false, false, 0, false, ⟨false, false, false, false, false, false, true⟩, 0, 0,
              ⟨0, none, 0⟩, none, some (t.tables.curtain.startWindow.toNat * 100), none,
              some (t.tables.curtain.maxDrop.toNat * 100000), none, ⟨.empty, 0, none, none, none, none, none, 0⟩⟩
          ∧ t.monitor = ⟨Vector.replicate 66 ⟨.quiet, [], none, [], false, none, none, none⟩, .awaiting,
              some (t.tables.link.heartbeat.toNat * 100000)⟩
          ∧ t.effects = ⟨⟨false, 0, 0, false⟩, .normal, some 100000, false⟩
          ∧ t.calls = ⟨Vector.replicate 10 none, [], Vector.replicate 24 .inactive, 1, none, 0,
              Vector.replicate 6 .discarded, false⟩
          ∧ t.log = ⟨[r], 2, false, some 100000⟩
          ∧ (∀ q : QueueId, t.links.queues[q.ix] =
              ⟨if q = .consoleTx ∧ 21 ≤ queueSize t.tables .consoleTx then [eventFrame t.tables r] else [], false⟩)
          ∧ t.links.tx[Port.console.ix] =
              (if 21 ≤ queueSize t.tables .consoleTx then .sending .consoleTx 17 else .free)
          ∧ t.links.tx[Port.rack.ix] = .free ∧ t.links.tx[Port.panel.ix] = .free
          ∧ t.links.badLatch = Vector.replicate 3 false ∧ t.restart = .idle

/-- R123, R138: a PANEL-FIRE contact closed through a reset brings zone 65 to ALARM as the tables take force, and the stage
to EVACUATE, with one notice. That POWER_ON is taken in every state is the model's choice (log 7). -/
def Sys2Proof.Parts.PanelFireThroughReset : Prop :=
  ∀ s : State, s.lines.limitIn = false → s.lines.limitOut = false → s.lines.slowSw = false →
    s.lines.stageRelease = false → s.lines.panelFire = true →
    Answers .powerOn s fun t => (zoneAt t 65).state = .alarm ∧ t.effects.stage = .evacuate
      ∧ (∀ z : ZoneId, z ≠ 65 → zoneAt t z = freshZone)
      ∧ t.curtain.state = .unknown ∧ t.curtain.demands.alarm = decide (t.tables.response[65].curtainDrop = 1)
      ∧ (12 ≤ queueSize t.tables .panelTx → t.links.queues[QueueId.panelTx.ix].frames
          = [mkFrame 0x32 t.tables.link.station [t.phase.phase.code, 3, 0]])

/-- R28, R29: the RESET line's assertion abandons a store write, leaving its image bad. That it changes nothing else but
the line is the model's reading (log 8). -/
def Sys2Proof.Parts.ResetAbandonsWrite : Prop :=
  ∀ s : State, exec .resetAsserted s = .next ((s.withLines { s.lines with reset := true }).withStore
    (if s.store.writing = none then s.store else ⟨{ s.store.image with marker := none }, none⟩))

/-- R28: the two outcomes of a store write; where none is under way its end has no effect (log 3); the
detail of STORE-FAILED is read as log 9 says. -/
def Sys2Proof.Parts.StoreWriteEnds : Prop :=
  ∀ (s : State) (back : StoreImage),
    (s.store.writing = none → exec (.storeWriteEnd back) s = .next s)
      ∧ ∀ w, s.store.writing = some w →
        (imageGood back = true ∧ back = w →
          exec (.storeWriteEnd back) s = .next (writeRecord .commitStored 0 (back.check.extractLsb' 8 8)
            (back.check.extractLsb' 0 8) (s.withStore ⟨back, none⟩)))
        ∧ (¬(imageGood back = true ∧ back = w) →
          exec (.storeWriteEnd back) s = .next (writeRecord .storeFailed 0
            ((crc (back.marker.getD [] ++ allTableBytes back.tables)).extractLsb' 8 8)
            ((crc (back.marker.getD [] ++ allTableBytes back.tables)).extractLsb' 0 8)
            (s.withStore ⟨{ back with marker := none }, none⟩)))

/-- R28, R29: the two outcomes of a store write, and its abandoning as the RESET line asserts (log 8). -/
def Obligations.StoreWrites : Prop := Sys2Proof.Parts.ResetAbandonsWrite ∧ Sys2Proof.Parts.StoreWriteEnds

/-! ### Frames and queues -/

/-- R165, R166, R167: a frame built from a kind, a station and a body of up to 200 bytes is judged good, and each of its
fields reads back. -/
def Obligations.BuiltFrameReadsBack : Prop :=
  ∀ (kind station : Byte) (body : List Byte), body.length ≤ 200 →
    judgeFrame (mkFrame kind station body) = .good ∧ frameKind (mkFrame kind station body) = kind
      ∧ frameStation (mkFrame kind station body) = station ∧ frameBody (mkFrame kind station body) = body
      ∧ (mkFrame kind station body).length = body.length + 5

/-- 2.5, R53, R74, 6.1, R127, R139, R141, R168, 10.4: every table's layout gives as many bytes as the catalogue says,
and an entry laid out and read back is the entry, every field at every value. -/
def Obligations.LayoutsReadBack : Prop :=
  (∀ e, areaOfBytes (areaBytes e) = e ∧ (areaBytes e).length = tableWidth .areas)
    ∧ (∀ e, channelOfBytes (channelBytes e) = e ∧ (channelBytes e).length = tableWidth .channels)
    ∧ (∀ e, guardOfBytes (guardBytes e) = e ∧ (guardBytes e).length = tableWidth .guards)
    ∧ (∀ e, streamOfBytes (streamBytes e) = e ∧ (streamBytes e).length = tableWidth .stream)
    ∧ (∀ e, curtainOfBytes (curtainBytes e) = e ∧ (curtainBytes e).length = tableWidth .curtain)
    ∧ (∀ e, responseOfBytes (responseBytes e) = e ∧ (responseBytes e).length = tableWidth .response)
    ∧ (∀ e, alarmOfBytes (alarmBytes e) = e ∧ (alarmBytes e).length = tableWidth .alarm)
    ∧ (∀ e, programOfBytes (programBytes e) = e ∧ (programBytes e).length = tableWidth .programs)
    ∧ (∀ e, scheduleOfBytes (scheduleBytes e) = e ∧ (scheduleBytes e).length = tableWidth .schedule)
    ∧ (∀ e, linkOfBytes (linkBytes e) = e ∧ (linkBytes e).length = tableWidth .link)

/-- R29, R167, R170: what the arrival of a frame does: bad for LENGTH, bad for CHECK, good with room, good without room,
and nothing at all while the tables are loaded or for an empty run. That a refusal is recorded whatever the frame's kind,
with the length of the whole frame, is the model's reading (log 12). -/
def Obligations.FrameArrivalJudged : Prop :=
  ∀ (s : State) (p : Port) (bs : List Byte),
    let badLen := bs.length < 5 ∨ 200 < (byteAt bs 2).toNat ∨ bs.length ≠ (byteAt bs 2).toNat + 5
    let n := (byteAt bs 2).toNat
    let badCheck := crc (bs.take (3 + n)) ≠ word16 (byteAt bs (3 + n)) (byteAt bs (4 + n))
    let q := receiveQueue p
    let opened := s.withLinks { s.links with badLatch := putAt s.links.badLatch p.ix false }
    let bad : Byte → Prop := fun cause =>
      (s.links.badLatch[p.ix] = true → exec (.frameArrival p bs) s = .next s)
        ∧ (s.links.badLatch[p.ix] = false → Answers (.frameArrival p bs) s fun t => t.links.badLatch[p.ix] = true
            ∧ t.log = loggedIn s.log ⟨s.log.next, houseClock s, .frameBad, p.code, cause, byteOf (min 255 bs.length)⟩
            ∧ OnlyTouches [.links, .log] s t)
    ((s.lines.reset = true ∨ s.restart = .due ∨ bs = []) → exec (.frameArrival p bs) s = .next s)
      ∧ (s.lines.reset = false → s.restart ≠ .due → bs ≠ [] →
        (badLen → bad 0) ∧ (¬badLen → badCheck → bad 1)
          ∧ (¬badLen → ¬badCheck → bs.length + 4 ≤ freeBytes s.tables s.links q →
              Answers (.frameArrival p bs) s fun t => OnlyTouches [.links] s t
                ∧ t.links.queues[q.ix] = { s.links.queues[q.ix] with frames := s.links.queues[q.ix].frames ++ [bs] }
                ∧ (∀ r : QueueId, r ≠ q → t.links.queues[r.ix] = s.links.queues[r.ix])
                ∧ t.links.badLatch = putAt s.links.badLatch p.ix false ∧ t.links.tx = s.links.tx)
          ∧ (¬badLen → ¬badCheck → freeBytes s.tables s.links q < bs.length + 4 →
              (s.links.queues[q.ix].latched = true → exec (.frameArrival p bs) s = .next opened)
                ∧ (s.links.queues[q.ix].latched = false → Answers (.frameArrival p bs) s fun t =>
                    t.log = loggedIn s.log
                        ⟨s.log.next, houseClock s, .queueOverflow, q.code, byteAt bs 0, byteOf bs.length⟩
                      ∧ t.links.queues[q.ix] = ⟨s.links.queues[q.ix].frames, true⟩
                      ∧ OnlyTouches [.links, .log] s t)))

/-- R170, R175, R165: a sent frame leaves its queue, whose latch opens if it is then empty, and the idle gap of three
byte times follows; the free transmitter then begins the head of RACK-EXPRESS before that of RACK-PASS, or waits. A
transmitter with nothing to end or already sending is left as it is (log 3). -/
def Obligations.TransmitterServes : Prop :=
  ∀ (s : State) (p : Port),
    (∀ q till, s.links.tx[p.ix] = .sending q till →
      Answers (.frameSent p) s fun t => OnlyTouches [.links, .restart] s t ∧ t.links.tx[p.ix] = .gap (s.now + 3)
        ∧ t.links.queues[q.ix].frames = s.links.queues[q.ix].frames.tail
        ∧ (t.links.queues[q.ix].frames = [] → t.links.queues[q.ix].latched = false)
        ∧ (t.links.queues[q.ix].frames ≠ [] → t.links.queues[q.ix].latched = s.links.queues[q.ix].latched)
        ∧ (∀ r : QueueId, r ≠ q → t.links.queues[r.ix] = s.links.queues[r.ix])
        ∧ (p ≠ .console → t.restart = s.restart) ∧ exec (.transmitterFree p) s = .next s)
    ∧ ((∀ q till, s.links.tx[p.ix] ≠ .sending q till) → exec (.frameSent p) s = .next s
        ∧ Answers (.transmitterFree p) s fun t => OnlyTouches [.links] s t ∧ t.links.queues = s.links.queues
            ∧ (p = .rack → ∀ f, headFrame s .rackExpress = some f →
                t.links.tx[p.ix] = .sending .rackExpress (s.now + f.length))
            ∧ (p = .rack → headFrame s .rackExpress = none → ∀ f, headFrame s .rackPass = some f →
                t.links.tx[p.ix] = .sending .rackPass (s.now + f.length))
            ∧ (p = .console → ∀ f, headFrame s .consoleTx = some f →
                t.links.tx[p.ix] = .sending .consoleTx (s.now + f.length))
            ∧ (p = .panel → ∀ f, headFrame s .panelTx = some f →
                t.links.tx[p.ix] = .sending .panelTx (s.now + f.length))
            ∧ ((transmitQueues p).all (fun q => s.links.queues[q.ix].frames.isEmpty) = true →
                t.links.tx[p.ix] = .free))

/-- R172 case 3, R173 case 3, R174: the frames passed on unchanged, and the panel frames discarded. -/
def Sys2Proof.Parts.FramesPassedOn : Prop :=
  (∀ (s : State) (f : Frame) (rest : List Frame), s.restart = .idle → AtHead s .consoleRx f rest →
      frameKind f ≠ 0x10 → ¬(frameKind f = 0x20 ∧ frameStation f = s.tables.link.station) →
      exec .takeConsolePass s = .next (offer .rackPass f (dropHead .consoleRx s)))
    ∧ (∀ (s : State) (f : Frame) (rest : List Frame), AtHead s .rackRx f rest → frameKind f ≠ 0x41 →
      exec .takeRackReturn s = .next (offer .consoleTx f (dropHead .rackRx s)))
    ∧ (∀ (s : State) (f : Frame) (rest : List Frame), AtHead s .panelRx f rest → frameKind f ≠ 0x30 →
      frameKind f ≠ 0x31 →
      exec .takePanelOther s = .next (dropHead .panelRx s))

/-- R177 tests 1 to 3: a request too short, with a code not in the catalogue, or with the wrong number of argument bytes
is refused with the bytes it carried echoed, and changes nothing else. -/
def Sys2Proof.Parts.UnparsedRequestRefused : Prop :=
  ∀ (s : State) (f : Frame) (rest : List Frame), s.restart = .idle → AtHead s .consoleRx f rest →
    frameKind f = 0x20 → frameStation f = s.tables.link.station →
    let body := frameBody f
    let refusedAs : Byte → Byte → Reason → Prop := fun tag code why =>
      exec .unknownRequest s = .next (sendReply tag code (refuse why) (dropHead .consoleRx s))
    (body.length < 2 → refusedAs (byteAt body 0) 0 .badFormat)
      ∧ (2 ≤ body.length → (byteAt body 1 = 0 ∨ 22 < (byteAt body 1).toNat) →
          refusedAs (byteAt body 0) (byteAt body 1) .unknownRequest)
      ∧ (2 ≤ body.length → argCountOk (byteAt body 1) (body.length - 2) = some false →
          refusedAs (byteAt body 0) (byteAt body 1) .badFormat)

/-- R170: the frame at the head of a queue leaves it, whose latch opens if it is then empty and otherwise stays; the other
queues, the transmitters and the bad-frame latches stay. -/
def Sys2Proof.Parts.HeadLeavesQueue : Prop :=
  ∀ (s : State) (q : QueueId),
    let t := dropHead q s
    let frames := s.links.queues[q.ix].frames.tail
    OnlyTouches [.links] s t ∧ t.links.tx = s.links.tx ∧ t.links.badLatch = s.links.badLatch
      ∧ t.links.queues[q.ix].frames = frames
      ∧ (frames = [] → t.links.queues[q.ix].latched = false)
      ∧ (frames ≠ [] → t.links.queues[q.ix].latched = s.links.queues[q.ix].latched)
      ∧ ∀ r : QueueId, r ≠ q → t.links.queues[r.ix] = s.links.queues[r.ix]

/-- R170: a frame offered to a queue is filed whole behind the others where there is room; where there is none it is
dropped, with a QUEUE-OVERFLOW record and the latch closed where the latch was open. The length in the record is log
12's. -/
def Sys2Proof.Parts.FrameOffered : Prop :=
  ∀ (s : State) (q : QueueId) (f : Frame),
    let t := offer q f s
    let old := s.links.queues[q.ix]
    (f.length + 4 ≤ freeBytes s.tables s.links q → OnlyTouches [.links] s t
        ∧ t.links.queues[q.ix] = { old with frames := old.frames ++ [f] }
        ∧ ∀ r : QueueId, r ≠ q → t.links.queues[r.ix] = s.links.queues[r.ix])
      ∧ (freeBytes s.tables s.links q < f.length + 4 → (old.latched = true → t = s)
        ∧ (old.latched = false → OnlyTouches [.links, .log] s t ∧ t.links.queues[q.ix].latched = true
          ∧ (q ≠ .consoleTx → t.links.queues[q.ix].frames = old.frames)
          ∧ t.log = loggedIn s.log
              ⟨s.log.next, houseClock s, .queueOverflow, q.code, byteAt f 0, byteOf (min 255 f.length)⟩))

/-- R165, R178: a reply is offered to CONSOLE-TX as a MGMT-REPLY with the station in force: tag, code, outcome, the
reason's number, and the data. -/
def Sys2Proof.Parts.RepliesBuilt : Prop :=
  (∀ (s : State) (tag code : Byte) (data : List Byte), sendReply tag code (doneWith data) s
      = offer .consoleTx (mkFrame 0x21 s.tables.link.station ([tag, code, 0, 0] ++ data)) s)
    ∧ ∀ (s : State) (tag code : Byte) (why : Reason), sendReply tag code (refuse why) s
      = offer .consoleTx (mkFrame 0x21 s.tables.link.station [tag, code, 1, match why with
        | .badFormat => 1 | .unknownRequest => 2 | .badArgument => 3 | .wrongPhase => 4 | .alarmActive => 5
        | .curtainState => 6 | .curtainTest => 7 | .panelLink => 8 | .notInvestigating => 9 | .notAcknowledged => 10
        | .limit => 11 | .busy => 12 | .invalidTables => 13 | .reservedProgram => 14 | .noSuchCall => 15]) s

/-- R170, R172, R173, R174, R177, R178: frames passed on or discarded by their kind and station, requests refused as they
are parsed, and what taking a frame, offering one and replying are. -/
def Obligations.FramesTaken : Prop :=
  Sys2Proof.Parts.FramesPassedOn ∧ Sys2Proof.Parts.UnparsedRequestRefused ∧ Sys2Proof.Parts.HeadLeavesQueue
    ∧ Sys2Proof.Parts.FrameOffered ∧ Sys2Proof.Parts.RepliesBuilt

/-! ### Records, queues and their laws -/

/-- R186, R187: a record takes the next number and the house clock, joins the ring as its newest, the oldest leaving
where 256 are held; its EVENT frame is filed in CONSOLE-TX where there is room and is dropped without a trace where
there is none. -/
def Obligations.RecordWritten : Prop :=
  ∀ (k : EventKind) (subject d0 d1 : Byte) (s : State),
    let r : EventRecord := ⟨s.log.next, BitVec.ofNat 32 (s.now / 100), k, subject, d0, d1⟩
    let t := writeRecord k subject d0 d1 s
    let q := s.links.queues[QueueId.consoleTx.ix]
    OnlyTouches [.links, .log] s t
      ∧ t.log.next = (if s.log.next = 0xFFFFFFFF#32 then 1 else s.log.next + 1)
      ∧ (s.log.ring.length < 256 → t.log.ring = s.log.ring ++ [r] ∧ t.log.removed = s.log.removed)
      ∧ (s.log.ring.length = 256 → t.log.ring = s.log.ring.tail ++ [r] ∧ t.log.removed = true)
      ∧ (21 ≤ freeBytes s.tables s.links .consoleTx → t.links.queues[QueueId.consoleTx.ix] =
          { q with frames := q.frames ++ [mkFrame 0x50 s.tables.link.station (recordBytes r)] })
      ∧ (freeBytes s.tables s.links .consoleTx < 21 → t.links = s.links)

/-- R170: every step keeps the law of the queues: the occupied bytes of each never exceed its size. -/
def Sys2Proof.Parts.QueuesFitKept : Prop := ∀ s t : State, QueuesFit s → step s = .next t → QueuesFit t

/-- R186: every step keeps the law of the log: at most 256 records with consecutive numbers, the next number following
the newest, and 0 never given. -/
def Sys2Proof.Parts.LogLawKept : Prop := ∀ s t : State, LogLaw s.log → step s = .next t → LogLaw t.log

/-- R170, R186: every step keeps the law of the queues and the law of the log. -/
def Obligations.QueueAndLogLawsKept : Prop := Sys2Proof.Parts.QueuesFitKept ∧ Sys2Proof.Parts.LogLawKept

/-- The state after reset meets every law stated below as an invariant. The state is that of log 6. -/
def Obligations.ResetMeetsLaws : Prop :=
  QueuesFit State.reset ∧ LogLaw State.reset.log ∧ CurtainLaw State.reset.curtain ∧ PositionLaw State.reset
    ∧ (∀ z : ZoneId, MapLaw (zoneAt State.reset z)) ∧ AlarmLaw State.reset ∧ DemandLaw State.reset
    ∧ WindowsLaw State.reset ∧ OneInvestigates State.reset ∧ HolderLaw State.reset.calls
    ∧ PendingLaw State.reset.calls ∧ InvestigationLaw State.reset ∧ TablesLaw State.reset ∧ WaitingLaw State.reset
    ∧ SuppressionLaw State.reset
    ∧ State.reset.effects.noticeDue = false ∧ State.reset.calls.freed = false

/-! ### The level stream and the levels -/

/-- R55: the console timer runs out: HELD with the hold timer, or LOST where the hold time is 0, each with its record.
The timer runs only in FRESH; the record carries whatever freshness is left (log 4). -/
def Sys2Proof.Parts.ConsoleTimerRunsOut : Prop :=
  ∀ s : State, s.stream.consoleTimer ≠ none →
    (s.tables.stream.hold ≠ 0 →
      exec .consoleTimerExpiry s = .next (writeRecord .consoleState 0 s.stream.freshness.code 1
        (s.withStream { s.stream with
          consoleTimer := none
          holdTimer := some (s.now + s.tables.stream.hold.toNat * 100000)
          freshness := .held })))
      ∧ (s.tables.stream.hold = 0 → exec .consoleTimerExpiry s = .next (writeRecord .consoleState 0
        s.stream.freshness.code 2 (s.withStream { s.stream with consoleTimer := none, freshness := .lost })))

/-- R56: the hold timer runs out in HELD: it stops, the freshness becomes LOST, and the record says HELD to LOST. -/
def Sys2Proof.Parts.HoldTimerRunsOut : Prop :=
  ∀ s : State, s.stream.holdTimer ≠ none → s.stream.freshness = .held →
    exec .holdTimerExpiry s = .next (writeRecord .consoleState 0 1 2
      (s.withStream { s.stream with holdTimer := none, freshness := .lost }))

/-- R55, R56: the two timers of console freshness run out. -/
def Obligations.ConsoleTimersRunOut : Prop := Sys2Proof.Parts.ConsoleTimerRunsOut ∧ Sys2Proof.Parts.HoldTimerRunsOut

/-- R54, R58, R59, R60: what becomes of the LEVELS frame at the head of CONSOLE-RX. A foreign one is offered to
RACK-PASS as it is; a malformed one leaves at most its record and its latch; a well-formed one makes the stream FRESH,
starts the console timer afresh, and gives its levels to the shadow and to the console requests of the HOUSE slots. -/
def Obligations.LevelsFrameSorted : Prop :=
  ∀ (s : State) (f : Frame) (rest : List Frame), s.restart = .idle → AtHead s .consoleRx f rest → frameKind f = 0x10 →
    let body := frameBody f
    let n := (byteAt body 2).toNat
    let first := 256 * (byteAt body 0).toNat + (byteAt body 1).toNat
    let good := 3 ≤ body.length ∧ 1 ≤ n ∧ n ≤ 64 ∧ (byteAt body 1).toNat + n ≤ 256 ∧ body.length = 3 + n
    (body ≠ [] → 3 < (byteAt body 0).toNat →
        exec .takeLevels s = .next (offer .rackPass f (dropHead .consoleRx s)))
      ∧ ((body = [] ∨ ((byteAt body 0).toNat ≤ 3 ∧ ¬good)) →
        (s.stream.malformed[latchOf body] = true → exec .takeLevels s = .next (dropHead .consoleRx s))
          ∧ (s.stream.malformed[latchOf body] = false →
            exec .takeLevels s = .next (writeRecord .frameMalformed 0 (if body = [] then 0xFF else byteAt body 0)
              (byteSat body.length) ((dropHead .consoleRx s).withStream
                { s.stream with malformed := putAt s.stream.malformed (latchOf body) true }))))
      ∧ ((byteAt body 0).toNat ≤ 3 → good →
        Answers .takeLevels s fun t => OnlyTouches [.stream, .levels, .links, .log] s t
          ∧ t.stream.freshness = .fresh ∧ t.stream.holdTimer = none
          ∧ t.stream.consoleTimer = some (s.now + s.tables.stream.timeout.toNat * 100)
          ∧ (∀ i : Fin 1024, if first ≤ i.val ∧ i.val < first + n
              then t.stream.slots[i].shadow = byteAt body (3 + (i.val - first)) ∧ t.stream.slots[i].seen = true
                ∧ t.stream.slots[i].cls = s.stream.slots[i].cls
              else t.stream.slots[i] = s.stream.slots[i])
          ∧ t.levels.masters = s.levels.masters ∧ t.levels.stepTimer = s.levels.stepTimer
          ∧ (∀ h : ChannelId, t.levels.channels[h].output = s.levels.channels[h].output)
          ∧ (∀ (i : Fin 1024) (h : ChannelId), first ≤ i.val → i.val < first + n → s.stream.slots[i].cls = .house h →
              (∀ j : Fin 1024, s.stream.slots[j].cls = .house h → j = i) →
              t.levels.channels[h].request = byteAt body (3 + (i.val - first)) ∧ t.levels.channels[h].seen = true)
          ∧ (∀ h : ChannelId, (∀ i : Fin 1024, first ≤ i.val → i.val < first + n → s.stream.slots[i].cls ≠ .house h) →
              t.levels.channels[h] = s.levels.channels[h]))

/-- R61, R62: the well-formed frame offered to RACK-PASS carries each channel's output in its HOUSE slots, each guard's
effective level in its GUARD slots, and the console's level in the others; where it is filed the marks of the frame's
HOUSE and GUARD slots are clear afterwards, and where it is refused they are set. -/
def Obligations.LevelsFrameRewritten : Prop :=
  ∀ (s : State) (f : Frame) (rest : List Frame), s.restart = .idle → AtHead s .consoleRx f rest → frameKind f = 0x10 →
    let body := frameBody f
    let n := (byteAt body 2).toNat
    let first := 256 * (byteAt body 0).toNat + (byteAt body 1).toNat
    (byteAt body 0).toNat ≤ 3 → 1 ≤ n → n ≤ 64 → (byteAt body 1).toNat + n ≤ 256 → body.length = 3 + n →
      s.stream.freshness = .fresh →
      Answers .takeLevels s fun t =>
        let carried : Nat → Byte := fun i =>
          match (slotAt s.stream.slots (first + i)).cls with
          | .pass => byteAt body (3 + i)
          | .house h => s.levels.channels[h].output
          | .guard g => if s.effects.set.stageSafe then s.tables.guards[g].safe else byteAt body (3 + i)
        let g := mkFrame 0x10 (frameStation f)
          (byteAt body 0 :: byteAt body 1 :: byteAt body 2 :: (List.range n).map carried)
        let old := s.links.queues[QueueId.rackPass.ix]
        (g.length + 4 ≤ freeBytes s.tables s.links .rackPass →
          t.links.queues[QueueId.rackPass.ix] = { old with frames := old.frames ++ [g] }
            ∧ ∀ i : Fin 1024, first ≤ i.val → i.val < first + n → s.stream.slots[i].cls ≠ .pass →
                t.stream.slots[i].dirty = false)
          ∧ (freeBytes s.tables s.links .rackPass < g.length + 4 →
            t.links.queues[QueueId.rackPass.ix].frames = old.frames
              ∧ ∀ i : Fin 1024, first ≤ i.val → i.val < first + n → s.stream.slots[i].cls ≠ .pass →
                  t.stream.slots[i].dirty = true)

/-- R66: at each expiry of the periodic refresh timer every HOUSE and GUARD slot is marked, every other slot is as it
was, and the timer runs again for 1000 ms. The next expiry is counted from the command (log 4). -/
def Sys2Proof.Parts.PeriodicRefreshMarks : Prop :=
  ∀ s : State, Answers .periodicRefresh s fun t =>
    OnlyTouches [.stream] s t
      ∧ t.stream = { s.stream with slots := t.stream.slots, refreshTimer := some (s.now + 100000) }
      ∧ ∀ i : Fin 1024, t.stream.slots[i] =
          if s.stream.slots[i].cls = .pass then s.stream.slots[i] else { s.stream.slots[i] with dirty := true }

/-- R31, R40 to R44: at a level step every channel in use moves from its output toward its target: at once under a flash
and without emergency, otherwise by at most its rate; its request and seen flag stay; a channel not in use stays as it
is. The step timer runs again for 25 ms, and nothing but the levels, the slots, the links and the log changes. The next
step is counted from the command (log 4). -/
def Obligations.LevelStepMovesOutputs : Prop :=
  ∀ s : State, Answers .levelStep s fun t =>
    OnlyTouches [.levels, .stream, .links, .log] s t ∧ t.levels.masters = s.levels.masters
      ∧ t.levels.stepTimer = some (s.now + 2500)
      ∧ ∀ h : ChannelId,
          let e := s.tables.channels[h]
          let c := s.levels.channels[h]
          let target := targetLevel s e c
          let o := c.output.toNat
          let up := if emergencyFlag s e then s.tables.alarm.riseRate.toNat else e.rise.toNat
          t.levels.channels[h].request = c.request ∧ t.levels.channels[h].seen = c.seen
            ∧ (e.inUse ≠ 1 → t.levels.channels[h] = c)
            ∧ (e.inUse = 1 → emergencyFlag s e = false → flashOf s e ≠ .inactive →
                t.levels.channels[h].output.toNat = target)
            ∧ (e.inUse = 1 → (emergencyFlag s e = true ∨ flashOf s e = .inactive) →
                (o < target → t.levels.channels[h].output.toNat = min target (o + up))
                  ∧ (target < o → t.levels.channels[h].output.toNat = max target (o - e.fall.toNat))
                  ∧ (target = o → t.levels.channels[h].output = c.output))

/-- R34 to R39: the target of a channel, stage by stage. -/
def Sys2Proof.Parts.TargetByStages : Prop :=
  ∀ (s : State) (a : AreaId) (e : ChannelEntry) (c : Channel), e.area.toNat = a.val →
    let b2 := if s.phase.phase = .recovery ∨ s.stream.freshness = .lost ∨ c.seen = false then e.loss.toNat
      else (c.request.toNat * s.levels.masters[a].toNat + 127) / 255
    let b3 := min e.ceiling.toNat (if audience s.phase.phase = true then max b2 e.floor.toNat else b2)
    let falling := s.curtain.state = .descending ∨ s.curtain.state = .slowing ∨ s.curtain.state = .stalled
    let b4 := if falling ∧ audience s.phase.phase = true ∧ e.marker = 1 then max b3 e.curtain.toNat else b3
    let t5 := if s.calls.flash[a] = .low then b4 * (255 - s.tables.areas[a].depth.toNat) / 255 else b4
    targetLevel s e c = (if s.effects.set.emergency.getLsbD a.val = true then e.emergency.toNat else t5)
      ∧ targetLevel s e c ≤ 255 ∧ resolveChannel s e c ≤ 255

/-- R35: the scaled request, the nearest level to the exact quotient, with the largest sum and the fixed points the
manual lists. -/
def Sys2Proof.Parts.ScalingFixedPoints : Prop :=
  (∀ c m : Byte, scaledLevel c.toNat m.toNat = (c.toNat * m.toNat + 127) / 255 ∧ scaledLevel c.toNat m.toNat ≤ 255
      ∧ c.toNat * m.toNat + 127 ≤ 65152
      ∧ 255 * scaledLevel c.toNat m.toNat ≤ c.toNat * m.toNat + 127
      ∧ c.toNat * m.toNat ≤ 255 * scaledLevel c.toNat m.toNat + 127)
    ∧ (∀ c : Byte, scaledLevel c.toNat 255 = c.toNat ∧ scaledLevel c.toNat 0 = 0)
    ∧ (∀ m : Byte, scaledLevel 0 m.toNat = 0)
    ∧ scaledLevel 255 255 = 255 ∧ scaledLevel 128 128 = 64 ∧ scaledLevel 1 128 = 1 ∧ scaledLevel 1 127 = 0

/-- R34 to R39, R48: the target of a channel by its stages, with the scaling of stage 1 and its fixed points. -/
def Obligations.TargetsAndScaling : Prop := Sys2Proof.Parts.TargetByStages ∧ Sys2Proof.Parts.ScalingFixedPoints

/-- R63: the span of a universe's refresh frame starts at its lowest marked slot, covers at most 64 slots and none
beyond the universe, and ends at the highest marked slot within that reach; a universe with no marked slot gets none. -/
def Sys2Proof.Parts.RefreshSpanCoversMarks : Prop :=
  ∀ slots : List Slot,
    (refreshSpan slots = none ↔ ∀ x ∈ slots, x.dirty = false)
      ∧ ∀ start count : Nat, refreshSpan slots = some (start, count) →
          1 ≤ count ∧ count ≤ 64 ∧ start + count ≤ slots.length
            ∧ (slotMarked slots start = true) ∧ (slotMarked slots (start + count - 1) = true)
            ∧ (∀ i, i < start → slotMarked slots i = false)
            ∧ ∀ i, start + count ≤ i → i < start + 64 → slotMarked slots i = false

/-- R43, R63, R64, R65: at a level step the slots of the channels whose output changed join the marks, and each universe
with a mark has its refresh frame, of station 0, offered to RACK-EXPRESS in ascending order, carrying each channel's new
output, each guard's effective level and the shadow of the other slots. A frame that finds room behind those filed
before it is filed and the marks of the HOUSE and GUARD slots it covers are cleared; the marks of the others stay, and the
first frame refused is reported where the queue's latch is open. The length in that record is log 12's. -/
def Sys2Proof.Parts.LevelStepRefreshes : Prop :=
  ∀ s : State, Answers .levelStep s fun t => ∃ m : Vector Slot 1024,
    let changed : Nat → Prop := fun i => ∃ h : ChannelId, s.tables.channels[h].inUse = 1
      ∧ t.levels.channels[h].output ≠ s.levels.channels[h].output
      ∧ 256 * s.tables.channels[h].univ.toNat + s.tables.channels[h].slot.toNat = i
    let carried : Slot → Byte := fun x => match x.cls with
      | .pass => x.shadow
      | .house h => t.levels.channels[h].output
      | .guard g => if s.effects.set.stageSafe then s.tables.guards[g].safe else x.shadow
    let frameOf : Nat → Option Frame := fun u => (refreshSpan (universeSlots m u)).map fun span =>
      mkFrame 0x10 0 (byteOf u :: byteOf span.1 :: byteOf span.2
        :: (((universeSlots m u).drop span.1).take span.2).map carried)
    let covered : Fin 1024 → Prop := fun i => ∃ start count : Nat,
      refreshSpan (universeSlots m (i.val / 256)) = some (start, count)
        ∧ start ≤ i.val % 256 ∧ i.val % 256 < start + count
    let old := s.links.queues[QueueId.rackExpress.ix]
    let queue := t.links.queues[QueueId.rackExpress.ix]
    let filed := filedUniverses frameOf (freeBytes s.tables s.links .rackExpress) [0, 1, 2, 3]
    let refused := ([0, 1, 2, 3].filter fun u => !filed.contains u).filterMap frameOf
    let cleared : Fin 1024 → Prop := fun i => i.val / 256 ∈ filed ∧ covered i ∧ m[i].cls ≠ .pass
    (∀ i : Fin 1024, m[i] = { s.stream.slots[i] with dirty := m[i].dirty }
        ∧ (m[i].dirty = true ↔ s.stream.slots[i].dirty = true ∨ changed i.val))
      ∧ queue.frames = old.frames ++ filed.filterMap frameOf
      ∧ (∀ i : Fin 1024, (cleared i → t.stream.slots[i] = { m[i] with dirty := false })
          ∧ (¬cleared i → t.stream.slots[i] = m[i]))
      ∧ ((old.latched = true ∨ refused = []) → t.log = s.log ∧ queue.latched = old.latched)
      ∧ ∀ f, old.latched = false → refused.head? = some f → queue.latched = true
          ∧ t.log = loggedIn s.log ⟨s.log.next, houseClock s, .queueOverflow, 2, 0x10, byteOf f.length⟩

/-- R43, R63 to R66: the marks of a level step and of the periodic refresh, the span of a refresh frame, and the frames
filed or refused (a refusal's record: log 12). -/
def Obligations.RefreshMarksAndSpans : Prop :=
  Sys2Proof.Parts.PeriodicRefreshMarks ∧ Sys2Proof.Parts.RefreshSpanCoversMarks ∧ Sys2Proof.Parts.LevelStepRefreshes

/-- R23: SET-MASTER's tests and its effect. -/
def Obligations.SetMasterTakes : Prop :=
  ∀ (s : State) (tag x level : Byte), Requested s 5 tag [x, level] →
    (24 ≤ x.toNat → RefusedWith .setMaster s 5 tag .badArgument)
      ∧ ∀ a : AreaId, x.toNat = a.val →
          (s.tables.areas[a].kind = 0 → RefusedWith .setMaster s 5 tag .badArgument)
            ∧ (s.tables.areas[a].kind ≠ 0 → ∃ v : Vector Byte 24, v[a] = level
                ∧ (∀ b : AreaId, b ≠ a → v[b] = s.levels.masters[b])
                ∧ DoneWith .setMaster s 5 tag [] ((dropHead .consoleRx s).withLevels { s.levels with masters := v }))

/-! ### The safety curtain -/

/-- R72: every step keeps the law of the two lines: HOLD-DRIVE is energised only in RAISING or OUT with no drop demand,
and RAISE-PERMIT only in RAISING. -/
def Sys2Proof.Parts.CurtainLawKept : Prop :=
  ∀ s t : State, CurtainLaw s.curtain → step s = .next t → CurtainLaw t.curtain

/-- R76: every step keeps the position within 0–N. -/
def Sys2Proof.Parts.PositionLawKept : Prop := ∀ s t : State, PositionLaw s → step s = .next t → PositionLaw t

/-- R72, R76: every step keeps the law of the two lines and the law of the position. -/
def Obligations.CurtainLawsKept : Prop := Sys2Proof.Parts.CurtainLawKept ∧ Sys2Proof.Parts.PositionLawKept

/-- R76: a transition in which one line changes moves the count by one within 0–N, downward when ENC-B leads ENC-A; one
in which both change leaves the position, clears the reference flag and records ENCODER-ERROR; a sample that differs in
neither is no transition. While the limits conflict a count moves the position and nothing else (R77). That such a
sample leaves the state as it is is log 3's; ENCODER-ERROR in a conflict is log 17's. -/
def Obligations.EncoderMovesCount : Prop :=
  ∀ (s : State) (a b : Bool), AlarmLaw s →
    let moved := s.withLines { s.lines with encA := a, encB := b }
    let down := (s.lines.encB ≠ b ∧ b ≠ a) ∨ (s.lines.encA ≠ a ∧ a = b)
    let oneChanged := (s.lines.encA ≠ a ∧ s.lines.encB = b) ∨ (s.lines.encA = a ∧ s.lines.encB ≠ b)
    let n := s.tables.curtain.travel.toNat
    let conflict := s.lines.limitIn = true ∧ s.lines.limitOut = true
    (s.lines.encA = a → s.lines.encB = b → exec (.encoderTransition a b) s = .next (endAct s))
      ∧ (oneChanged → Answers (.encoderTransition a b) s fun t =>
          OnlyTouches (.lines :: alarmReach) s t ∧ t.lines = moved.lines
            ∧ t.curtain.position = (if down then s.curtain.position - 1
                else if s.curtain.position < n then s.curtain.position + 1 else s.curtain.position)
            ∧ (conflict → t.curtain = { s.curtain with position := t.curtain.position }))
      ∧ (s.lines.encA ≠ a → s.lines.encB ≠ b → Answers (.encoderTransition a b) s fun t =>
          OnlyTouches (.lines :: alarmReach) s t ∧ t.lines = moved.lines
            ∧ t.curtain = { s.curtain with referenced := false, faults := addFault s.curtain.faults .encoderError })

/-- R82, R87: a downward count in DESCENDING or SLOWING takes the reference where there is none, counts towards the
window's end, or ends the window, which becomes the reference of the next; each capture starts the stall timer afresh. -/
def Sys2Proof.Parts.SpeedWindowCounts : Prop :=
  ∀ (s : State) (a : Bool), AlarmLaw s → s.curtain.state ∈ [.descending, .slowing] → s.lines.encA = a →
    s.lines.encB = a → ¬(s.lines.limitIn = true ∧ s.lines.limitOut = true) →
    Answers (.encoderTransition a (!a)) s fun t =>
      let w := s.curtain.window
      let size := s.tables.curtain.window.toNat
      t.curtain.startTimer = none
        ∧ (w.reference = none → t.curtain.window = { w with reference := some (s.curtain.capture, 0) }
            ∧ t.curtain.stallTimer = some (s.now + s.tables.curtain.stallLimit.toNat * 100))
        ∧ (w.reference ≠ none → w.count + 1 < size → t.curtain.window = { w with count := w.count + 1 }
            ∧ t.curtain.stallTimer = s.curtain.stallTimer)
        ∧ (w.reference ≠ none → size ≤ w.count + 1 →
            t.curtain.window = ⟨0, some (s.curtain.capture, 0), min 3 (w.completed + 1)⟩
            ∧ t.curtain.stallTimer = some (s.now + s.tables.curtain.stallLimit.toNat * 100))

/-- R83, R84: the speed of a completed window is 100 W p divided by the elapsed ticks, and in DESCENDING it is judged
once two windows have been completed before it: OVERSPEED above vmax, UNDERSPEED below vmin, and neither otherwise. That
the state before the count decides, where the count reaches the slow zone as well, is log 17's; the elapsed time of a
capture that stands before its reference is log 19's. -/
def Obligations.SpeedJudged : Prop :=
  ∀ (s : State) (a : Bool) (reference wraps : Nat), AlarmLaw s → s.curtain.state = .descending → s.lines.encA = a →
    s.lines.encB = a → ¬(s.lines.limitIn = true ∧ s.lines.limitOut = true) →
    s.curtain.window.reference = some (reference, wraps) →
    s.tables.curtain.window.toNat ≤ s.curtain.window.count + 1 →
    Answers (.encoderTransition a (!a)) s fun t =>
      let v := min 65535 (100 * s.tables.curtain.window.toNat * s.tables.curtain.pitch.toNat
        / max 1 (wraps * 65536 + s.curtain.capture - reference))
      let judged := 2 ≤ s.curtain.window.completed
      (hasFault t.curtain .overspeed = true ↔
          hasFault s.curtain .overspeed = true ∨ (judged ∧ s.tables.curtain.vmax.toNat < v))
        ∧ (hasFault t.curtain .underspeed = true ↔
          hasFault s.curtain .underspeed = true ∨ (judged ∧ v < s.tables.curtain.vmin.toNat))

/-- R82: the capture timer wraps to 0, and a held reference counts the wrap, to 255. -/
def Sys2Proof.Parts.CaptureTimerWraps : Prop :=
  ∀ s : State,
    (s.curtain.window.reference = none →
      exec .captureTimerWrap s = .next (s.withCurtain { s.curtain with capture := 0 }))
    ∧ ∀ r w : Nat, s.curtain.window.reference = some (r, w) →
        exec .captureTimerWrap s = .next (s.withCurtain { s.curtain with
          capture := 0, window := { s.curtain.window with reference := some (r, if w < 255 then w + 1 else 255) } })

/-- R85, R86, R98: what else a downward count does in a fall: in DESCENDING the slow zone is entered at the position
where it is reached; a switch still open at the tolerance below S is recorded as late; in SLOWING a speed taken G counts
below the entry is judged against vslow alone; an open test notes its first count. The time's rounding is log 19's. -/
def Sys2Proof.Parts.SlowZoneCounts : Prop :=
  ∀ (s : State) (a : Bool), AlarmLaw s → s.lines.encA = a → s.lines.encB = a →
    ¬(s.lines.limitIn = true ∧ s.lines.limitOut = true) →
    let p := s.curtain.position - 1
    let r := s.tables.curtain
    let late := s.curtain.referenced = true ∧ s.lines.slowSw = false ∧ p + r.tolerance.toNat ≤ r.slowStart.toNat
    let slow := (s.curtain.referenced = true ∧ p ≤ r.slowStart.toNat) ∨ s.lines.slowSw = true
    let tooFast := ∃ reference wraps entry : Nat, s.curtain.window.reference = some (reference, wraps)
      ∧ r.window.toNat ≤ s.curtain.window.count + 1 ∧ s.curtain.slowEntry = some entry ∧ p + r.grace.toNat ≤ entry
      ∧ r.vslow.toNat < min 65535 (100 * r.window.toNat * r.pitch.toNat
          / max 1 (wraps * 65536 + s.curtain.capture - reference))
    let same : State → CurtainFault → Prop := fun t f => hasFault t.curtain f = hasFault s.curtain f
    let falls : CurtainState → Option Nat → State → Prop := fun st entry t =>
      t.curtain = { s.curtain with
          state := st, position := p, slowEntry := entry, startTimer := none, window := t.curtain.window
          stallTimer := t.curtain.stallTimer, faults := t.curtain.faults, test := t.curtain.test }
        ∧ (hasFault t.curtain .slowSwitchMismatch = true ↔ hasFault s.curtain .slowSwitchMismatch = true ∨ late)
        ∧ (s.curtain.test.status = .running → t.curtain.test.firstMove =
            some (s.curtain.test.firstMove.getD (min 65535 ((s.now - s.curtain.test.started) / 100))))
    (s.curtain.state = .descending → Answers (.encoderTransition a (!a)) s fun t =>
        falls (if slow then .slowing else .descending) (if slow then some p else s.curtain.slowEntry) t
          ∧ same t .slowOverspeed)
      ∧ (s.curtain.state = .slowing → Answers (.encoderTransition a (!a)) s fun t =>
        falls .slowing s.curtain.slowEntry t ∧ same t .overspeed ∧ same t .underspeed
          ∧ (hasFault t.curtain .slowOverspeed = true ↔ hasFault s.curtain .slowOverspeed = true ∨ tooFast))

/-- R81, R85, R87: a downward count in UNKNOWN begins a fall, whose drop timer starts if it was stopped, and one in
STALLED returns the state, to SLOWING with the entry it kept or where the slow zone is reached, with one CURTAIN-STATE
record, and otherwise to DESCENDING; each takes its capture as the reference and starts the stall timer afresh. The
comparison with the switch in STALLED is log 17's. -/
def Sys2Proof.Parts.CountsBeginFall : Prop :=
  ∀ (s : State) (a : Bool), AlarmLaw s → s.lines.encA = a → s.lines.encB = a →
    ¬(s.lines.limitIn = true ∧ s.lines.limitOut = true) →
    let p := s.curtain.position - 1
    let r := s.tables.curtain
    let late := s.curtain.referenced = true ∧ s.lines.slowSw = false ∧ p + r.tolerance.toNat ≤ r.slowStart.toNat
    let slow := (s.curtain.referenced = true ∧ p ≤ r.slowStart.toNat) ∨ s.lines.slowSw = true
    let begins : CurtainState → Option Nat → Timer → State → Prop := fun st entry drop t =>
      t.curtain = { s.curtain with
        state := st, position := p, slowEntry := entry, dropTimer := drop, startTimer := none
        stallTimer := some (s.now + r.stallLimit.toNat * 100)
        window := { s.curtain.window with reference := some (s.curtain.capture, 0) }
        faults := if late then addFault s.curtain.faults .slowSwitchMismatch else s.curtain.faults
        test := t.curtain.test }
    (s.curtain.state = .unknown → Answers (.encoderTransition a (!a)) s fun t => t.curtain.test = s.curtain.test
        ∧ begins (if slow then .slowing else .descending) (if slow then some p else s.curtain.slowEntry)
          (if s.curtain.dropTimer = none then some (s.now + r.maxDrop.toNat * 100000) else s.curtain.dropTimer) t)
      ∧ (s.curtain.state = .stalled → Answers (.encoderTransition a (!a)) s fun t =>
        let st : CurtainState := if s.curtain.slowEntry ≠ none ∨ slow then .slowing else .descending
        begins st (if s.curtain.slowEntry = none ∧ slow then some p else s.curtain.slowEntry) s.curtain.dropTimer t
          ∧ (¬late → s.calls.freed = false → 12 ≤ freeBytes s.tables s.links .panelTx →
              t.log = loggedIn s.log ⟨s.log.next, houseClock s, .curtainState, 0, 6, st.code⟩))

/-- R76, R82, R94, R95: the counts that move the position and little else: in RAISING and IN, and upward in UNKNOWN,
nothing, but that the first upward count of a raise stops its start window; in OUT a position below N less the drift
tolerance is recorded as DRIFT; upward in a fall the speed window starts again. -/
def Sys2Proof.Parts.CountsBesideFall : Prop :=
  ∀ (s : State) (a : Bool), AlarmLaw s → s.lines.encA = a → s.lines.encB = a →
    ¬(s.lines.limitIn = true ∧ s.lines.limitOut = true) →
    let n := s.tables.curtain.travel.toNat
    let down := s.curtain.position - 1
    let up := if s.curtain.position < n then s.curtain.position + 1 else s.curtain.position
    let drifted : Nat → Curtain := fun p => { s.curtain with
      position := p
      faults := if s.curtain.referenced = true ∧ p + s.tables.curtain.driftTol.toNat < n
        then addFault s.curtain.faults .drift else s.curtain.faults }
    (s.curtain.state ∈ [.raising, .resting] → Answers (.encoderTransition a (!a)) s fun t =>
        t.curtain = { s.curtain with position := down })
      ∧ (s.curtain.state = .out → Answers (.encoderTransition a (!a)) s fun t => t.curtain = drifted down)
      ∧ Answers (.encoderTransition (!a) a) s fun t =>
        (s.curtain.state = .raising → t.curtain = { s.curtain with position := up, startTimer := none })
          ∧ (s.curtain.state = .out → t.curtain = drifted up)
          ∧ (s.curtain.state ∈ [.unknown, .resting] → t.curtain = { s.curtain with position := up })
          ∧ (s.curtain.state ∈ [.descending, .slowing, .stalled] →
              t.curtain = { s.curtain with position := up, window := ⟨0, none, 0⟩ })

/-- R76, R81, R82, R85, R86, R87, R94, R95: what a count does in each curtain state, and the wrap of the capture timer. -/
def Obligations.CaptureAndWindow : Prop :=
  Sys2Proof.Parts.SpeedWindowCounts ∧ Sys2Proof.Parts.CaptureTimerWraps ∧ Sys2Proof.Parts.SlowZoneCounts
    ∧ Sys2Proof.Parts.CountsBeginFall ∧ Sys2Proof.Parts.CountsBesideFall

/-- R77, R89, R98: LIMIT-IN with LIMIT-OUT not asserted: arrival at IN from every other state, with the lines
de-energised, the four timers stopped, the demands but ALARM and CONFLICT removed and an open test closed by its result;
in IN it references the position alone. POSITION-MISMATCH is recorded where the referenced count lies beyond the
tolerance. The test's time in whole milliseconds, rounded down, is log 19's. -/
def Sys2Proof.Parts.LimitInArrives : Prop :=
  ∀ s : State, AlarmLaw s → s.lines.limitIn = false → s.lines.limitOut = false →
    Answers .limitInAsserted s fun t =>
      let mismatch := s.curtain.referenced = true ∧ s.tables.curtain.tolerance.toNat < s.curtain.position
      let fs := if mismatch then addFault s.curtain.faults .positionMismatch else s.curtain.faults
      OnlyTouches (.lines :: alarmReach) s t ∧ t.lines = { s.lines with limitIn := true }
        ∧ (s.curtain.state = .resting →
            t.curtain = { s.curtain with position := 0, referenced := true, faults := fs })
        ∧ (s.curtain.state ≠ .resting → t.curtain = { s.curtain with
                state := .resting, holdDrive := false, raisePermit := false, position := 0, referenced := true
                faults := fs
                demands := ⟨s.curtain.demands.alarm, false, false, false, false, s.curtain.demands.conflict, false⟩
                slowEntry := none, startTimer := none, stallTimer := none, dropTimer := none, raiseTimer := none
                test := t.curtain.test }
            ∧ (s.curtain.test.status ≠ .running → t.curtain.test = s.curtain.test)
            ∧ (s.curtain.test.status = .running → ∃ pass : Bool, t.curtain.test.status = .closed pass
                ∧ t.phase.testValid = pass
                ∧ (pass = true ↔ fs = 0
                    ∧ (s.now - s.curtain.test.started) / 100 ≤ s.tables.curtain.maxDrop.toNat * 1000)))

/-- R77, R80, R90, R94: LIMIT-OUT with LIMIT-IN not asserted, by state. -/
def Sys2Proof.Parts.LimitOutByState : Prop :=
  ∀ s : State, AlarmLaw s → s.lines.limitIn = false → s.lines.limitOut = false →
    Answers .limitOutAsserted s fun t =>
      OnlyTouches (.lines :: alarmReach) s t ∧ t.lines = { s.lines with limitOut := true }
        ∧ t.curtain.position = s.tables.curtain.travel.toNat ∧ t.curtain.referenced = true
        ∧ (s.curtain.state = .raising → t.curtain.state = .out ∧ t.curtain.raisePermit = false
            ∧ t.curtain.holdDrive = s.curtain.holdDrive ∧ t.curtain.startTimer = none ∧ t.curtain.raiseTimer = none)
        ∧ (s.curtain.state = .out → t.curtain = { s.curtain with
            position := t.curtain.position, referenced := true, faults := t.curtain.faults })
        ∧ (s.curtain.state ∈ [.descending, .slowing, .stalled] → t.curtain = { s.curtain with
            position := t.curtain.position, referenced := true, faults := t.curtain.faults, window := ⟨0, none, 0⟩ })
        ∧ (s.curtain.state ∈ [.unknown, .resting] →
            (t.curtain.state = .descending ∨ t.curtain.state = .slowing) ∧ t.curtain.holdDrive = false
              ∧ t.curtain.startTimer = some (s.now + s.tables.curtain.startWindow.toNat * 100)
              ∧ t.curtain.dropTimer = some (s.now + s.tables.curtain.maxDrop.toNat * 100000))

/-- R92, R124: what a limit taken reports to zone 64. Arrival at IN, and at OUT in a raise, is a CLEAR, which a PRE of the
same act does not outlive; elsewhere a POSITION-MISMATCH newly recorded is a PRE; the passage through OUT is no CLEAR, and
an ALARM stays. -/
def Sys2Proof.Parts.Zone64AtLimits : Prop :=
  ∀ s : State, AlarmLaw s → s.lines.limitIn = false → s.lines.limitOut = false →
    let before := (zoneAt s 64).state
    let mismatchAt : Nat → Prop := fun p => s.curtain.referenced = true ∧ hasFault s.curtain .positionMismatch = false
      ∧ s.tables.curtain.tolerance.toNat < max p s.curtain.position - min p s.curtain.position
    let n := s.tables.curtain.travel.toNat
    let atLimit : Instr → (ZoneState → Prop) → Prop := fun c p => Answers c s fun t => p (zoneAt t 64).state
    (before = .alarm → atLimit .limitInAsserted (· = .alarm) ∧ atLimit .limitOutAsserted (· = .alarm))
      ∧ (before ∈ [.quiet, .pre] → s.curtain.state ≠ .resting → atLimit .limitInAsserted (· = .quiet))
      ∧ (before ∈ [.quiet, .pre] → s.curtain.state = .raising → atLimit .limitOutAsserted (· = .quiet))
      ∧ (before = .quiet → s.curtain.state = .resting →
          (mismatchAt 0 → atLimit .limitInAsserted (· = .pre)) ∧ (¬mismatchAt 0 → atLimit .limitInAsserted (· = .quiet)))
      ∧ (before = .quiet → s.curtain.state ∈ [.out, .descending, .slowing, .stalled] →
          (mismatchAt n → atLimit .limitOutAsserted (· = .pre))
            ∧ (¬mismatchAt n → atLimit .limitOutAsserted (· = .quiet)))
      ∧ (before = .quiet → s.curtain.state ∈ [.unknown, .resting] → mismatchAt n → atLimit .limitOutAsserted (· = .pre))
      ∧ (before = .pre → s.curtain.state ≠ .raising → atLimit .limitOutAsserted (· = .pre))
      ∧ (before = .pre → s.curtain.state = .resting → atLimit .limitInAsserted (· = .pre))

/-- R77, R89, R90, R92, R94, R98, R124: each limit asserted with the other released (log 19 for a test's time), and what
zone 64 hears of it. -/
def Obligations.LimitsTaken : Prop :=
  Sys2Proof.Parts.LimitInArrives ∧ Sys2Proof.Parts.LimitOutByState ∧ Sys2Proof.Parts.Zone64AtLimits

/-- R77: a limit that asserts while the other is asserted is a conflict; it ends when either releases, the limit still
asserted being taken as if it had just asserted. Outside a conflict a release has no effect (R90). The passage through
OUT as a conflict ends is log 18's. -/
def Obligations.LimitsInConflict : Prop :=
  ∀ s : State, AlarmLaw s →
    (∀ c ∈ [(Instr.limitInAsserted, s.lines.limitIn, s.lines.limitOut),
        (Instr.limitOutAsserted, s.lines.limitOut, s.lines.limitIn)],
      c.2.1 = false → c.2.2 = true → Answers c.1 s fun t =>
        t.lines = { s.lines with limitIn := true, limitOut := true }
          ∧ t.curtain = { s.curtain with
              state := .unknown, referenced := false, raisePermit := false, holdDrive := false
              demands := { s.curtain.demands with conflict := true }
              faults := addFault s.curtain.faults .limitConflict
              startTimer := none, stallTimer := none, raiseTimer := none })
      ∧ (s.lines.limitIn = true → s.lines.limitOut = true → s.curtain.state = .unknown →
          (Answers (.limitReleased .outLimit) s fun t => t.lines = { s.lines with limitOut := false }
            ∧ t.curtain.state = .resting ∧ t.curtain.demands.conflict = false ∧ t.curtain.position = 0
            ∧ t.curtain.referenced = true)
          ∧ (Answers (.limitReleased .inLimit) s fun t => t.lines = { s.lines with limitIn := false }
            ∧ (t.curtain.state = .descending ∨ t.curtain.state = .slowing) ∧ t.curtain.demands.conflict = false
            ∧ t.curtain.position = s.tables.curtain.travel.toNat ∧ t.curtain.holdDrive = false))
      ∧ (¬(s.lines.limitIn = true ∧ s.lines.limitOut = true) →
          exec (.limitReleased .inLimit) s = .next (endAct (s.withLines { s.lines with limitIn := false }))
            ∧ exec (.limitReleased .outLimit) s = .next (endAct (s.withLines { s.lines with limitOut := false })))

/-- R78, R79, R80: what follows when a member joins an empty drop-demand set, the reasons of the two lines and requests
that add one being alike: from OUT the release, from RAISING the abort, which arrives at IN at once where LIMIT-IN is
asserted. Stated of an assertion of STAGE-RELEASE, which in IN is not held. -/
def Obligations.StageReleasePressed : Prop :=
  ∀ s : State, AlarmLaw s → s.lines.stageRelease = false →
    Answers .stageReleaseAsserted s fun t =>
      let falls := (t.curtain.state = .descending ∨ t.curtain.state = .slowing) ∧ t.curtain.holdDrive = false
        ∧ t.curtain.raisePermit = false ∧ t.curtain.demands = { s.curtain.demands with stageRelease := true }
        ∧ t.curtain.window = ⟨0, none, 0⟩
        ∧ t.curtain.startTimer = some (s.now + s.tables.curtain.startWindow.toNat * 100)
        ∧ t.curtain.dropTimer = some (s.now + s.tables.curtain.maxDrop.toNat * 100000)
      OnlyTouches (.lines :: alarmReach) s t ∧ t.lines = { s.lines with stageRelease := true }
        ∧ (s.curtain.state = .resting → t.curtain = s.curtain)
        ∧ (s.curtain.state ∈ [.unknown, .descending, .slowing, .stalled] → t.curtain =
            { s.curtain with demands := { s.curtain.demands with stageRelease := true } })
        ∧ (s.curtain.demands.any = false → s.curtain.raisePermit = false → s.curtain.state = .out → falls)
        ∧ (s.curtain.demands.any = false → s.lines.limitIn = false → s.curtain.state = .raising →
            falls ∧ t.curtain.raiseTimer = none)
        ∧ (s.curtain.demands.any = false → s.lines.limitIn = true → s.curtain.state = .raising →
            t.curtain.state = .resting ∧ t.curtain.demands.any = false ∧ t.curtain.holdDrive = false)

/-- R96: CURTAIN-RELEASE is answered DONE in every state; in OUT and RAISING it adds REQUEST to the drop-demand set,
which releases the curtain or aborts the raise, and in the other states it changes nothing. -/
def Sys2Proof.Parts.CurtainReleaseRequested : Prop :=
  ∀ (s : State) (tag : Byte), AlarmLaw s → Requested s 15 tag [] →
    (s.curtain.state ∉ [.out, .raising] → DoneWith .curtainRelease s 15 tag [] (dropHead .consoleRx s))
      ∧ (s.curtain.state ∈ [.out, .raising] → ∃ u, DoneWith .curtainRelease s 15 tag [] u
          ∧ (s.curtain.demands.any = true → u = (dropHead .consoleRx s).withCurtain
              { s.curtain with demands := { s.curtain.demands with request := true } })
          ∧ (s.curtain.demands.any = false → (s.curtain.state = .raising → s.lines.limitIn = false) →
              (u.curtain.state = .descending ∨ u.curtain.state = .slowing) ∧ u.curtain.holdDrive = false
                ∧ u.curtain.demands = { s.curtain.demands with request := true })
          ∧ (s.curtain.demands.any = false → s.curtain.state = .raising → s.lines.limitIn = true →
              u.curtain.state = .resting ∧ u.curtain.holdDrive = false ∧ u.curtain.demands.any = false))

/-- R93: the tests of CURTAIN-RAISE in order, and the one act of its acceptance. -/
def Sys2Proof.Parts.CurtainRaiseTested : Prop :=
  ∀ (s : State) (tag : Byte), Requested s 16 tag [] →
    let refused := RefusedWith .curtainRaise s 16 tag
    let free := s.curtain.state = .resting ∧ s.curtain.demands.any = false
    let quiet := s.effects.stage ≠ .staffAlert ∧ s.effects.stage ≠ .evacuate
    (¬free → refused .curtainState)
      ∧ (free → ¬quiet → refused .alarmActive)
      ∧ (free → quiet → s.phase.phase = .recovery → refused .wrongPhase)
      ∧ (free → quiet → s.phase.phase ≠ .recovery → DoneWith .curtainRaise s 16 tag []
          (writeRecord .curtainState 0 1 2 (((dropHead .consoleRx s).withCurtain { s.curtain with
            state := .raising, holdDrive := true, raisePermit := true, faults := 0
            startTimer := some (s.now + s.tables.curtain.startWindow.toNat * 100)
            raiseTimer := some (s.now + s.tables.curtain.maxRaise.toNat * 100000) }).withEffects
              { s.effects with noticeDue := true })))

/-- R97: the tests of CURTAIN-TEST; on acceptance TEST joins the set, the curtain is released and the record opens. -/
def Sys2Proof.Parts.CurtainTestTested : Prop :=
  ∀ (s : State) (tag : Byte), AlarmLaw s → Requested s 17 tag [] →
    let showable := s.phase.phase = .dark ∨ s.phase.phase = .rehearsal
    (s.curtain.state ≠ .out → RefusedWith .curtainTest s 17 tag .curtainState)
      ∧ (s.curtain.state = .out → ¬showable → RefusedWith .curtainTest s 17 tag .wrongPhase)
      ∧ (s.curtain.state = .out → showable → s.curtain.demands.any = false →
          ∃ u, DoneWith .curtainTest s 17 tag [] u
            ∧ (u.curtain.state = .descending ∨ u.curtain.state = .slowing) ∧ u.curtain.holdDrive = false
            ∧ u.curtain.demands = { s.curtain.demands with test := true }
            ∧ u.curtain.test = ⟨.running, s.now, none, none, none, none, none, 0⟩)

/-- R93, R96, R97: the three requests of the Curtain Governor. -/
def Obligations.CurtainRequests : Prop :=
  Sys2Proof.Parts.CurtainReleaseRequested ∧ Sys2Proof.Parts.CurtainRaiseTested ∧ Sys2Proof.Parts.CurtainTestTested

/-- R85: SLOW-SW asserts in DESCENDING: the state becomes SLOWING with its entry at the position, and
SLOW-SWITCH-MISMATCH is recorded where the referenced count stands above S by more than the tolerance; in SLOWING the
state stays; in every other state only the line is taken. Its release, and that of STAGE-RELEASE and of PANEL-FIRE,
takes the line alone (R70, R123). -/
def Obligations.SlowSwitchAndReleases : Prop :=
  ∀ s : State,
    (AlarmLaw s → s.lines.slowSw = false → Answers .slowSwAsserted s fun t =>
      let early := s.curtain.referenced = true
        ∧ s.tables.curtain.slowStart.toNat + s.tables.curtain.tolerance.toNat < s.curtain.position
      let fs := if early then addFault s.curtain.faults .slowSwitchMismatch else s.curtain.faults
      OnlyTouches (.lines :: alarmReach) s t ∧ t.lines = { s.lines with slowSw := true }
        ∧ (s.curtain.state = .descending → t.curtain =
            { s.curtain with state := .slowing, slowEntry := some s.curtain.position, faults := fs })
        ∧ (s.curtain.state = .slowing → t.curtain = { s.curtain with faults := fs })
        ∧ (s.curtain.state ∉ [.descending, .slowing] → t.curtain = s.curtain))
      ∧ exec .slowSwReleased s = .next (s.withLines { s.lines with slowSw := false })
      ∧ exec .stageReleaseReleased s = .next (s.withLines { s.lines with stageRelease := false })
      ∧ exec .panelFireReleased s = .next (s.withLines { s.lines with panelFire := false })

/-- R81, R87, R88: the start window and the stall limit of a fall run out: START-FAIL or STALL is recorded and the state
becomes STALLED; with ALARM in the drop-demand set a newly recorded one brings zone 64 to ALARM (R92, R124). In the
other states the timer stops and nothing else follows. The expiry of a stopped timer has no effect (log 3). -/
def Sys2Proof.Parts.FallTimersRunOut : Prop :=
  ∀ s : State, AlarmLaw s →
    (s.curtain.startTimer = none → exec .startWindowExpiry s = .next s)
      ∧ (s.curtain.stallTimer = none → exec .stallTimerExpiry s = .next s)
      ∧ (s.curtain.startTimer ≠ none → Answers .startWindowExpiry s fun t => OnlyTouches alarmReach s t
          ∧ (s.curtain.state ∈ [.unknown, .descending, .slowing] → t.curtain = { s.curtain with
              state := .stalled, faults := addFault s.curtain.faults .startFail, startTimer := none }
            ∧ (s.curtain.demands.alarm = true → hasFault s.curtain .startFail = false → (zoneAt t 64).state = .alarm))
          ∧ (s.curtain.state ∈ [.resting, .out, .stalled] → t.curtain = { s.curtain with startTimer := none }))
      ∧ (s.curtain.stallTimer ≠ none → Answers .stallTimerExpiry s fun t => OnlyTouches alarmReach s t
          ∧ (s.curtain.state ∈ [.descending, .slowing] → t.curtain = { s.curtain with
              state := .stalled, faults := addFault s.curtain.faults .stall, window := ⟨0, none, 0⟩
              stallTimer := none }
            ∧ (s.curtain.demands.alarm = true → hasFault s.curtain .stall = false → (zoneAt t 64).state = .alarm))
          ∧ (s.curtain.state ∉ [.descending, .slowing] → t.curtain = { s.curtain with stallTimer := none }))

/-- R88, R98, R13: the drop timer runs out: DROP-TIMEOUT is recorded, the state is not changed, and an open test closes
FAIL, which clears curtain-test validity. The expiry of a stopped timer has no effect (log 3). -/
def Sys2Proof.Parts.DropTimerRunsOut : Prop :=
  ∀ s : State, AlarmLaw s →
    (s.curtain.dropTimer = none → exec .dropTimerExpiry s = .next s)
      ∧ (s.curtain.dropTimer ≠ none → Answers .dropTimerExpiry s fun t => OnlyTouches alarmReach s t
          ∧ t.curtain = { s.curtain with
              dropTimer := none, faults := addFault s.curtain.faults .dropTimeout, test := t.curtain.test }
          ∧ (s.curtain.test.status ≠ .running → t.curtain.test = s.curtain.test ∧ t.phase = s.phase)
          ∧ (s.curtain.test.status = .running → t.curtain.test.status = .closed false ∧ t.phase.testValid = false))

/-- R94: a raise that fails by its raise timer or its start window: RAISE-TIMEOUT is recorded, RAISE-FAIL joins the
demands and the raise is aborted; in the other states the raise timer stops and nothing else follows. The expiry of a
stopped timer has no effect (log 3). -/
def Sys2Proof.Parts.RaiseTimersRunOut : Prop :=
  ∀ s : State, AlarmLaw s →
    let failed : State → Prop := fun t => t.curtain.holdDrive = false ∧ t.curtain.raisePermit = false
      ∧ t.curtain.raiseTimer = none ∧ hasFault t.curtain .raiseTimeout = true
      ∧ (s.lines.limitIn = false → (t.curtain.state = .descending ∨ t.curtain.state = .slowing)
          ∧ t.curtain.demands = { s.curtain.demands with raiseFail := true }
          ∧ t.curtain.startTimer = some (s.now + s.tables.curtain.startWindow.toNat * 100))
      ∧ (s.lines.limitIn = true → t.curtain.state = .resting)
    (s.curtain.raiseTimer = none → exec .raiseTimerExpiry s = .next s)
      ∧ (s.curtain.raiseTimer ≠ none → s.curtain.state ≠ .raising →
          exec .raiseTimerExpiry s = .next (endAct (s.withCurtain { s.curtain with raiseTimer := none })))
      ∧ (s.curtain.raiseTimer ≠ none → s.curtain.state = .raising → Answers .raiseTimerExpiry s failed)
      ∧ (s.curtain.startTimer ≠ none → s.curtain.state = .raising → Answers .startWindowExpiry s failed)

/-- R92, R124: a fault that a timer newly records is a PRE to zone 64, but for START-FAIL and STALL with ALARM in the
drop-demand set; a fault already recorded is not reported again, and a PRE or an ALARM stays. A raise that fails with
LIMIT-IN asserted arrives at IN, whose CLEAR ends the PRE. -/
def Sys2Proof.Parts.Zone64AtTimers : Prop :=
  ∀ s : State, AlarmLaw s →
    let before := (zoneAt s 64).state
    let leaves : Instr → ZoneState → Prop := fun c st => Answers c s fun t => (zoneAt t 64).state = st
    let reported : Instr → CurtainFault → Prop := fun c f =>
      (before = .quiet → hasFault s.curtain f = false → leaves c .pre)
        ∧ (before = .quiet → hasFault s.curtain f = true → leaves c .quiet)
        ∧ (before ∈ [.pre, .alarm] → leaves c before)
    (s.curtain.startTimer ≠ none → s.curtain.state ∈ [.unknown, .descending, .slowing] →
        s.curtain.demands.alarm = false → reported .startWindowExpiry .startFail)
      ∧ (s.curtain.stallTimer ≠ none → s.curtain.state ∈ [.descending, .slowing] → s.curtain.demands.alarm = false →
        reported .stallTimerExpiry .stall)
      ∧ (s.curtain.dropTimer ≠ none → reported .dropTimerExpiry .dropTimeout)
      ∧ (s.curtain.state = .raising → ∀ c : Instr,
          (c = .raiseTimerExpiry ∧ s.curtain.raiseTimer ≠ none) ∨ (c = .startWindowExpiry ∧ s.curtain.startTimer ≠ none) →
          (s.lines.limitIn = false → before = .quiet → hasFault s.curtain .raiseTimeout = false → leaves c .pre)
            ∧ (s.lines.limitIn = false → before ∈ [.pre, .alarm] → leaves c before)
            ∧ (s.lines.limitIn = true → before ∈ [.quiet, .pre] → leaves c .quiet))

/-- R81, R87, R88, R92, R94, R98, R124: the four timers of the Curtain Governor run out, and what zone 64 hears of it. -/
def Obligations.CurtainTimersRunOut : Prop :=
  Sys2Proof.Parts.FallTimersRunOut ∧ Sys2Proof.Parts.DropTimerRunsOut ∧ Sys2Proof.Parts.RaiseTimersRunOut
    ∧ Sys2Proof.Parts.Zone64AtTimers

/-! ### The fire zones -/

/-- R102, R105: every step keeps every device map at 16 entries at most, in strictly ascending device order. -/
def Sys2Proof.Parts.MapLawKept : Prop :=
  ∀ s t : State, (∀ z : ZoneId, MapLaw (zoneAt s z)) → step s = .next t → ∀ z : ZoneId, MapLaw (zoneAt t z)

/-- R113: every step keeps at most one zone INVESTIGATING. -/
def Sys2Proof.Parts.OneInvestigatesKept : Prop := ∀ s t : State, OneInvestigates s → step s = .next t →
  OneInvestigates t

/-- R113, R117: every step keeps a zone INVESTIGATING only while the phase permits delay, staff presence is on and the
panel link is UP. -/
def Sys2Proof.Parts.InvestigationLawKept : Prop :=
  ∀ s t : State, InvestigationLaw s → step s = .next t → InvestigationLaw t

/-- R110, R113: a zone enters INVESTIGATING only below EVACUATE, under a row that allows delay, and with the other three
conditions of the confirm decision as the command leaves them. -/
def Sys2Proof.Parts.InvestigationBegins : Prop :=
  ∀ (c : Instr) (s t : State) (z : ZoneId), AlarmLaw s → exec c s = .next t → (zoneAt s z).state ≠ .investigating →
    (zoneAt t z).state = .investigating →
    s.effects.stage ≠ .evacuate ∧ (rowOf t z).delay = 1 ∧ permitsDelay t.phase.phase = true ∧ t.phase.staff = true
      ∧ t.monitor.link = .up

/-- R102, R105, R113: every step keeps the law of the device maps and the law of the investigations. -/
def Obligations.ZoneRecordLawsKept : Prop :=
  Sys2Proof.Parts.MapLawKept ∧ Sys2Proof.Parts.OneInvestigatesKept ∧ Sys2Proof.Parts.InvestigationLawKept
    ∧ Sys2Proof.Parts.InvestigationBegins

/-- R118: every step keeps the law of the isolation windows; AlarmLaw, stated of every step beside it, is its premise. -/
def Sys2Proof.Parts.WindowsLawKept : Prop :=
  ∀ s t : State, AlarmLaw s → WindowsLaw s → step s = .next t → WindowsLaw t

/-- R103: a zone leaves ALARM at an accepted ALARM-RESET and at a power-on sequence, and by no other command. -/
def Obligations.ZoneLeavesAlarm : Prop :=
  ∀ (c : Instr) (s t : State) (z : ZoneId), exec c s = .next t → (zoneAt s z).state = .alarm →
    (zoneAt t z).state ≠ .alarm →
    c = .alarmReset ∨ c = .powerOn ∨ c = .restartPowerOnSequence

/-- R104: the five cases in which a ZONE-REPORT is discarded, tested in order; a discarded report leaves its record and
changes no zone. -/
def Obligations.ReportDiscarded : Prop :=
  ∀ (s : State) (f : Frame) (rest : List Frame), AtHead s .panelRx f rest → frameKind f = 0x30 →
    let body := frameBody f
    let kindOk := (byteAt body 1).toNat ≤ 4
    let discardedAs : Byte → Prop := fun code => exec .takeZoneReport s = .next (endAct (writeRecord .reportDiscarded
      (if body = [] then 0xFF else byteAt body 0) code 0 (dropHead .panelRx s)))
    (body.length ≠ 3 → discardedAs 5)
      ∧ (body.length = 3 → 63 < (byteAt body 0).toNat → discardedAs 1)
      ∧ (body.length = 3 → (byteAt body 0).toNat ≤ 63 → ¬kindOk → discardedAs 4)
      ∧ (body.length = 3 → (byteAt body 0).toNat ≤ 63 → kindOk → byteAt body 2 = 255 → discardedAs 3)
      ∧ (∀ z : ZoneId, body.length = 3 → z.val < 64 → byteAt body 0 = zoneByte z → kindOk → byteAt body 2 ≠ 255 →
          (rowOf s z).cls = 0 → discardedAs 2)

/-- R105, R106, R107, R112: what a NORMAL, a PRE and a FAULT report make of their zone; no other zone changes. -/
def Sys2Proof.Parts.QuietReports : Prop :=
  ∀ (s : State) (z : ZoneId) (n : Byte), AlarmLaw s →
    let r := zoneAt s z
    let knocked := r.state = .firstKnock ∧ r.knock = some n
    let fires : List Device → Bool := fun ds => ds.any fun d => decide (d.condition = .pre) || d.condition.isFire
    let becomes : List Device → ZoneState → Option Byte → Prop := fun ds st k =>
      Answers .takeZoneReport s fun t => OnlyTouches alarmReach s t
        ∧ zoneAt t z = { r with devices := ds, state := st, knock := k }
        ∧ ∀ y : ZoneId, y ≠ z → zoneAt t y = zoneAt s y
    (ReportAt s z .normal n → let ds := removeDevice n r.devices
        (knocked → becomes ds (if fires ds then .pre else .quiet) none)
          ∧ (¬knocked → becomes ds (if r.state = .pre ∧ fires ds = false then .quiet else r.state) r.knock))
      ∧ (ReportAt s z .pre n → let ds := mapAfter r n .pre
        (knocked → becomes ds .pre none)
          ∧ (¬knocked → becomes ds (if r.state = .quiet then .pre else r.state) r.knock))
      ∧ (ReportAt s z .fault n → let ds := mapAfter r n .fault
        (knocked → becomes ds (if fires ds then .pre else .quiet) none)
          ∧ (¬knocked → becomes ds (if r.state = .pre ∧ fires ds = false then .quiet else r.state) r.knock))

/-- R111, R129: a MANUAL report brings its zone to ALARM from every state, window or none, with the exits of R113, sets
its entry where there is room for it, and the stage is EVACUATE. -/
def Sys2Proof.Parts.ManualReportAlarms : Prop :=
  ∀ (s : State) (z : ZoneId) (n : Byte), AlarmLaw s → ReportAt s z .manual n →
    Answers .takeZoneReport s fun t => OnlyTouches alarmReach s t
      ∧ (zoneAt t z).state = .alarm ∧ t.effects.stage = .evacuate
      ∧ (¬(deviceIn (zoneAt s z).devices n = none ∧ 16 ≤ (zoneAt s z).devices.length) →
          deviceIn (zoneAt t z).devices n = some ⟨n, .manual⟩)
      ∧ ((zoneAt s z).state = .investigating → (zoneAt t z).ackTimer = none ∧ (zoneAt t z).invTimer = none
          ∧ (zoneAt t z).acked = false ∧ (zoneAt t z).starters = [])

/-- R105, R106, R107, R111, R112: NORMAL, PRE, FAULT and MANUAL reports. -/
def Obligations.ReportsOfConditions : Prop := Sys2Proof.Parts.QuietReports ∧ Sys2Proof.Parts.ManualReportAlarms

/-- R108, R109, R110, R113, R119: what a FIRE report makes of its zone: a repeat changes nothing, an open window masks it,
a report without room closes an open window with cause OVERFLOW and then acts, and otherwise the zone acts by its state
and coincidence. -/
def Sys2Proof.Parts.FireReportTaken : Prop :=
  ∀ (s : State) (z : ZoneId) (n : Byte), AlarmLaw s → ReportAt s z .fire n →
    let r := zoneAt s z
    let held := deviceIn r.devices n
    let room := ¬(held = none ∧ 16 ≤ r.devices.length)
    let acts : (State → Prop) → Prop := fun p => Answers .takeZoneReport s fun t => OnlyTouches alarmReach s t ∧ p t
    let double := (rowOf s z).coincidence = 1
    (held = some ⟨n, .fire false⟩ → exec .takeZoneReport s = .next (endAct (dropHead .panelRx s)))
      ∧ (held ≠ some ⟨n, .fire false⟩ → room → r.window ≠ none → acts fun t => zoneAt t z = { r with
          devices := setDevice n (.fire true) r.devices, state := if r.state = .quiet then .pre else r.state })
      ∧ (held ≠ some ⟨n, .fire false⟩ → r.window = none → acts fun t =>
          (r.state ∈ [.quiet, .pre] → double → zoneAt t z =
            { r with devices := mapAfter r n (.fire false), state := .firstKnock, knock := some n })
          ∧ (r.state ∈ [.quiet, .pre] → ¬double → ConfirmedAs s t z r n [n])
          ∧ (r.state = .firstKnock → r.knock = some n → zoneAt t z = { r with devices := mapAfter r n (.fire false) })
          ∧ (r.state = .firstKnock → r.knock ≠ some n → ConfirmedAs s t z r n (r.knock.toList ++ [n]))
          ∧ (r.state = .investigating → n ∈ r.starters → zoneAt t z = { r with devices := mapAfter r n (.fire false) })
          ∧ (r.state = .investigating → n ∉ r.starters → (zoneAt t z).state = .alarm ∧ (zoneAt t z).starters = [])
          ∧ (r.state = .alarm → zoneAt t z = { r with devices := mapAfter r n (.fire false) }))
      ∧ (¬room → r.window ≠ none → acts fun t => (zoneAt t z).window = none
          ∧ (MapLaw r → ∀ d ∈ (zoneAt t z).devices, d.condition ≠ .fire true)
          ∧ ((∀ d ∈ r.devices, d.condition ≠ .fire true) →
            let c := { r with window := none }
            (r.state ∈ [.quiet, .pre] → double → zoneAt t z = { c with state := .firstKnock, knock := some n })
              ∧ (r.state ∈ [.quiet, .pre] → ¬double → ConfirmedAs s t z c n [n])
              ∧ (r.state = .firstKnock → r.knock ≠ some n → ConfirmedAs s t z c n (r.knock.toList ++ [n]))))
      ∧ (¬room → r.window ≠ none → (∀ d ∈ r.devices, d.condition ≠ .fire true) → r.state = .firstKnock →
          r.knock = some n →
          let u := writeRecord .deviceOverflow (zoneByte z) n 2 (dropHead .panelRx s)
          exec .takeZoneReport s = .next (endAct (writeRecord .isolationClosed (zoneByte z) 4 0
            (u.withMonitor { u.monitor with zones := modAt u.monitor.zones z fun x => { x with window := none } }))))

/-- R134, R159: the staff call starts on all its areas as a FIRE report brings its zone to INVESTIGATING, and ends
ALERT-OVER when the only investigation is cancelled. The start is stated of a program whose step 0 is a WAIT; that the
record of the end follows that of the stage is log 30's. -/
def Sys2Proof.Parts.StaffCallFollows : Prop :=
  (∀ (s : State) (z : ZoneId) (n : Byte) (p : ProgramId), AlarmLaw s → ReportAt s z .fire n → DelayGranted s z →
    (rowOf s z).coincidence ≠ 1 → (zoneAt s z).state ∈ [.quiet, .pre] → (zoneAt s z).window = none →
    deviceIn (zoneAt s z).devices n ≠ some ⟨n, .fire false⟩ → (∀ y : ZoneId, (zoneAt s y).state ≠ .investigating) →
    callAt s 1 = none → s.calls.pendingList = [] → s.tables.alarm.staffAreas ≠ 0 →
    s.tables.alarm.staffProgram.toNat = p.val → s.tables.programs[p].steps[0].kind = 4 →
    Answers .takeZoneReport s fun t => t.effects.stage = .staffAlert
      ∧ RunsOn t 1 p .alarmStaff s.tables.alarm.staffAreas)
    ∧ ∀ (s : State) (tag b : Byte) (z : ZoneId), AlarmLaw s → OneInvestigates s → Requested s 11 tag [b] →
      b = zoneByte z → (zoneAt s z).state = .investigating → (zoneAt s z).acked = true →
      ∃ u, DoneWith .alarmCancel s 11 tag [] u ∧ callAt u 1 = none
        ∧ ∀ c, callAt s 1 = some c → ∃ r : EventRecord, u.log.ring.getLast? = some r ∧ r.kind = .callEnded
          ∧ r.subject = byteOf c.number ∧ r.detail0 = 6 ∧ r.detail1 = byteOf c.program.val

/-- R108, R109, R110, R113, R119, R134, R159: FIRE reports, and the staff call of an investigation (its record's place: log
30). -/
def Obligations.FireReports : Prop := Sys2Proof.Parts.FireReportTaken ∧ Sys2Proof.Parts.StaffCallFollows

/-- R122: a PANEL-BEAT starts the heartbeat timer afresh, and makes a link that is not UP become UP, changing no zone. -/
def Sys2Proof.Parts.PanelBeatTaken : Prop :=
  ∀ (s : State) (f : Frame) (rest : List Frame), AtHead s .panelRx f rest → frameKind f = 0x31 → AlarmLaw s →
    (s.monitor.link = .up → exec .takePanelBeat s = .next (endAct ((dropHead .panelRx s).withMonitor
        { s.monitor with heartbeat := some (s.now + s.tables.link.heartbeat.toNat * 100000) })))
      ∧ (s.monitor.link ≠ .up → Answers .takePanelBeat s fun t => OnlyTouches alarmReach s t
          ∧ t.monitor = { s.monitor with
              link := .up, heartbeat := some (s.now + s.tables.link.heartbeat.toNat * 100000) }
          ∧ t.phase = s.phase ∧ t.curtain = s.curtain)

/-- R117, R122: the heartbeat timer runs out: the link becomes LOST and an investigating zone goes to ALARM. The expiry
of a stopped timer has no effect (log 3). -/
def Sys2Proof.Parts.HeartbeatLost : Prop :=
  ∀ s : State,
    (s.monitor.heartbeat = none → exec .heartbeatTimerExpiry s = .next s)
      ∧ (s.monitor.heartbeat ≠ none → Answers .heartbeatTimerExpiry s fun t => OnlyTouches alarmReach s t
          ∧ t.monitor.link = .lost ∧ t.monitor.heartbeat = none
          ∧ (∀ z : ZoneId, (zoneAt s z).state = .investigating → (zoneAt t z).state = .alarm)
          ∧ ∀ z : ZoneId, (zoneAt t z).state ≠ .investigating)

/-- R114: the tests and the effect of ALARM-ACK; an investigating zone already acknowledged is answered DONE. -/
def Sys2Proof.Parts.AlarmAcknowledged : Prop :=
  ∀ (s : State) (tag b : Byte), Requested s 9 tag [b] →
    (65 < b.toNat → RefusedWith .alarmAck s 9 tag .badArgument)
      ∧ ∀ z : ZoneId, b = zoneByte z →
          ((zoneAt s z).state ≠ .investigating → RefusedWith .alarmAck s 9 tag .notInvestigating)
            ∧ ((zoneAt s z).state = .investigating → ∃ u, DoneWith .alarmAck s 9 tag [] u
                ∧ OnlyTouches [.monitor, .links] s u
                ∧ zoneAt u z = { zoneAt s z with acked := true, ackTimer := none }
                ∧ (∀ y : ZoneId, y ≠ z → zoneAt u y = zoneAt s y)
                ∧ u.monitor.link = s.monitor.link ∧ u.monitor.heartbeat = s.monitor.heartbeat)

/-- R115, R113: the tests and the effects of ALARM-CONFIRM and ALARM-CANCEL. -/
def Sys2Proof.Parts.InvestigationSettled : Prop :=
  ∀ (s : State) (tag b : Byte), AlarmLaw s →
    let left : Zone → Prop := fun r => r.ackTimer = none ∧ r.invTimer = none ∧ r.acked = false ∧ r.starters = []
    (Requested s 10 tag [b] →
      (65 < b.toNat → RefusedWith .alarmConfirm s 10 tag .badArgument)
        ∧ ∀ z : ZoneId, b = zoneByte z →
          ((zoneAt s z).state ≠ .investigating → RefusedWith .alarmConfirm s 10 tag .notInvestigating)
            ∧ ((zoneAt s z).state = .investigating → ∃ u, DoneWith .alarmConfirm s 10 tag [] u
                ∧ (zoneAt u z).state = .alarm ∧ left (zoneAt u z) ∧ u.effects.stage = .evacuate))
      ∧ (Requested s 11 tag [b] →
        (65 < b.toNat → RefusedWith .alarmCancel s 11 tag .badArgument)
          ∧ ∀ z : ZoneId, b = zoneByte z →
            ((zoneAt s z).state ≠ .investigating → RefusedWith .alarmCancel s 11 tag .notInvestigating)
              ∧ ((zoneAt s z).state = .investigating → (zoneAt s z).acked = false →
                  RefusedWith .alarmCancel s 11 tag .notAcknowledged)
              ∧ ((zoneAt s z).state = .investigating → (zoneAt s z).acked = true →
                  ∃ u, DoneWith .alarmCancel s 11 tag [] u ∧ left (zoneAt u z)
                    ∧ (zoneAt u z).state = .quiet ∧ (zoneAt u z).knock = none
                    ∧ (zoneAt u z).devices = (zoneAt s z).devices.filter
                        (fun d => !(decide (d.condition = .pre) || d.condition.isFire))))

/-- R116: the ack timer of an unacknowledged zone, and the investigation timer of any investigating zone, bring it to
ALARM with the exits of R113. The expiry of a stopped timer has no effect (log 3). -/
def Sys2Proof.Parts.InvestigationTimersRunOut : Prop :=
  ∀ (s : State) (z : ZoneId), AlarmLaw s →
    let alarmed : State → Prop := fun t => OnlyTouches alarmReach s t ∧ (zoneAt t z).state = .alarm
      ∧ t.effects.stage = .evacuate ∧ (zoneAt t z).ackTimer = none ∧ (zoneAt t z).invTimer = none
      ∧ (zoneAt t z).acked = false ∧ (zoneAt t z).starters = []
    ((zoneAt s z).ackTimer = none → exec (.ackTimerExpiry z) s = .next s)
      ∧ ((zoneAt s z).invTimer = none → exec (.investigationTimerExpiry z) s = .next s)
      ∧ ((zoneAt s z).ackTimer ≠ none → (zoneAt s z).state = .investigating → (zoneAt s z).acked = false →
          Answers (.ackTimerExpiry z) s alarmed)
      ∧ ((zoneAt s z).invTimer ≠ none → (zoneAt s z).state = .investigating →
          Answers (.investigationTimerExpiry z) s alarmed)

/-- R114, R115: an investigation acknowledged, confirmed or cancelled by request. -/
def Obligations.Investigations : Prop := Sys2Proof.Parts.AlarmAcknowledged ∧ Sys2Proof.Parts.InvestigationSettled

/-- R116, R117, R122: the panel link and its heartbeat timer, and the timers of an investigation. -/
def Obligations.LinkAndInvestigationTimers : Prop :=
  Sys2Proof.Parts.PanelBeatTaken ∧ Sys2Proof.Parts.HeartbeatLost ∧ Sys2Proof.Parts.InvestigationTimersRunOut

/-- R118: the eight tests of ISOLATE-ZONE in order; a renewal never meets the limit. -/
def Sys2Proof.Parts.IsolateZoneTested : Prop :=
  ∀ (s : State) (tag b hi lo : Byte), Requested s 13 tag [b, hi, lo] →
    let refused := RefusedWith .isolateZone s 13 tag
    let seconds := max 10 (min 900 (hi.toNat * 256 + lo.toNat))
    (63 < b.toNat → refused .badArgument)
      ∧ ∀ z : ZoneId, z.val < 64 → b = zoneByte z →
        let stageRow := (rowOf s z).cls = 1 ∧ (rowOf s z).isolation = 1
        let show_ := s.phase.phase = .rehearsal ∨ s.phase.phase = .performance
        let calm := s.effects.stage ≠ .evacuate ∧ (zoneAt s z).state ≠ .investigating ∧ (zoneAt s z).state ≠ .alarm
        let full := (zoneAt s z).window = none ∧ 4 ≤ openWindows s.monitor.zones
        (¬stageRow → refused .badArgument) ∧ (stageRow → ¬show_ → refused .wrongPhase)
          ∧ (stageRow → show_ → ¬calm → refused .alarmActive) ∧ (stageRow → show_ → calm → full → refused .limit)
          ∧ (stageRow → show_ → calm → ¬full → ∃ u, DoneWith .isolateZone s 13 tag [] u
              ∧ zoneAt u z = { zoneAt s z with window := some (s.now + seconds * 100000) }
              ∧ (∀ y : ZoneId, y ≠ z → zoneAt u y = zoneAt s y)
              ∧ OnlyTouches [.monitor, .links, .log] s u
              ∧ u.log = loggedIn s.log ⟨s.log.next, houseClock s, .isolationOpened, b,
                  (BitVec.ofNat 16 seconds).extractLsb' 8 8, (BitVec.ofNat 16 seconds).extractLsb' 0 8⟩)

/-- R119, R120: a window closes by END-ISOLATION and by its expiry, each with its cause; no masked entry is left in the
zone's map, and where there was none the closing leaves its record alone. A closed window is answered DONE. The expiry
of a closed window has no effect (log 3). -/
def Sys2Proof.Parts.WindowsClose : Prop :=
  ∀ (s : State) (z : ZoneId), z.val < 64 → MapLaw (zoneAt s z) →
    let masked : Zone → Prop := fun r => ∃ d ∈ r.devices, d.condition = .fire true
    let plain : CloseCause → State → State := fun cause u => writeRecord .isolationClosed (zoneByte z) cause.code 0
      (u.withMonitor { u.monitor with zones := modAt u.monitor.zones z fun r => { r with window := none } })
    (∀ tag b : Byte, Requested s 14 tag [b] →
      (63 < b.toNat → RefusedWith .endIsolation s 14 tag .badArgument)
        ∧ (b = zoneByte z → (zoneAt s z).window = none → DoneWith .endIsolation s 14 tag [] (dropHead .consoleRx s))
        ∧ (b = zoneByte z → (zoneAt s z).window ≠ none → ∃ u, DoneWith .endIsolation s 14 tag [] u
            ∧ (zoneAt u z).window = none ∧ ¬masked (zoneAt u z)
            ∧ (¬masked (zoneAt s z) → u = plain .byRequest (dropHead .consoleRx s))))
      ∧ ((zoneAt s z).window = none → exec (.isolationWindowExpiry z) s = .next s)
      ∧ ((zoneAt s z).window ≠ none → Answers (.isolationWindowExpiry z) s fun t => OnlyTouches alarmReach s t
          ∧ (zoneAt t z).window = none ∧ ¬masked (zoneAt t z)
          ∧ (¬masked (zoneAt s z) → t = endAct (plain .expiry s)))

/-- R120: a masked FIRE entry is replayed at its window's closing as a FIRE report that arrives then: it begins the knock
of a DOUBLE zone and the confirm decision of a SINGLE one, or meets the knock that stands; and of two masked entries of a
DOUBLE zone the lower device begins the knock and the other confirms it. -/
def Sys2Proof.Parts.MaskedFiresReplayed : Prop :=
  ∀ (s : State) (z : ZoneId) (n : Byte), AlarmLaw s → z.val < 64 → MapLaw (zoneAt s z) → (zoneAt s z).window ≠ none →
    let r := zoneAt s z
    let c := { r with window := none }
    let double := (rowOf s z).coincidence = 1
    let entered : Byte → List Device := fun d => setDevice d (.fire false) r.devices
    let closing : List Byte → (State → Prop) → Prop := fun masked p =>
      (r.devices.filter fun d => decide (d.condition = .fire true)).map (·.number) = masked →
        Answers (.isolationWindowExpiry z) s p
          ∧ ∀ tag b : Byte, b = zoneByte z → Requested s 14 tag [b] → ∃ u, DoneWith .endIsolation s 14 tag [] u ∧ p u
    closing [n] (fun t =>
        (r.state ∈ [.quiet, .pre] → double →
            zoneAt t z = { c with devices := entered n, state := .firstKnock, knock := some n })
          ∧ (r.state ∈ [.quiet, .pre] → ¬double → ConfirmedAs s t z c n [n])
          ∧ (r.state = .firstKnock → r.knock = some n → zoneAt t z = { c with devices := entered n })
          ∧ (r.state = .firstKnock → r.knock ≠ some n → ConfirmedAs s t z c n (r.knock.toList ++ [n])))
      ∧ ∀ m : Byte, closing [m, n] fun t => r.state ∈ [.quiet, .pre] → double →
          ConfirmedAs s t z { c with devices := entered m } n [m, n]

/-- R118, R119, R120: isolation windows opened, renewed and closed, with their replays. -/
def Obligations.IsolationWindows : Prop :=
  Sys2Proof.Parts.IsolateZoneTested ∧ Sys2Proof.Parts.WindowsClose ∧ Sys2Proof.Parts.MaskedFiresReplayed

/-! ### The alarm stage and its effects -/

/-- R128, R129: every step keeps the effect set the union of the rows of the zones in ALARM, and the stage the highest
whose condition holds. -/
def Obligations.AlarmLawKept : Prop := ∀ s t : State, AlarmLaw s → step s = .next t → AlarmLaw t

/-- R78, R132: every step keeps ALARM in the drop-demand set exactly while the curtain flag is set; AlarmLaw, stated of
every step beside it, is its premise. -/
def Sys2Proof.Parts.DemandLawKept : Prop := ∀ s t : State, AlarmLaw s → DemandLaw s → step s = .next t → DemandLaw t

/-- R78, R118, R132: every step keeps what the alarm binds: the isolation windows and the ALARM demand. -/
def Obligations.AlarmBoundLawsKept : Prop := Sys2Proof.Parts.WindowsLawKept ∧ Sys2Proof.Parts.DemandLawKept

/-- R123, R128 to R132: an assertion of PANEL-FIRE brings zone 65 to ALARM from any other state: the stage is EVACUATE,
row 65 is in the effect set, every isolation window is closed, and a curtain that row 65 calls for is released. Asserted
again, or in ALARM, it changes at most the line (log 3). -/
def Sys2Proof.Parts.PanelFireAlarms : Prop :=
  ∀ s : State, AlarmLaw s →
    (s.lines.panelFire = true → exec .panelFireAsserted s = .next s)
      ∧ (s.lines.panelFire = false → (zoneAt s 65).state = .alarm →
          exec .panelFireAsserted s = .next (endAct (s.withLines { s.lines with panelFire := true })))
      ∧ (s.lines.panelFire = false → (zoneAt s 65).state ≠ .alarm → Answers .panelFireAsserted s fun t =>
          OnlyTouches (.lines :: alarmReach) s t ∧ t.lines = { s.lines with panelFire := true }
            ∧ (zoneAt t 65).state = .alarm ∧ t.effects.stage = .evacuate ∧ AlarmLaw t
            ∧ (s.effects.stage ≠ .evacuate → ∀ z : ZoneId, (zoneAt t z).window = none)
            ∧ ((rowOf s 65).curtainDrop = 1 → s.effects.set.curtain = false → t.curtain.demands.alarm = true)
            ∧ ((rowOf s 65).curtainDrop = 1 → s.effects.set.curtain = false → s.curtain.state = .out →
                s.curtain.demands.any = false → t.curtain.holdDrive = false
                  ∧ (t.curtain.state = .descending ∨ t.curtain.state = .slowing)))

/-- R131, R133, R157, R158: what becomes of the calls as an assertion of PANEL-FIRE brings the stage to EVACUATE: the
staff call and every ordinary call have ended, and the evacuation call runs on every evacuation area; where the stage is
EVACUATE already, a running evacuation call takes the areas that zone 65 adds. The start is stated of a program whose
step 0 is a WAIT. -/
def Sys2Proof.Parts.EvacuationCalls : Prop :=
  ∀ s : State, AlarmLaw s → s.lines.panelFire = false → (zoneAt s 65).state ≠ .alarm →
    (s.effects.stage ≠ .evacuate → PendingLaw s.calls → Answers .panelFireAsserted s fun t =>
        callAt t 1 = none ∧ (∀ e : EntryId, 2 ≤ e.val → callAt t e = none) ∧ t.calls.pendingList = []
          ∧ ∀ p : ProgramId, callAt s 0 = none → t.effects.set.evacuation ≠ 0 →
              s.tables.alarm.evacProgram.toNat = p.val → s.tables.programs[p].steps[0].kind = 4 →
              RunsOn t 0 p .alarmEvac t.effects.set.evacuation)
      ∧ ∀ c : Call, s.effects.stage = .evacuate → callAt s 0 = some c → s.calls.pendingList = [] →
          s.tables.alarm.evacProgram.toNat < 16 →
          (∃ a : AreaId, (rowOf s 65).evacuation.getLsbD a.val = true ∧ s.effects.set.evacuation.getLsbD a.val = false) →
          Answers .panelFireAsserted s fun t =>
            let areas := t.effects.set.evacuation
            callAt t 0 = some { c with
              requested := c.requested ||| (areas &&& ~~~c.held), held := c.held ||| areas }

/-- R46, R132: as an assertion of PANEL-FIRE sets the stage-safe flag, through row 65 or through a fire replayed in the
act, the guards it changes are marked; where the flag stays as it was, no mark is set. -/
def Sys2Proof.Parts.GuardsFollowAlarm : Prop :=
  ∀ s : State, AlarmLaw s → s.lines.panelFire = false → (zoneAt s 65).state ≠ .alarm → Answers .panelFireAsserted s fun t =>
    ((rowOf s 65).stageSafe = 1 → t.effects.set.stageSafe = true)
      ∧ (t.effects.set.stageSafe = s.effects.set.stageSafe → t.stream = s.stream)
      ∧ (t.effects.set.stageSafe ≠ s.effects.set.stageSafe → GuardsMarked s t)

/-- R46, R123, R128 to R133, R138, R157, R158: PANEL-FIRE asserted, with the calls it ends and starts and the guards it makes
safe, and closed through a reset (log 7). -/
def Obligations.PanelFireTaken : Prop :=
  Sys2Proof.Parts.PanelFireAlarms ∧ Sys2Proof.Parts.PanelFireThroughReset ∧ Sys2Proof.Parts.EvacuationCalls
    ∧ Sys2Proof.Parts.GuardsFollowAlarm

/-- R46, R135, R136: the tests of ALARM-RESET in order, and its act: every zone QUIET with its PRE entries removed, the set
emptied, ALARM removed from the demands with the curtain where it is, the guards marked where the stage-safe flag clears,
the evacuation call ended RESET and the staff call ended, and the stage NORMAL or ATTENTION. -/
def Obligations.AlarmResetTested : Prop :=
  ∀ (s : State) (tag : Byte), Requested s 12 tag [] →
    let refused := RefusedWith .alarmReset s 12 tag
    let burning := ∃ z : ZoneId, z.val < 64 ∧ ∃ d ∈ (zoneAt s z).devices,
      d.condition.isFire = true ∨ d.condition = .manual
    let falling := s.curtain.state ∈ [.descending, .slowing, .stalled]
    (s.monitor.link ≠ .up → refused .panelLink)
      ∧ (s.monitor.link = .up → burning ∨ s.lines.panelFire = true → refused .alarmActive)
      ∧ (s.monitor.link = .up → ¬burning → s.lines.panelFire = false → falling → refused .curtainState)
      ∧ (s.monitor.link = .up → ¬burning → s.lines.panelFire = false → ¬falling →
          ∃ u, DoneWith .alarmReset s 12 tag [] u
            ∧ (∀ z : ZoneId, (zoneAt u z).state = .quiet ∧ ((zoneAt s z).state = .quiet → zoneAt u z = zoneAt s z)
                ∧ ((zoneAt s z).state ≠ .quiet → (zoneAt u z).knock = none
                  ∧ (zoneAt u z).devices = (zoneAt s z).devices.filter fun d => decide (d.condition ≠ .pre)))
            ∧ u.effects.set = ⟨false, 0, 0, false⟩
            ∧ u.effects.stage = (if ∃ z : ZoneId, ∃ d ∈ (zoneAt s z).devices, d.condition = .fault
                then .attention else .normal)
            ∧ u.curtain = { s.curtain with demands := { s.curtain.demands with alarm := false } }
            ∧ callAt u 0 = none ∧ callAt u 1 = none
            ∧ (∀ c, callAt s 0 = some c → ∃ r ∈ u.log.ring, r.kind = .callEnded ∧ r.subject = byteOf c.number
                ∧ r.detail0 = 5 ∧ r.detail1 = byteOf c.program.val)
            ∧ (s.effects.set.stageSafe = true → GuardsMarked s u)
            ∧ (s.effects.set.stageSafe = false → u.stream = s.stream)
            ∧ u.phase = s.phase ∧ u.monitor.link = .up)

/-- R137 item 1: the periodic notice is offered to PANEL-TX with the phase, the stage and the curtain state as they
stand, and the notice timer runs again for 1000 ms. The next expiry is counted from the command (log 4). -/
def Sys2Proof.Parts.PeriodicNotice : Prop :=
  ∀ s : State, exec .noticeTimerExpiry s = .next (offer .panelTx
    (mkFrame 0x32 s.tables.link.station [s.phase.phase.code, s.effects.stage.code, s.curtain.state.code])
    (s.withEffects { s.effects with noticeTimer := some (s.now + 100000) }))

/-- R137 item 2, R148: the end of an act. Where the act changed none of the phase, the stage and the curtain state, and no
area came free, it does nothing; where it changed one, a notice with their values is offered to PANEL-TX. The mark of the
change is the model's own (log 14). -/
def Sys2Proof.Parts.ActEnds : Prop :=
  ∀ s : State, s.calls.freed = false →
    (s.effects.noticeDue = false → endAct s = s)
      ∧ (s.effects.noticeDue = true → endAct s = offer .panelTx
          (mkFrame 0x32 s.tables.link.station [s.phase.phase.code, s.effects.stage.code, s.curtain.state.code])
          (s.withEffects { s.effects with noticeDue := false }))

/-- R137 item 2: whatever command changed the phase, the stage or the curtain state, one notice with their values at the
end of the act joins PANEL-TX where there is room, and none where there is none. The power-on sequence and a commit,
which empty the queue, are stated apart. -/
def Sys2Proof.Parts.ActNotice : Prop :=
  ∀ (c : Instr) (s t : State), exec c s = .next t → s.effects.noticeDue = false →
    c ∉ [.powerOn, .restartPowerOnSequence] → ¬(c = .setPhase ∧ s.phase.phase = .maintenance) →
    (t.phase.phase ≠ s.phase.phase ∨ t.effects.stage ≠ s.effects.stage ∨ t.curtain.state ≠ s.curtain.state) →
    let frames := s.links.queues[QueueId.panelTx.ix].frames
    let notice := mkFrame 0x32 s.tables.link.station [t.phase.phase.code, t.effects.stage.code, t.curtain.state.code]
    (12 ≤ freeBytes s.tables s.links .panelTx → t.links.queues[QueueId.panelTx.ix].frames = frames ++ [notice])
      ∧ (freeBytes s.tables s.links .panelTx < 12 → t.links.queues[QueueId.panelTx.ix].frames = frames)

/-! ### The front-of-house calls -/

/-- R142, R146: every step keeps the law of the areas: an area is held by at most one call, and a PENDING call holds
none and is an ordinary one. -/
def Sys2Proof.Parts.AreasLawKept : Prop := ∀ s t : State, HolderLaw s.calls → step s = .next t → HolderLaw t.calls

/-- R146, R149: every step keeps the pending list that of the PENDING calls. -/
def Sys2Proof.Parts.PendingLawKept : Prop := ∀ s t : State, PendingLaw s.calls → step s = .next t → PendingLaw t.calls

/-- R5, R25, R29: every step keeps the tables in force valid. -/
def Sys2Proof.Parts.TablesLawKept : Prop := ∀ s t : State, TablesLaw s → step s = .next t → TablesLaw t

/-- R139, R142, R146: every step keeps the order of the pending list, and no PENDING call requests an area held by a call
of lower priority; the laws of the tables, of the areas and of the list's members, stated beside it, are its premises. -/
def Sys2Proof.Parts.WaitingLawKept : Prop :=
  ∀ s t : State, TablesLaw s → HolderLaw s.calls → PendingLaw s.calls → WaitingLaw s → step s = .next t → WaitingLaw t

/-- R157: every step keeps no ordinary call while the stage is EVACUATE or the phase permits none; the law of the pending
list is its premise. -/
def Sys2Proof.Parts.SuppressionLawKept : Prop :=
  ∀ s t : State, PendingLaw s.calls → SuppressionLaw s → step s = .next t → SuppressionLaw t

/-- R5, R25, R29, R142, R146, R149, R157: every step keeps the tables in force valid, and the laws of the areas, of the
pending list, of the waiting calls and of suppression. -/
def Obligations.HolderLawKept : Prop :=
  Sys2Proof.Parts.AreasLawKept ∧ Sys2Proof.Parts.PendingLawKept ∧ Sys2Proof.Parts.TablesLawKept
    ∧ Sys2Proof.Parts.WaitingLawKept ∧ Sys2Proof.Parts.SuppressionLawKept

/-- R145, R146: the tests of START-CALL in order; and a call whose areas nothing blocks starts at once: it takes the
next free number, every area it asks for, and the lowest free entry of 2–9. Stated in full of a program whose step 0 is
a WAIT, so that nothing else happens in the act. -/
def Sys2Proof.Parts.StartCallTested : Prop :=
  ∀ (s : State) (tag b x y z : Byte), Requested s 6 tag [b, x, y, z] →
    let refused := RefusedWith .startCall s 6 tag
    let areas := word24 x y z
    let named := areas ≠ 0 ∧ ∀ a : AreaId, areas.getLsbD a.val = true → s.tables.areas[a].kind ≠ 0
    (15 < b.toNat → refused .badArgument)
      ∧ ∀ p : ProgramId, b.toNat = p.val →
        let cls := s.tables.programs[p].cls.toNat
        let open_ := s.phase.phase ∉ [.maintenance, .dark, .recovery]
        let calm := s.effects.stage ≠ .evacuate
        let full := ∀ e : EntryId, 2 ≤ e.val → callAt s e ≠ none
        (¬named → refused .badArgument) ∧ (named → cls < 2 → refused .reservedProgram)
          ∧ (named → 2 ≤ cls → ¬open_ → refused .wrongPhase)
          ∧ (named → 2 ≤ cls → open_ → ¬calm → refused .alarmActive)
          ∧ (named → 2 ≤ cls → open_ → calm → full → refused .limit)
          ∧ (named → 2 ≤ cls → open_ → calm → ∀ e : EntryId, 2 ≤ e.val → callAt s e = none →
              (∀ d : EntryId, 2 ≤ d.val → d.val < e.val → callAt s d ≠ none) →
              s.calls.pendingList = [] → s.calls.freed = false →
              (∀ a : AreaId, areas.getLsbD a.val = true → holderOf s.calls a = none) →
              let st := s.tables.programs[p].steps[0]
              st.kind = 4 → numberInUse s.calls s.calls.nextNumber = false →
              ∃ u, DoneWith .startCall s 6 tag [byteOf s.calls.nextNumber, 0] u
                ∧ OnlyTouches [.calls, .links, .log] s u
                ∧ callAt u e = some ⟨s.calls.nextNumber, p, cls, .request, areas, areas, true, 0, Vector.replicate 12 0,
                    some (s.now + (word16 st.a st.b).toNat * 5000), [], none, none⟩
                ∧ (∀ d : EntryId, d ≠ e → callAt u d = callAt s d)
                ∧ u.calls.nextNumber = (if 255 ≤ s.calls.nextNumber then 1 else s.calls.nextNumber + 1)
                ∧ u.log = loggedIn s.log ⟨s.log.next, houseClock s, .callStarted, byteOf s.calls.nextNumber, b, 0⟩)

/-- R146 cases 2 and 3: a call an area of which is blocked by a holder of equal or higher priority ends EXPIRED at once
where its start deadline is 0, and otherwise waits at its place in the pending list with its deadline timer running. The
cursor 0 of a PENDING call is log 29's. -/
def Sys2Proof.Parts.BlockedCallWaits : Prop :=
  ∀ (s : State) (tag b x y z : Byte) (p : ProgramId) (e l : EntryId) (c : Call) (a : AreaId),
    Requested s 6 tag [b, x, y, z] → b.toNat = p.val → 2 ≤ s.tables.programs[p].cls.toNat →
    s.phase.phase ∉ [.maintenance, .dark, .recovery] → s.effects.stage ≠ .evacuate →
    (∀ i : AreaId, (word24 x y z).getLsbD i.val = true → s.tables.areas[i].kind ≠ 0) →
    2 ≤ e.val → callAt s e = none → (∀ d : EntryId, 2 ≤ d.val → d.val < e.val → callAt s d ≠ none) →
    word24 x y z = oneArea a → holderOf s.calls a = some l → callAt s l = some c →
    c.priority ≤ s.tables.programs[p].cls.toNat → s.calls.pendingList = [] → s.calls.freed = false →
    numberInUse s.calls s.calls.nextNumber = false →
    let n := s.calls.nextNumber
    let deadline := s.tables.programs[p].deadline.toNat
    (deadline = 0 → ∃ u, DoneWith .startCall s 6 tag [byteOf n, 2] u
        ∧ u.calls = { s.calls with nextNumber := numberAfter n }
        ∧ u.log = loggedIn s.log ⟨s.log.next, houseClock s, .callEnded, byteOf n, 1, b⟩)
      ∧ (deadline ≠ 0 → ∃ u, DoneWith .startCall s 6 tag [byteOf n, 1] u ∧ u.log = s.log
        ∧ u.calls.pendingList = [e] ∧ callAt u l = some c
        ∧ callAt u e = some ⟨n, p, s.tables.programs[p].cls.toNat, .request, oneArea a, 0, false, 0,
            Vector.replicate 12 0, none, [], none, some (s.now + deadline * 100000)⟩)

/-- R156: the tests of CANCEL-CALL; an ordinary call ends, and its entry is free. -/
def Sys2Proof.Parts.CancelCallTested : Prop :=
  ∀ (s : State) (tag b : Byte), Requested s 7 tag [b] →
    ((∀ (e : EntryId) (c : Call), callAt s e = some c → c.number ≠ b.toNat) →
      RefusedWith .cancelCall s 7 tag .noSuchCall)
      ∧ ∀ (e : EntryId) (c : Call), callAt s e = some c → c.number = b.toNat →
          (∀ (d : EntryId) (x : Call), callAt s d = some x → x.number = b.toNat → d = e) →
          (e.val < 2 → RefusedWith .cancelCall s 7 tag .reservedProgram)
            ∧ (2 ≤ e.val → ∃ u, DoneWith .cancelCall s 7 tag [] u ∧ callAt u e = none
                ∧ OnlyTouches [.calls, .links, .log] s u)

/-- R146 case 1, R147: a call takes the one area it asks for from a holder of lower priority: STOP goes to the area's
unit, whose flash state becomes INACTIVE; the loser ends PREEMPTED where that was its last area, goes on with the areas
it keeps, or ends a MESSAGE step of which that unit was the last awaited, here into a WAIT. The new call's step 0 is a
WAIT. -/
def Sys2Proof.Parts.CallPreempts : Prop :=
  ∀ (s : State) (tag b x y z : Byte) (p : ProgramId) (e l : EntryId) (c : Call) (a : AreaId),
    Requested s 6 tag [b, x, y, z] → b.toNat = p.val → 2 ≤ s.tables.programs[p].cls.toNat →
    s.phase.phase ∉ [.maintenance, .dark, .recovery] → s.effects.stage ≠ .evacuate →
    word24 x y z = oneArea a → s.tables.areas[a].kind ≠ 0 →
    2 ≤ e.val → callAt s e = none → (∀ d : EntryId, 2 ≤ d.val → d.val < e.val → callAt s d ≠ none) →
    holderOf s.calls a = some l → callAt s l = some c → s.tables.programs[p].cls.toNat < c.priority →
    s.calls.pendingList = [] → s.calls.freed = false → numberInUse s.calls s.calls.nextNumber = false →
    (unitOf s.tables a = none ∨ 12 ≤ freeBytes s.tables s.links .rackExpress) →
    s.tables.programs[p].steps[0].kind = 4 →
    let n := s.calls.nextNumber
    let st := s.tables.programs[p].steps[0]
    let next := stepAt s.tables { c with cursor := c.cursor + 1 }
    let kept := dropArea c.held a
    let left := c.awaiting.filter fun u => decide (unitOf s.tables a ≠ some u)
    let started : Word32 → EventRecord := fun seq => ⟨seq, houseClock s, .callStarted, byteOf n, b, 0⟩
    let ended : EventRecord := ⟨s.log.next, houseClock s, .callEnded, byteOf c.number, 2, byteOf c.program.val⟩
    let taken : (State → Prop) → Prop := fun loser => ∃ u, DoneWith .startCall s 6 tag [byteOf n, 0] u
      ∧ callAt u e = some ⟨n, p, s.tables.programs[p].cls.toNat, .request, oneArea a, oneArea a, true, 0,
          Vector.replicate 12 0, some (s.now + (word16 st.a st.b).toNat * 5000), [], none, none⟩
      ∧ (∀ d : EntryId, d ≠ e → d ≠ l → callAt u d = callAt s d) ∧ u.calls.flash[a] = .inactive
      ∧ u.links.queues[QueueId.rackExpress.ix].frames = s.links.queues[QueueId.rackExpress.ix].frames
        ++ (unitOf s.tables a).toList.map stopFrame
      ∧ loser u
    (kept = 0 → taken fun u => callAt u l = none
        ∧ u.log = loggedIn (loggedIn s.log ended) (started (nextSeq s.log.next)))
      ∧ (kept ≠ 0 → (c.awaiting = [] ∨ left ≠ []) → taken fun u =>
          callAt u l = some { c with held := kept, awaiting := left } ∧ u.log = loggedIn s.log (started s.log.next))
      ∧ (kept ≠ 0 → c.awaiting ≠ [] → left = [] → next.kind = 4 → taken fun u =>
          callAt u l = some { c with
            held := kept, cursor := c.cursor + 1, awaiting := [], flash := none
            stepTimer := some (s.now + (word16 next.a next.b).toNat * 5000) }
          ∧ u.log = loggedIn s.log (started s.log.next))

/-- R145, R146, R147, R156: START-CALL, with the pre-emption of a holder, and CANCEL-CALL. -/
def Obligations.StartAndCancelTested : Prop :=
  Sys2Proof.Parts.StartCallTested ∧ Sys2Proof.Parts.CancelCallTested ∧ Sys2Proof.Parts.CallPreempts

/-- R162: EXTEND-INTERVAL outside INTERVAL, and in it: the time clamped to 10–900 s is added to the remaining time, held
at 65535 s, a stopped clock starts again, and the reply carries the new remaining time. -/
def Sys2Proof.Parts.ExtendIntervalTested : Prop :=
  ∀ (s : State) (tag hi lo : Byte), Requested s 8 tag [hi, lo] →
    let n := min 65535 (s.calls.remaining + max 10 (min 900 (hi.toNat * 256 + lo.toNat)))
    (s.phase.phase ≠ .interval → RefusedWith .extendInterval s 8 tag .wrongPhase)
      ∧ (s.phase.phase = .interval → DoneWith .extendInterval s 8 tag [byteOf (n / 256), byteOf n]
          ((dropHead .consoleRx s).withCalls { s.calls with
            remaining := n, clock := if s.calls.clock = none then some (s.now + 100000) else s.calls.clock }))

/-- R150, R152, R154, R144: a CHIME or a WAIT step's time has run: the next step begins in the same act. A WAIT starts
the step timer, a FLASH turns the held areas LOW, and an END ends the call DONE, whose areas are free. The expiry of a
stopped timer has no effect (log 3). -/
def Sys2Proof.Parts.TimedStepEnds : Prop :=
  ∀ (s : State) (e : EntryId) (c : Call), callAt s e = some c → c.running = true → s.calls.freed = false →
    ∀ k ∈ [(Instr.chimeStepExpiry e, (1 : Byte)), (Instr.waitStepExpiry e, (4 : Byte))],
      (stepAt s.tables c).kind = k.2 →
      let st := stepAt s.tables { c with cursor := c.cursor + 1 }
      let next : Call := { c with cursor := c.cursor + 1, stepTimer := none, awaiting := [], flash := none }
      (c.stepTimer = none → exec k.1 s = .next s)
        ∧ (c.stepTimer ≠ none → st.kind = 4 → exec k.1 s = .next (s.withCalls { s.calls with
            table := putAt s.calls.table e (some { next with
              stepTimer := some (s.now + (word16 st.a st.b).toNat * 5000) }) }))
        ∧ (c.stepTimer ≠ none → st.kind = 3 → Answers k.1 s fun t => OnlyTouches [.calls] s t
            ∧ callAt t e = some { next with
                stepTimer := some (s.now + st.b.toNat * 5000), flash := some ⟨true, 0⟩ }
            ∧ (∀ a : AreaId, t.calls.flash[a] = if c.held.getLsbD a.val then .low else s.calls.flash[a])
            ∧ ∀ d : EntryId, d ≠ e → callAt t d = callAt s d)
        ∧ (c.stepTimer ≠ none → st.kind = 0 → s.calls.pendingList = [] → Answers k.1 s fun t =>
            OnlyTouches [.calls, .links, .log] s t ∧ callAt t e = none
              ∧ (∀ d : EntryId, d ≠ e → callAt t d = callAt s d)
              ∧ (∀ a : AreaId, t.calls.flash[a] = if c.held.getLsbD a.val then .inactive else s.calls.flash[a])
              ∧ t.log = loggedIn s.log
                  ⟨s.log.next, houseClock s, .callEnded, byteOf c.number, 0, byteOf c.program.val⟩)

/-- R150 to R153: as a WAIT ends, a CHIME or a MESSAGE step begins: CHIME with its tone and strikes, or PLAY with its
message, goes to the unit of each held area in ascending order; a CHIME runs for its strikes times the spacing, a MESSAGE
awaits those units for its limit. A command without room is dropped and the call carries on. -/
def Sys2Proof.Parts.UnitStepBegins : Prop :=
  ∀ (s : State) (e : EntryId) (c : Call), callAt s e = some c → c.running = true → s.calls.freed = false →
    c.stepTimer ≠ none → (stepAt s.tables c).kind = 4 →
    let st := stepAt s.tables { c with cursor := c.cursor + 1 }
    let next : Call := { c with cursor := c.cursor + 1, stepTimer := none, awaiting := [], flash := none }
    let units := (areasOf c.held).filterMap (unitOf s.tables)
    let free := freeBytes s.tables s.links .rackExpress
    let begins : Call → (Byte → Frame) → Prop := fun d command => Answers (.waitStepExpiry e) s fun t =>
      let old := s.links.queues[QueueId.rackExpress.ix].frames
      let now := t.links.queues[QueueId.rackExpress.ix].frames
      OnlyTouches [.calls, .links, .log] s t
        ∧ t.calls = { s.calls with table := putAt s.calls.table e (some d) }
        ∧ (units.length * 12 ≤ free → now = old ++ units.map command ∧ t.log = s.log)
        ∧ (free < 12 → now = old)
    (st.kind = 1 → begins { next with
        stepTimer := some (s.now + st.b.toNat * s.tables.schedule.spacing.toNat * 100) }
          fun unit => mkFrame 0x40 unit [1, st.a, st.b])
      ∧ (st.kind = 2 → begins { next with stepTimer := some (s.now + st.b.toNat * 100000), awaiting := units }
          fun unit => mkFrame 0x40 unit [2, st.a, 0])

/-- R155: a REPEAT step acts as it begins: FOREVER, or below its count with the counter raised, it moves the cursor to its
target, and otherwise, with the counter 0, to the step behind it; the step it moves to begins in the same act, here a
WAIT. -/
def Sys2Proof.Parts.RepeatStepActs : Prop :=
  ∀ (s : State) (e : EntryId) (c : Call) (i : Fin 12), callAt s e = some c → c.running = true → s.calls.freed = false →
    c.stepTimer ≠ none → (stepAt s.tables c).kind = 4 → i.val = c.cursor + 1 →
    let st := s.tables.programs[c.program].steps[i]
    let moves : Nat → Vector Nat 12 → Prop := fun to_ counters =>
      let d : Call := { c with cursor := to_, counters := counters, awaiting := [], flash := none }
      let dest := stepAt s.tables d
      dest.kind = 4 → exec (.waitStepExpiry e) s = .next (s.withCalls { s.calls with
        table := putAt s.calls.table e (some { d with
          stepTimer := some (s.now + (word16 dest.a dest.b).toNat * 5000) }) })
    st.kind = 5 →
      (st.b = 255 → moves st.a.toNat c.counters)
        ∧ (st.b ≠ 255 → c.counters[i] < st.b.toNat → moves st.a.toNat (putAt c.counters i (c.counters[i] + 1)))
        ∧ (st.b ≠ 255 → st.b.toNat ≤ c.counters[i] → moves (i.val + 1) (putAt c.counters i 0))

/-- R144, R150 to R155: a CHIME or a WAIT step's time has run, and the next step, of whichever kind, begins. -/
def Obligations.StepTimeRuns : Prop :=
  Sys2Proof.Parts.TimedStepEnds ∧ Sys2Proof.Parts.UnitStepBegins ∧ Sys2Proof.Parts.RepeatStepActs

/-- R153, R173: a CALL-DONE from an awaited unit of a MESSAGE step, with its message, takes the unit from the awaiting
units, and the last of them ends the step; any other is taken and ignored. At the limit a MESSAGE-TIMEOUT is written for
each unit still awaited and the step ends. The step's end is stated where the next step is a WAIT. The expiry of a
stopped timer has no effect (log 3). -/
def Obligations.MessageStepEnds : Prop :=
  ∀ (s : State) (e : EntryId) (c : Call), callAt s e = some c → c.running = true → s.calls.freed = false →
    (stepAt s.tables c).kind = 2 →
    let message := (stepAt s.tables c).a
    let st := stepAt s.tables { c with cursor := c.cursor + 1 }
    let ended : State → State := fun u => u.withCalls { s.calls with table := putAt s.calls.table e (some { c with
      cursor := c.cursor + 1, stepTimer := some (s.now + (word16 st.a st.b).toNat * 5000), awaiting := []
      flash := none }) }
    (c.stepTimer = none → exec (.messageLimitExpiry e) s = .next s)
      ∧ (c.stepTimer ≠ none → st.kind = 4 → exec (.messageLimitExpiry e) s = .next (ended
          (c.awaiting.foldl (fun x unit => writeRecord .messageTimeout (byteOf c.number) unit message x) s)))
      ∧ ∀ (f : Frame) (rest : List Frame), AtHead s .rackRx f rest → frameKind f = 0x41 →
          let unit := frameStation f
          let left := c.awaiting.filter fun x => x != unit
          let ignored := exec .takeCallDone s = .next (dropHead .rackRx s)
          ((frameBody f).length ≠ 1 → ignored) ∧ (areaOfUnit s.tables unit = none → ignored)
            ∧ ∀ (a : AreaId) (m : Byte), areaOfUnit s.tables unit = some a → frameBody f = [m] →
              (holderOf s.calls a = none → ignored)
                ∧ (holderOf s.calls a = some e → m ≠ message ∨ unit ∉ c.awaiting → ignored)
                ∧ (holderOf s.calls a = some e → m = message → unit ∈ c.awaiting → left ≠ [] →
                    exec .takeCallDone s = .next ((dropHead .rackRx s).withCalls
                      { s.calls with table := putAt s.calls.table e (some { c with awaiting := left }) }))
                ∧ (holderOf s.calls a = some e → m = message → unit ∈ c.awaiting → left = [] → st.kind = 4 →
                    exec .takeCallDone s = .next (ended (dropHead .rackRx s)))

/-- R154: the timer of a FLASH step: after the low part the flashed areas go HIGH for the rest of the period; after the
high part they go LOW again while cycles are left, and otherwise INACTIVE as the step ends, here into a WAIT. An area
the call gained during the step stays INACTIVE. The expiry of a stopped timer has no effect (log 3). -/
def Obligations.FlashTurns : Prop :=
  ∀ (s : State) (e : EntryId) (c : Call) (p : FlashProgress), callAt s e = some c → c.running = true →
    s.calls.freed = false → (stepAt s.tables c).kind = 3 → c.flash = some p →
    let st := stepAt s.tables c
    let next := stepAt s.tables { c with cursor := c.cursor + 1 }
    let turned : FlashState → State → Prop := fun f t => ∀ a : AreaId, t.calls.flash[a] =
      if c.held.getLsbD a.val ∧ s.calls.flash[a] ≠ .inactive then f else s.calls.flash[a]
    (c.stepTimer = none → exec (.flashTimerExpiry e) s = .next s)
      ∧ (c.stepTimer ≠ none → p.low = true → Answers (.flashTimerExpiry e) s fun t => OnlyTouches [.calls] s t
          ∧ turned .high t
          ∧ callAt t e = some { c with
              stepTimer := some (s.now + (st.a.toNat - st.b.toNat) * 5000), flash := some ⟨false, p.cycles⟩ })
      ∧ (c.stepTimer ≠ none → p.low = false → p.cycles + 1 < st.c.toNat → Answers (.flashTimerExpiry e) s fun t =>
          OnlyTouches [.calls] s t ∧ turned .low t ∧ callAt t e = some { c with
            stepTimer := some (s.now + st.b.toNat * 5000), flash := some ⟨true, p.cycles + 1⟩ })
      ∧ (c.stepTimer ≠ none → p.low = false → st.c.toNat ≤ p.cycles + 1 → next.kind = 4 →
          Answers (.flashTimerExpiry e) s fun t => OnlyTouches [.calls] s t ∧ turned .inactive t
            ∧ callAt t e = some { c with cursor := c.cursor + 1, awaiting := [], flash := none
                                         stepTimer := some (s.now + (word16 next.a next.b).toNat * 5000) })

/-- R149, R144: the deadline timer of a PENDING call runs out: it ends EXPIRED and its entry is free; a call whose
deadline timer is stopped is not touched (log 3). -/
def Sys2Proof.Parts.DeadlineRunsOut : Prop :=
  ∀ (s : State) (e : EntryId) (c : Call), callAt s e = some c →
    (c.deadline = none → exec (.deadlineTimerExpiry e) s = .next s)
      ∧ (c.deadline ≠ none → Answers (.deadlineTimerExpiry e) s fun t => OnlyTouches [.calls, .links, .log] s t
          ∧ callAt t e = none
          ∧ (s.calls.pendingList = [e] → s.calls.freed = false → c.held = 0 →
              t.calls = { s.calls with table := putAt s.calls.table e none, pendingList := [] }
              ∧ t.log = loggedIn s.log
                  ⟨s.log.next, houseClock s, .callEnded, byteOf c.number, 1, byteOf c.program.val⟩))

/-- R146 case 3, R147: a call that must wait for one of its two areas pre-empts the lower holder of the other, which
ends PREEMPTED with its last area, and leaves that area with no holder. The cursor 0 of a PENDING call is log 29's. -/
def Sys2Proof.Parts.WaitingCallPreempts : Prop :=
  ∀ (s : State) (tag b x y z : Byte) (p : ProgramId) (e k l : EntryId) (d c : Call) (a f : AreaId),
    HolderLaw s.calls → Requested s 6 tag [b, x, y, z] → b.toNat = p.val → 2 ≤ s.tables.programs[p].cls.toNat →
    s.phase.phase ∉ [.maintenance, .dark, .recovery] → s.effects.stage ≠ .evacuate → a ≠ f →
    word24 x y z = oneArea a ||| oneArea f → s.tables.areas[a].kind ≠ 0 → s.tables.areas[f].kind ≠ 0 →
    2 ≤ e.val → callAt s e = none → (∀ i : EntryId, 2 ≤ i.val → i.val < e.val → callAt s i ≠ none) →
    holderOf s.calls a = some k → callAt s k = some d → d.priority ≤ s.tables.programs[p].cls.toNat →
    holderOf s.calls f = some l → callAt s l = some c → s.tables.programs[p].cls.toNat < c.priority →
    c.held = oneArea f → s.calls.pendingList = [] → numberInUse s.calls s.calls.nextNumber = false →
    s.tables.programs[p].deadline ≠ 0 →
    (unitOf s.tables f = none ∨ 12 ≤ freeBytes s.tables s.links .rackExpress) →
    let n := s.calls.nextNumber
    ∃ u, DoneWith .startCall s 6 tag [byteOf n, 1] u ∧ callAt u l = none ∧ callAt u k = some d
      ∧ holderOf u.calls f = none ∧ u.calls.pendingList = [e]
      ∧ callAt u e = some ⟨n, p, s.tables.programs[p].cls.toNat, .request, oneArea a ||| oneArea f, 0, false, 0,
          Vector.replicate 12 0, none, [], none, some (s.now + s.tables.programs[p].deadline.toNat * 100000)⟩
      ∧ u.log = loggedIn s.log
          ⟨s.log.next, houseClock s, .callEnded, byteOf c.number, 2, byteOf c.program.val⟩
      ∧ u.links.queues[QueueId.rackExpress.ix].frames = s.links.queues[QueueId.rackExpress.ix].frames
        ++ (unitOf s.tables f).toList.map stopFrame

/-- R144, R148: as a call ends DONE its areas become free, and the call at the head of the pending list, which nothing
else blocks, starts in the same act: it leaves the list, its deadline timer stops, and it takes every area it asked for.
Its step 0 is a WAIT. -/
def Sys2Proof.Parts.PendingCallStarts : Prop :=
  ∀ (s : State) (e w : EntryId) (c d : Call), callAt s e = some c → c.running = true → c.stepTimer ≠ none →
    c.held ≠ 0 → (stepAt s.tables c).kind = 4 → (stepAt s.tables { c with cursor := c.cursor + 1 }).kind = 0 →
    s.calls.pendingList = [w] → callAt s w = some d → d.running = false → d.held = 0 →
    (∀ (i : EntryId) (x : Call), i ≠ e → callAt s i = some x → x.running = true → x.held &&& d.requested = 0) →
    let st := s.tables.programs[d.program].steps[0]
    st.kind = 4 →
    Answers (.waitStepExpiry e) s fun t => OnlyTouches [.calls, .links, .log] s t
      ∧ callAt t e = none ∧ t.calls.pendingList = []
      ∧ callAt t w = some { d with
          held := d.requested, running := true, cursor := 0, awaiting := [], flash := none, deadline := none
          stepTimer := some (s.now + (word16 st.a st.b).toNat * 5000) }
      ∧ (∀ i : EntryId, i ≠ e → i ≠ w → callAt t i = callAt s i)
      ∧ t.log = loggedIn (loggedIn s.log
          ⟨s.log.next, houseClock s, .callEnded, byteOf c.number, 0, byteOf c.program.val⟩)
          ⟨nextSeq s.log.next, houseClock s, .callStarted, byteOf d.number, byteOf d.program.val, d.origin.code⟩

/-- R157: a change from REHEARSAL to DARK suppresses the ordinary calls, the PENDING call first: each ends SUPPRESSED,
with STOP to the units of the areas the RUNNING one holds. -/
def Sys2Proof.Parts.CallsSuppressed : Prop :=
  ∀ (s : State) (tag : Byte) (e w : EntryId) (c d : Call), Requested s 3 tag [1] → s.phase.phase = .rehearsal →
    s.phase.staff = false → s.effects.stage ≠ .evacuate →
    (∀ z : ZoneId, (zoneAt s z).state ≠ .investigating ∧ (zoneAt s z).window = none) →
    2 ≤ e.val → callAt s e = some c → c.running = true → s.calls.pendingList = [w] → callAt s w = some d →
    d.running = false → (∀ i : EntryId, 2 ≤ i.val → i ≠ e → i ≠ w → callAt s i = none) →
    288 ≤ freeBytes s.tables s.links .rackExpress →
    let stamp : EventKind → Word32 → Byte → Byte → Byte → EventRecord := fun k seq x y z =>
      ⟨seq, houseClock s, k, x, y, z⟩
    let one := nextSeq s.log.next
    ∃ u, DoneWith .setPhase s 3 tag [1] u ∧ callAt u e = none ∧ callAt u w = none ∧ u.calls.pendingList = []
      ∧ u.links.queues[QueueId.rackExpress.ix].frames = s.links.queues[QueueId.rackExpress.ix].frames
        ++ ((areasOf c.held).filterMap (unitOf s.tables)).map stopFrame
      ∧ (∀ a : AreaId, c.held.getLsbD a.val = true → u.calls.flash[a] = .inactive)
      ∧ u.log = loggedIn (loggedIn (loggedIn s.log (stamp .phaseChanged s.log.next 0 2 1))
          (stamp .callEnded one (byteOf d.number) 4 (byteOf d.program.val)))
          (stamp .callEnded (nextSeq one) (byteOf c.number) 4 (byteOf c.program.val))

/-- R144, R146 to R149, R157: a call that must wait (its cursor: log 29), and the end of its wait: its deadline, its start,
or its suppression. -/
def Obligations.WaitingCalls : Prop :=
  Sys2Proof.Parts.BlockedCallWaits ∧ Sys2Proof.Parts.DeadlineRunsOut ∧ Sys2Proof.Parts.WaitingCallPreempts
    ∧ Sys2Proof.Parts.PendingCallStarts ∧ Sys2Proof.Parts.CallsSuppressed

/-- R161: a tick of the running interval clock: the remaining time falls by a second, each UNFIRED entry whose offset it
then equals is FIRED, and at 0 the clock stops with its INTERVAL-END record, the phase staying as it is. A stopped clock
does not tick (log 3); the next tick is counted from this one (log 4). -/
def Sys2Proof.Parts.ClockTicks : Prop :=
  ∀ s : State,
    (s.calls.clock = none → exec .intervalClockTick s = .next s)
      ∧ (s.calls.clock ≠ none → Answers .intervalClockTick s fun t =>
          let n := s.calls.remaining - 1
          let due : Fin 6 → Prop := fun i =>
            s.calls.progress[i] = .unfired ∧ s.tables.schedule.entries[i].offset.toNat = n
          OnlyTouches [.calls, .links, .log] s t ∧ t.calls.remaining = n
            ∧ (∀ i : Fin 6, (due i → t.calls.progress[i] = .fired)
                ∧ (¬due i → t.calls.progress[i] = s.calls.progress[i]))
            ∧ (n ≠ 0 → t.calls.clock = some (s.now + 100000)) ∧ (n = 0 → t.calls.clock = none)
            ∧ ((∀ i, ¬due i) → n = 0 → s.calls.freed = false →
                t.log = loggedIn s.log ⟨s.log.next, houseClock s, .intervalEnd, 0, 0, 0⟩))

/-- R145, R161: what comes of the schedule entry that fires alone at a tick: a SCHEDULE-REFUSED record with the reason of
the first test that fails, or a call of origin SCHEDULE, here one that nothing blocks and whose step 0 is a WAIT; at the
interval's end the INTERVAL-END record follows. -/
def Sys2Proof.Parts.ScheduleEntryFires : Prop :=
  ∀ (s : State) (i : Fin 6) (p : ProgramId), s.calls.clock ≠ none → s.calls.freed = false →
    let n := s.calls.remaining - 1
    let due : Fin 6 → Prop := fun j => s.calls.progress[j] = .unfired ∧ s.tables.schedule.entries[j].offset.toNat = n
    let entry := s.tables.schedule.entries[i]
    due i → (∀ j, j ≠ i → ¬due j) → entry.program.toNat = p.val → entry.areas ≠ 0 →
    (∀ a : AreaId, entry.areas.getLsbD a.val = true → s.tables.areas[a].kind ≠ 0) →
    2 ≤ s.tables.programs[p].cls.toNat →
    let end_ : LogState → LogState := fun g =>
      if n = 0 then loggedIn g ⟨g.next, houseClock s, .intervalEnd, 0, 0, 0⟩ else g
    let refused : Byte → Prop := fun why => Answers .intervalClockTick s fun t =>
      t.calls.table = s.calls.table ∧ t.calls.pendingList = s.calls.pendingList
        ∧ t.log = end_ (loggedIn s.log ⟨s.log.next, houseClock s, .scheduleRefused, byteOf i.val, why, 0⟩)
    let open_ := s.phase.phase ∉ [.maintenance, .dark, .recovery]
    (¬open_ → refused 4)
      ∧ (open_ → s.effects.stage = .evacuate → refused 5)
      ∧ (open_ → s.effects.stage ≠ .evacuate → (∀ e : EntryId, 2 ≤ e.val → callAt s e ≠ none) → refused 11)
      ∧ (open_ → s.effects.stage ≠ .evacuate → ∀ e : EntryId, 2 ≤ e.val → callAt s e = none →
          (∀ d : EntryId, 2 ≤ d.val → d.val < e.val → callAt s d ≠ none) → s.calls.pendingList = [] →
          (∀ a : AreaId, entry.areas.getLsbD a.val = true → holderOf s.calls a = none) →
          let st := s.tables.programs[p].steps[0]
          st.kind = 4 → numberInUse s.calls s.calls.nextNumber = false →
          Answers .intervalClockTick s fun t =>
            callAt t e = some ⟨s.calls.nextNumber, p, s.tables.programs[p].cls.toNat, .schedule, entry.areas,
                entry.areas, true, 0, Vector.replicate 12 0, some (s.now + (word16 st.a st.b).toNat * 5000), [], none,
                none⟩
              ∧ (∀ d : EntryId, d ≠ e → callAt t d = callAt s d)
              ∧ t.log = end_ (loggedIn s.log
                  ⟨s.log.next, houseClock s, .callStarted, byteOf s.calls.nextNumber, entry.program, 1⟩))

/-- R145, R161: the interval clock ticks, and a schedule entry fires. -/
def Obligations.IntervalClockTicks : Prop := Sys2Proof.Parts.ClockTicks ∧ Sys2Proof.Parts.ScheduleEntryFires

/-! ### The show phases -/

/-- R4, R5, R6, R8, R12: SET-PHASE's tests in order; a refusal changes nothing, and a target equal to the phase is
answered DONE with nothing changed. -/
def Obligations.SetPhaseTested : Prop :=
  ∀ (s : State) (tag b : Byte) (more : List Byte), Requested s 3 tag (b :: more) →
    let refused := RefusedWith .setPhase s 3 tag
    (7 < b.toNat → refused .badArgument)
      ∧ ∀ target : Phase, b = target.code →
        let p := s.phase.phase
        let free := s.effects.stage ≠ .evacuate ∨ target = .clearing
        let row := (p, target) ∈ transitionRows
        let quiet := s.effects.stage ≠ .staffAlert ∧ s.effects.stage ≠ .evacuate
        (target = p → DoneWith .setPhase s 3 tag [b] (dropHead .consoleRx s))
          ∧ (target ≠ p → ¬free → refused .alarmActive)
          ∧ (target ≠ p → free → ¬row → refused .wrongPhase)
          ∧ (free → p = .maintenance → target = .dark → ∀ i j k : Nat, validate s.working = some (i, j, k) →
              exec .setPhase s = .next
                (replied tag 3 ⟨some .invalidTables, [byteOf i, byteOf j, byteOf k]⟩ (dropHead .consoleRx s)))
          ∧ (free → p = .dark → target = .maintenance → s.store.writing ≠ none → refused .busy)
          ∧ (free → p = .dark → target = .houseOpen → s.phase.testValid = false → refused .curtainTest)
          ∧ (free → p = .dark → target = .houseOpen → s.phase.testValid = true → ¬quiet → refused .alarmActive)
          ∧ (free → p = .dark → target = .houseOpen → s.phase.testValid = true → quiet → s.monitor.link ≠ .up →
              refused .panelLink)
          ∧ (free → p = .recovery → row → s.curtain.state = .unknown → refused .curtainState)

/-- R4, R6, R7, R8, R10 to R14, R117, R119, R121, R157: an accepted transition that is no commit: the phase, staff presence
and curtain-test validity, the working copy on entry to MAINTENANCE, no investigation in a phase without delay, no open
window in a phase without isolation, and no ordinary call in one without calls. -/
def Obligations.PhaseChanges : Prop :=
  ∀ (s : State) (tag b : Byte) (more : List Byte) (target : Phase), Requested s 3 tag (b :: more) → b = target.code →
    (s.phase.phase, target) ∈ transitionRows → (s.effects.stage ≠ .evacuate ∨ target = .clearing) →
    s.phase.phase ≠ .maintenance → (target = .maintenance → s.store.writing = none) →
    (s.phase.phase = .dark → target = .houseOpen → s.phase.testValid = true ∧ s.monitor.link = .up
      ∧ s.effects.stage ≠ .staffAlert) →
    (s.phase.phase = .recovery → s.curtain.state ≠ .unknown) →
    ∃ u, DoneWith .setPhase s 3 tag [b] u ∧ OnlyTouches (.working :: alarmReach) s u ∧ u.phase.phase = target
      ∧ u.phase.staff = (s.phase.staff && decide (target ∉ [.maintenance, .dark, .recovery]))
      ∧ (s.curtain.test.status ≠ .running →
          u.phase.testValid = (s.phase.testValid && decide (target ∉ [.dark, .maintenance])))
      ∧ (u.phase.testValid = true → s.phase.testValid = true ∧ target ∉ [.dark, .maintenance])
      ∧ u.working = (if target = .maintenance then s.tables else s.working)
      ∧ (target ∈ [.maintenance, .dark, .clearing] → ∀ z : ZoneId, (zoneAt u z).state ≠ .investigating)
      ∧ (target ∉ [.rehearsal, .performance] → ∀ z : ZoneId, (zoneAt u z).window = none)
      ∧ (target ∈ [.maintenance, .dark] → PendingLaw s.calls → u.calls.pendingList = []
          ∧ ∀ e : EntryId, 2 ≤ e.val → callAt u e = none)

/-- R5, R21, R22, R25, R27, R50, R57, R67, R75, R137, R169: a commit, found as R125 says it is, with no zone INVESTIGATING
and no window open: the working copy takes force, the store begins to write it, the masters and outputs take the new
tables' values, the slot map is that of the new tables with its HOUSE and GUARD slots marked, the requests are bound from
the shadow, the governor keeps its state, the frames of the receive queues and of PANEL-TX and RACK-PASS are lost, and the
notice of the act is the first of PANEL-TX. -/
def Obligations.CommitTakesForce : Prop :=
  ∀ (s : State) (tag b : Byte) (more : List Byte), AlarmLaw s → Requested s 3 tag (b :: more) → b = 1 →
    s.phase.phase = .maintenance → s.effects.stage ≠ .evacuate → validate s.working = none →
    (∀ z : ZoneId, (zoneAt s z).state ≠ .investigating ∧ (zoneAt s z).window = none) →
    ∃ u, DoneWith .setPhase s 3 tag [b] u
      ∧ u.tables = s.working ∧ u.working = s.working ∧ u.phase = ⟨.dark, false, false⟩
      ∧ u.store.image = s.store.image ∧ (∃ i, u.store.writing = some i ∧ i.tables = s.working)
      ∧ u.now = s.now ∧ u.lines = s.lines ∧ u.restart = s.restart
      ∧ (∀ a : AreaId, u.levels.masters[a] = s.working.areas[a].master)
      ∧ (∀ h : ChannelId, u.levels.channels[h].output.toNat = if s.working.channels[h].inUse = 1
          then min s.working.channels[h].ceiling.toNat s.working.channels[h].loss.toNat else 0)
      ∧ u.levels.stepTimer = s.levels.stepTimer
      ∧ (∀ (h : ChannelId) (i : Fin 1024), let e := s.working.channels[h]
          let bound := u.levels.channels[h]
          (e.inUse ≠ 1 → bound.request = 0 ∧ bound.seen = false)
            ∧ (e.inUse = 1 → 256 * e.univ.toNat + e.slot.toNat = i.val →
                bound.request = s.stream.slots[i].shadow ∧ bound.seen = s.stream.slots[i].seen))
      ∧ (∀ i : Fin 1024, let x := u.stream.slots[i]
          x.shadow = s.stream.slots[i].shadow ∧ x.seen = s.stream.slots[i].seen ∧ x.dirty = decide (x.cls ≠ .pass)
            ∧ (∀ h : ChannelId, x.cls = .house h ↔ s.working.channels[h].inUse = 1
                ∧ 256 * s.working.channels[h].univ.toNat + s.working.channels[h].slot.toNat = i.val)
            ∧ ∀ g : Fin 32, x.cls = .guard g ↔ s.working.guards[g].inUse = 1
                ∧ 256 * s.working.guards[g].univ.toNat + s.working.guards[g].slot.toNat = i.val)
      ∧ u.stream.freshness = s.stream.freshness ∧ u.stream.consoleTimer = s.stream.consoleTimer
      ∧ u.curtain = { s.curtain with
          position := min s.curtain.position s.working.curtain.travel.toNat
          referenced := s.curtain.referenced && decide (s.tables.curtain.travel = s.working.curtain.travel)
          window := ⟨0, none, 0⟩ }
      ∧ (∀ q : QueueId, q ∈ [.consoleRx, .rackPass, .rackRx, .panelRx, .panelTx] → u.links.queues[q.ix].frames = [])
      ∧ (endAct u).links.queues[QueueId.panelTx.ix].frames
          = [mkFrame 0x32 s.working.link.station [1, u.effects.stage.code, u.curtain.state.code]]

/-- R9, R160, R163: entry to INTERVAL starts the clock with the request's length clamped to 60–3600 s, or the SCHEDULE
table's, and marks every entry; leaving INTERVAL stops the clock, keeps its remaining time and discards what is UNFIRED. -/
def Sys2Proof.Parts.IntervalEnteredAndLeft : Prop :=
  ∀ (s : State) (tag : Byte),
    (∀ args : List Byte, s.phase.phase = .performance → s.effects.stage ≠ .evacuate → Requested s 3 tag args →
      (args = [5] ∨ ∃ hi lo : Byte, args = [5, hi, lo]) →
      ∃ u, DoneWith .setPhase s 3 tag [5] u
        ∧ (args = [5] → u.calls.remaining = s.tables.schedule.length.toNat)
        ∧ (∀ hi lo : Byte, args = [5, hi, lo] → u.calls.remaining = max 60 (min 3600 (hi.toNat * 256 + lo.toNat)))
        ∧ u.calls.clock = some (s.now + 100000)
        ∧ ∀ i : Fin 6, let e := s.tables.schedule.entries[i]
            u.calls.progress[i] = if e.enabled ≠ 1 then .discarded
              else if u.calls.remaining ≤ e.offset.toNat then .skipped else .unfired)
      ∧ ∀ (b : Byte) (more : List Byte), s.phase.phase = .interval → Requested s 3 tag (b :: more) →
          ((b = 4 ∧ s.effects.stage ≠ .evacuate) ∨ b = 6) →
          ∃ u, DoneWith .setPhase s 3 tag [b] u ∧ u.calls.clock = none ∧ u.calls.remaining = s.calls.remaining
            ∧ ∀ i : Fin 6, u.calls.progress[i] =
                if s.calls.progress[i] = .unfired then .discarded else s.calls.progress[i]

/-- R9, R160, R162, R163: the interval clock as INTERVAL is entered and left, and as it is extended. -/
def Obligations.IntervalStartsAndStops : Prop :=
  Sys2Proof.Parts.IntervalEnteredAndLeft ∧ Sys2Proof.Parts.ExtendIntervalTested

/-- R14, R117: the tests of STAFF-PRESENT and its effects; a change to OFF brings an investigating zone to ALARM. -/
def Obligations.StaffPresenceSet : Prop :=
  ∀ (s : State) (tag b : Byte), Requested s 4 tag [b] →
    let refused := RefusedWith .staffPresent s 4 tag
    let open_ := s.phase.phase ∉ [.maintenance, .dark, .recovery]
    (1 < b.toNat → refused .badArgument) ∧ (b.toNat ≤ 1 → ¬open_ → refused .wrongPhase)
      ∧ (b.toNat ≤ 1 → open_ → s.phase.staff = decide (b = 1) →
          DoneWith .staffPresent s 4 tag [] (dropHead .consoleRx s))
      ∧ (b = 1 → open_ → s.phase.staff = false → DoneWith .staffPresent s 4 tag [] (writeRecord .staffPresence 0 1 0
          ((dropHead .consoleRx s).withPhase { s.phase with staff := true })))
      ∧ (b = 0 → open_ → s.phase.staff = true → ∃ u, DoneWith .staffPresent s 4 tag [] u ∧ OnlyTouches alarmReach s u
          ∧ u.phase.staff = false ∧ u.phase.phase = s.phase.phase
          ∧ (∀ z : ZoneId, (zoneAt s z).state = .investigating → (zoneAt u z).state = .alarm)
          ∧ ∀ z : ZoneId, (zoneAt u z).state ≠ .investigating)

/-! ### Management and status -/

/-- R180: READ-TABLE's tests and its reply: the count lowered to the table's end and to what fits, and the entries in
their layout, from the working copy in MAINTENANCE and otherwise from the tables in force. The reply fits a frame. -/
def Obligations.TableRead : Prop :=
  ∀ (s : State) (tag b first count : Byte), Requested s 1 tag [b, first, count] →
    (9 < b.toNat → RefusedWith .readTable s 1 tag .badArgument)
      ∧ ∀ id : TableId, tableOf b = some id →
          let n := min (min count.toNat (tableEntries id - first.toNat)) (193 / tableWidth id)
          let source := if s.phase.phase = .maintenance then s.working else s.tables
          let data := [b, first, byteOf n] ++ tableBytes source id first.toNat n
          (tableEntries id ≤ first.toNat → RefusedWith .readTable s 1 tag .badArgument)
            ∧ (first.toNat < tableEntries id → DoneWith .readTable s 1 tag data (dropHead .consoleRx s)
                ∧ data.length = 3 + n * tableWidth id ∧ data.length ≤ 196)

/-- R181, R15: WRITE-TABLE's tests in order; accepted, it replaces whole entries of the working copy, which then read
back as the bytes carried, and touches nothing else. -/
def Obligations.TableWritten : Prop :=
  ∀ (s : State) (tag : Byte) (args : List Byte), Requested s 2 tag args →
    let refused := RefusedWith .writeTable s 2 tag
    (args.length < 2 → refused .badFormat)
      ∧ ∀ (b first : Byte) (bytes : List Byte), args = b :: first :: bytes →
        (9 < b.toNat → refused .badArgument)
          ∧ ∀ id : TableId, tableOf b = some id →
              let whole := bytes ≠ [] ∧ bytes.length % tableWidth id = 0
              let n := bytes.length / tableWidth id
              (¬whole → refused .badFormat)
                ∧ (whole → s.phase.phase ≠ .maintenance → refused .wrongPhase)
                ∧ (whole → s.phase.phase = .maintenance → tableEntries id < first.toNat + n → refused .badArgument)
                ∧ (whole → s.phase.phase = .maintenance → first.toNat + n ≤ tableEntries id →
                    ∃ w : Tables, DoneWith .writeTable s 2 tag [b, first, byteOf n]
                        ((dropHead .consoleRx s).withWorking w)
                      ∧ tableBytes w id first.toNat n = bytes
                      ∧ ∀ (other : TableId) (i : Nat), (other ≠ id ∨ i < first.toNat ∨ first.toNat + n ≤ i) →
                          tableBytes w other i 1 = tableBytes s.working other i 1)

/-- R189: the STATUS frame of the status timer, which runs again for 1000 ms. The next expiry is counted from the command
(log 4). -/
def Sys2Proof.Parts.StatusSent : Prop :=
  ∀ s : State, exec .statusTimerExpiry s = .next (offer .consoleTx
    (mkFrame 0x51 s.tables.link.station (statusFields s))
    (s.withLog { s.log with statusTimer := some (s.now + 100000) }))

/-- R137, R189: the periodic notice, the notice of an act, and the STATUS frame. -/
def Obligations.NoticeAndStatus : Prop :=
  Sys2Proof.Parts.PeriodicNotice ∧ Sys2Proof.Parts.StatusSent ∧ Sys2Proof.Parts.ActEnds ∧ Sys2Proof.Parts.ActNotice

/-- R184: READ-STATUS, whose data is the STATUS body as the request is taken, followed by 14 bytes of the curtain test
record. -/
def Sys2Proof.Parts.StatusRead : Prop :=
  ∀ (s : State) (tag : Byte), Requested s 18 tag [] →
    let t := s.curtain.test
    let field : Option Nat → List Byte := fun o => [byteOf (o.getD 65535 / 256), byteOf (o.getD 65535)]
    let status : List Byte := match t.status with
      | .empty => [0, 255]
      | .running => [1, 255]
      | .closed pass => [2, if pass then 0 else 1]
    let faults : List Byte := match t.status with
      | .empty => [0, 0]
      | .running => bytes16 s.curtain.faults
      | .closed _ => bytes16 t.faults
    let data := statusFields (dropHead .consoleRx s) ++ status ++ field t.firstMove ++ field t.highMain
      ++ field t.lowMain ++ field t.highSlow ++ field t.total ++ faults
    DoneWith .readStatus s 18 tag data (dropHead .consoleRx s) ∧ data.length = 45

/-- R182, R183: READ-ZONE's test and its reply, and the reply of READ-CALLS: ten entries of 13 bytes, the pending list
in eight places and the interval clock, 148 bytes in all. -/
def Sys2Proof.Parts.ZonesAndCallsRead : Prop :=
  ∀ (s : State) (tag : Byte),
    let left : Timer → Nat := fun t => match t with
      | none => 0
      | some x => (x - s.now + 99999) / 100000
    (∀ b : Byte, Requested s 19 tag [b] →
      (65 < b.toNat → RefusedWith .readZone s 19 tag .badArgument)
        ∧ ∀ z : ZoneId, b = zoneByte z →
            let r := zoneAt s z
            let entries : List Byte := r.devices.flatMap fun d => [d.number, match d.condition with
              | .pre => 0 | .fire true => 4 | .fire false => 1 | .manual => 2 | .fault => 3]
            DoneWith .readZone s 19 tag ([b, r.state.code, if r.acked then 1 else 0, r.knock.getD 255]
              ++ starterBytes r.starters
              ++ [byteOf (left r.ackTimer), byteOf (left r.invTimer / 256), byteOf (left r.invTimer),
                  if r.window.isSome then 1 else 0, byteOf (left r.window / 256), byteOf (left r.window),
                  if r.devices.any (fun d => decide (d.condition = .fault)) then 1 else 0, byteOf r.devices.length]
              ++ entries) (dropHead .consoleRx s) ∧ entries.length = 2 * r.devices.length)
      ∧ (Requested s 20 tag [] → ∃ data : List Byte, DoneWith .readCalls s 20 tag data (dropHead .consoleRx s)
          ∧ data.length = 148
          ∧ (∀ e : EntryId, callAt s e = none → (data.drop (13 * e.val)).take 13 = List.replicate 13 0)
          ∧ (∀ (e : EntryId) (c : Call), callAt s e = some c → (data.drop (13 * e.val)).take 13 =
              [if c.running then 2 else 1, byteOf c.number, byteOf c.program.val, byteOf c.priority, c.origin.code,
                byteOf c.cursor] ++ bytes24 c.requested ++ bytes24 c.held ++ [byteOf (left c.deadline)])
          ∧ byteAt data 130 = byteOf s.calls.pendingList.length
          ∧ (∀ i : Nat, i < 8 → byteAt data (131 + i) = match s.calls.pendingList[i]?.bind (callAt s ·) with
              | some c => byteOf c.number
              | none => 0)
          ∧ data.drop 139 = [if s.calls.clock.isSome then 1 else 0, byteOf (s.calls.remaining / 256),
              byteOf s.calls.remaining] ++ s.calls.progress.toList.map Progress.code)

/-- R182, R183, R184: the replies of READ-STATUS, READ-ZONE and READ-CALLS. -/
def Obligations.StatusZonesCallsRead : Prop := Sys2Proof.Parts.StatusRead ∧ Sys2Proof.Parts.ZonesAndCallsRead

/-- R188: READ-EVENTS on a log that keeps its law: from 0, from a number the ring holds, and from any other number,
judged by its distance back from the newest, at most eight records being returned, oldest first. The GAP flag for a
count of 0 and the numbers of an empty ring are log 23's. -/
def Obligations.EventsRead : Prop :=
  ∀ (s : State) (tag a b c d count : Byte), LogLaw s.log → Requested s 21 tag [a, b, c, d, count] →
    let sought := word32 a b c d
    let oldest : Word32 := match s.log.ring with
      | [] => 0
      | r :: _ => r.seq
    let returns : Bool → List EventRecord → Prop := fun gap found =>
      let records := found.take (min 8 count.toNat)
      DoneWith .readEvents s 21 tag ([if gap then 1 else 0] ++ bytes32 oldest ++ [byteOf records.length]
        ++ records.flatMap fun r => bytes32 r.seq ++ bytes32 r.time ++ [r.kind.code, r.subject, r.detail0, r.detail1])
        (dropHead .consoleRx s)
    let back : Nat := match s.log.ring.getLast? with
      | none => (4294967295 - sought.toNat) % 4294967295
      | some r => (r.seq.toNat + 4294967295 - sought.toNat) % 4294967295
    (sought = 0 → returns s.log.removed s.log.ring)
      ∧ (∀ i : Nat, (∃ r, s.log.ring[i]? = some r ∧ r.seq = sought) → returns false (s.log.ring.drop i))
      ∧ (sought ≠ 0 → (∀ r ∈ s.log.ring, r.seq ≠ sought) →
          (back ≤ 2147483647 → returns s.log.removed s.log.ring) ∧ (2147483647 < back → returns false []))

/-- R185: RESTART's tests in order; accepted, its reply is filed, no further frame of CONSOLE-RX is taken, and the
power-on sequence becomes due when the reply has been sent, or at once where the reply was dropped. What is held while
the reply waits is the model's own (log 13). -/
def Sys2Proof.Parts.RestartTested : Prop :=
  ∀ (s : State) (tag : Byte), Requested s 22 tag [] →
    let refused : Reason → Prop := fun why =>
      exec .restart s = .next (sendReply tag 22 (refuse why) (dropHead .consoleRx s))
    let still := s.phase.phase = .maintenance ∨ s.phase.phase = .dark
    let rests := s.curtain.state = .resting ∨ s.curtain.state = .unknown
    (¬still → refused .wrongPhase) ∧ (still → ¬rests → refused .curtainState)
      ∧ (still → rests → s.store.writing ≠ none → refused .busy)
      ∧ (still → rests → s.store.writing = none → Answers .restart s fun t => consoleHead t = none
          ∧ OnlyTouches [.links, .log, .restart] s t
          ∧ (13 ≤ freeBytes s.tables s.links .consoleTx →
              t.links.queues[QueueId.consoleTx.ix].frames = s.links.queues[QueueId.consoleTx.ix].frames
                ++ [mkFrame 0x21 s.tables.link.station [tag, 22, 0, 0]]
              ∧ t.restart = .waiting (s.links.queues[QueueId.consoleTx.ix].frames.length + 1))
          ∧ (freeBytes s.tables s.links .consoleTx < 13 → t.restart = .due))

/-- R185: each frame of CONSOLE-TX sent brings the waiting power-on sequence nearer, and the last of them, the reply,
makes it due; until it is due the sequence does not run (logs 3 and 13). -/
def Sys2Proof.Parts.RestartFollowsReply : Prop :=
  ∀ (s : State) (n till : Nat), s.restart = .waiting n → s.links.tx[Port.console.ix] = .sending .consoleTx till →
    (exec .restartPowerOnSequence s = .next s)
      ∧ Answers (.frameSent .console) s fun t => t.restart = if n ≤ 1 then .due else .waiting (n - 1)

/-- R185: RESTART, and the power-on sequence that follows its reply. -/
def Obligations.RestartTaken : Prop := Sys2Proof.Parts.RestartTested ∧ Sys2Proof.Parts.RestartFollowsReply
end

