-- ==== Sys2Proof/Laws/State.lean ====
section
/-! SUPPORT. One lemma per part of the state per replacement of a part, so that no later proof unfolds a record update;
and what the shared operations of Ops leave as it was. -/

namespace Sys2Proof.Machine

open State

@[simp] theorem withPending_pending (s : State) (x : List Instr) : (s.withPending x).pending = x := rfl
@[simp] theorem withPending_now (s : State) (x : List Instr) : (s.withPending x).now = s.now := rfl
@[simp] theorem withPending_lines (s : State) (x : List Instr) : (s.withPending x).lines = s.lines := rfl
@[simp] theorem withPending_store (s : State) (x : List Instr) : (s.withPending x).store = s.store := rfl
@[simp] theorem withPending_working (s : State) (x : List Instr) : (s.withPending x).working = s.working := rfl
@[simp] theorem withPending_tables (s : State) (x : List Instr) : (s.withPending x).tables = s.tables := rfl
@[simp] theorem withPending_phase (s : State) (x : List Instr) : (s.withPending x).phase = s.phase := rfl
@[simp] theorem withPending_stream (s : State) (x : List Instr) : (s.withPending x).stream = s.stream := rfl
@[simp] theorem withPending_levels (s : State) (x : List Instr) : (s.withPending x).levels = s.levels := rfl
@[simp] theorem withPending_curtain (s : State) (x : List Instr) : (s.withPending x).curtain = s.curtain := rfl
@[simp] theorem withPending_monitor (s : State) (x : List Instr) : (s.withPending x).monitor = s.monitor := rfl
@[simp] theorem withPending_effects (s : State) (x : List Instr) : (s.withPending x).effects = s.effects := rfl
@[simp] theorem withPending_calls (s : State) (x : List Instr) : (s.withPending x).calls = s.calls := rfl
@[simp] theorem withPending_links (s : State) (x : List Instr) : (s.withPending x).links = s.links := rfl
@[simp] theorem withPending_log (s : State) (x : List Instr) : (s.withPending x).log = s.log := rfl
@[simp] theorem withPending_restart (s : State) (x : List Instr) : (s.withPending x).restart = s.restart := rfl
@[simp] theorem withNow_pending (s : State) (x : Nat) : (s.withNow x).pending = s.pending := rfl
@[simp] theorem withNow_now (s : State) (x : Nat) : (s.withNow x).now = x := rfl
@[simp] theorem withNow_lines (s : State) (x : Nat) : (s.withNow x).lines = s.lines := rfl
@[simp] theorem withNow_store (s : State) (x : Nat) : (s.withNow x).store = s.store := rfl
@[simp] theorem withNow_working (s : State) (x : Nat) : (s.withNow x).working = s.working := rfl
@[simp] theorem withNow_tables (s : State) (x : Nat) : (s.withNow x).tables = s.tables := rfl
@[simp] theorem withNow_phase (s : State) (x : Nat) : (s.withNow x).phase = s.phase := rfl
@[simp] theorem withNow_stream (s : State) (x : Nat) : (s.withNow x).stream = s.stream := rfl
@[simp] theorem withNow_levels (s : State) (x : Nat) : (s.withNow x).levels = s.levels := rfl
@[simp] theorem withNow_curtain (s : State) (x : Nat) : (s.withNow x).curtain = s.curtain := rfl
@[simp] theorem withNow_monitor (s : State) (x : Nat) : (s.withNow x).monitor = s.monitor := rfl
@[simp] theorem withNow_effects (s : State) (x : Nat) : (s.withNow x).effects = s.effects := rfl
@[simp] theorem withNow_calls (s : State) (x : Nat) : (s.withNow x).calls = s.calls := rfl
@[simp] theorem withNow_links (s : State) (x : Nat) : (s.withNow x).links = s.links := rfl
@[simp] theorem withNow_log (s : State) (x : Nat) : (s.withNow x).log = s.log := rfl
@[simp] theorem withNow_restart (s : State) (x : Nat) : (s.withNow x).restart = s.restart := rfl
@[simp] theorem withLines_pending (s : State) (x : Lines) : (s.withLines x).pending = s.pending := rfl
@[simp] theorem withLines_now (s : State) (x : Lines) : (s.withLines x).now = s.now := rfl
@[simp] theorem withLines_lines (s : State) (x : Lines) : (s.withLines x).lines = x := rfl
@[simp] theorem withLines_store (s : State) (x : Lines) : (s.withLines x).store = s.store := rfl
@[simp] theorem withLines_working (s : State) (x : Lines) : (s.withLines x).working = s.working := rfl
@[simp] theorem withLines_tables (s : State) (x : Lines) : (s.withLines x).tables = s.tables := rfl
@[simp] theorem withLines_phase (s : State) (x : Lines) : (s.withLines x).phase = s.phase := rfl
@[simp] theorem withLines_stream (s : State) (x : Lines) : (s.withLines x).stream = s.stream := rfl
@[simp] theorem withLines_levels (s : State) (x : Lines) : (s.withLines x).levels = s.levels := rfl
@[simp] theorem withLines_curtain (s : State) (x : Lines) : (s.withLines x).curtain = s.curtain := rfl
@[simp] theorem withLines_monitor (s : State) (x : Lines) : (s.withLines x).monitor = s.monitor := rfl
@[simp] theorem withLines_effects (s : State) (x : Lines) : (s.withLines x).effects = s.effects := rfl
@[simp] theorem withLines_calls (s : State) (x : Lines) : (s.withLines x).calls = s.calls := rfl
@[simp] theorem withLines_links (s : State) (x : Lines) : (s.withLines x).links = s.links := rfl
@[simp] theorem withLines_log (s : State) (x : Lines) : (s.withLines x).log = s.log := rfl
@[simp] theorem withLines_restart (s : State) (x : Lines) : (s.withLines x).restart = s.restart := rfl
@[simp] theorem withStore_pending (s : State) (x : Store) : (s.withStore x).pending = s.pending := rfl
@[simp] theorem withStore_now (s : State) (x : Store) : (s.withStore x).now = s.now := rfl
@[simp] theorem withStore_lines (s : State) (x : Store) : (s.withStore x).lines = s.lines := rfl
@[simp] theorem withStore_store (s : State) (x : Store) : (s.withStore x).store = x := rfl
@[simp] theorem withStore_working (s : State) (x : Store) : (s.withStore x).working = s.working := rfl
@[simp] theorem withStore_tables (s : State) (x : Store) : (s.withStore x).tables = s.tables := rfl
@[simp] theorem withStore_phase (s : State) (x : Store) : (s.withStore x).phase = s.phase := rfl
@[simp] theorem withStore_stream (s : State) (x : Store) : (s.withStore x).stream = s.stream := rfl
@[simp] theorem withStore_levels (s : State) (x : Store) : (s.withStore x).levels = s.levels := rfl
@[simp] theorem withStore_curtain (s : State) (x : Store) : (s.withStore x).curtain = s.curtain := rfl
@[simp] theorem withStore_monitor (s : State) (x : Store) : (s.withStore x).monitor = s.monitor := rfl
@[simp] theorem withStore_effects (s : State) (x : Store) : (s.withStore x).effects = s.effects := rfl
@[simp] theorem withStore_calls (s : State) (x : Store) : (s.withStore x).calls = s.calls := rfl
@[simp] theorem withStore_links (s : State) (x : Store) : (s.withStore x).links = s.links := rfl
@[simp] theorem withStore_log (s : State) (x : Store) : (s.withStore x).log = s.log := rfl
@[simp] theorem withStore_restart (s : State) (x : Store) : (s.withStore x).restart = s.restart := rfl
@[simp] theorem withWorking_pending (s : State) (x : Tables) : (s.withWorking x).pending = s.pending := rfl
@[simp] theorem withWorking_now (s : State) (x : Tables) : (s.withWorking x).now = s.now := rfl
@[simp] theorem withWorking_lines (s : State) (x : Tables) : (s.withWorking x).lines = s.lines := rfl
@[simp] theorem withWorking_store (s : State) (x : Tables) : (s.withWorking x).store = s.store := rfl
@[simp] theorem withWorking_working (s : State) (x : Tables) : (s.withWorking x).working = x := rfl
@[simp] theorem withWorking_tables (s : State) (x : Tables) : (s.withWorking x).tables = s.tables := rfl
@[simp] theorem withWorking_phase (s : State) (x : Tables) : (s.withWorking x).phase = s.phase := rfl
@[simp] theorem withWorking_stream (s : State) (x : Tables) : (s.withWorking x).stream = s.stream := rfl
@[simp] theorem withWorking_levels (s : State) (x : Tables) : (s.withWorking x).levels = s.levels := rfl
@[simp] theorem withWorking_curtain (s : State) (x : Tables) : (s.withWorking x).curtain = s.curtain := rfl
@[simp] theorem withWorking_monitor (s : State) (x : Tables) : (s.withWorking x).monitor = s.monitor := rfl
@[simp] theorem withWorking_effects (s : State) (x : Tables) : (s.withWorking x).effects = s.effects := rfl
@[simp] theorem withWorking_calls (s : State) (x : Tables) : (s.withWorking x).calls = s.calls := rfl
@[simp] theorem withWorking_links (s : State) (x : Tables) : (s.withWorking x).links = s.links := rfl
@[simp] theorem withWorking_log (s : State) (x : Tables) : (s.withWorking x).log = s.log := rfl
@[simp] theorem withWorking_restart (s : State) (x : Tables) : (s.withWorking x).restart = s.restart := rfl
@[simp] theorem withTables_pending (s : State) (x : Tables) : (s.withTables x).pending = s.pending := rfl
@[simp] theorem withTables_now (s : State) (x : Tables) : (s.withTables x).now = s.now := rfl
@[simp] theorem withTables_lines (s : State) (x : Tables) : (s.withTables x).lines = s.lines := rfl
@[simp] theorem withTables_store (s : State) (x : Tables) : (s.withTables x).store = s.store := rfl
@[simp] theorem withTables_working (s : State) (x : Tables) : (s.withTables x).working = s.working := rfl
@[simp] theorem withTables_tables (s : State) (x : Tables) : (s.withTables x).tables = x := rfl
@[simp] theorem withTables_phase (s : State) (x : Tables) : (s.withTables x).phase = s.phase := rfl
@[simp] theorem withTables_stream (s : State) (x : Tables) : (s.withTables x).stream = s.stream := rfl
@[simp] theorem withTables_levels (s : State) (x : Tables) : (s.withTables x).levels = s.levels := rfl
@[simp] theorem withTables_curtain (s : State) (x : Tables) : (s.withTables x).curtain = s.curtain := rfl
@[simp] theorem withTables_monitor (s : State) (x : Tables) : (s.withTables x).monitor = s.monitor := rfl
@[simp] theorem withTables_effects (s : State) (x : Tables) : (s.withTables x).effects = s.effects := rfl
@[simp] theorem withTables_calls (s : State) (x : Tables) : (s.withTables x).calls = s.calls := rfl
@[simp] theorem withTables_links (s : State) (x : Tables) : (s.withTables x).links = s.links := rfl
@[simp] theorem withTables_log (s : State) (x : Tables) : (s.withTables x).log = s.log := rfl
@[simp] theorem withTables_restart (s : State) (x : Tables) : (s.withTables x).restart = s.restart := rfl
@[simp] theorem withPhase_pending (s : State) (x : PhaseState) : (s.withPhase x).pending = s.pending := rfl
@[simp] theorem withPhase_now (s : State) (x : PhaseState) : (s.withPhase x).now = s.now := rfl
@[simp] theorem withPhase_lines (s : State) (x : PhaseState) : (s.withPhase x).lines = s.lines := rfl
@[simp] theorem withPhase_store (s : State) (x : PhaseState) : (s.withPhase x).store = s.store := rfl
@[simp] theorem withPhase_working (s : State) (x : PhaseState) : (s.withPhase x).working = s.working := rfl
@[simp] theorem withPhase_tables (s : State) (x : PhaseState) : (s.withPhase x).tables = s.tables := rfl
@[simp] theorem withPhase_phase (s : State) (x : PhaseState) : (s.withPhase x).phase = x := rfl
@[simp] theorem withPhase_stream (s : State) (x : PhaseState) : (s.withPhase x).stream = s.stream := rfl
@[simp] theorem withPhase_levels (s : State) (x : PhaseState) : (s.withPhase x).levels = s.levels := rfl
@[simp] theorem withPhase_curtain (s : State) (x : PhaseState) : (s.withPhase x).curtain = s.curtain := rfl
@[simp] theorem withPhase_monitor (s : State) (x : PhaseState) : (s.withPhase x).monitor = s.monitor := rfl
@[simp] theorem withPhase_effects (s : State) (x : PhaseState) : (s.withPhase x).effects = s.effects := rfl
@[simp] theorem withPhase_calls (s : State) (x : PhaseState) : (s.withPhase x).calls = s.calls := rfl
@[simp] theorem withPhase_links (s : State) (x : PhaseState) : (s.withPhase x).links = s.links := rfl
@[simp] theorem withPhase_log (s : State) (x : PhaseState) : (s.withPhase x).log = s.log := rfl
@[simp] theorem withPhase_restart (s : State) (x : PhaseState) : (s.withPhase x).restart = s.restart := rfl
@[simp] theorem withStream_pending (s : State) (x : StreamState) : (s.withStream x).pending = s.pending := rfl
@[simp] theorem withStream_now (s : State) (x : StreamState) : (s.withStream x).now = s.now := rfl
@[simp] theorem withStream_lines (s : State) (x : StreamState) : (s.withStream x).lines = s.lines := rfl
@[simp] theorem withStream_store (s : State) (x : StreamState) : (s.withStream x).store = s.store := rfl
@[simp] theorem withStream_working (s : State) (x : StreamState) : (s.withStream x).working = s.working := rfl
@[simp] theorem withStream_tables (s : State) (x : StreamState) : (s.withStream x).tables = s.tables := rfl
@[simp] theorem withStream_phase (s : State) (x : StreamState) : (s.withStream x).phase = s.phase := rfl
@[simp] theorem withStream_stream (s : State) (x : StreamState) : (s.withStream x).stream = x := rfl
@[simp] theorem withStream_levels (s : State) (x : StreamState) : (s.withStream x).levels = s.levels := rfl
@[simp] theorem withStream_curtain (s : State) (x : StreamState) : (s.withStream x).curtain = s.curtain := rfl
@[simp] theorem withStream_monitor (s : State) (x : StreamState) : (s.withStream x).monitor = s.monitor := rfl
@[simp] theorem withStream_effects (s : State) (x : StreamState) : (s.withStream x).effects = s.effects := rfl
@[simp] theorem withStream_calls (s : State) (x : StreamState) : (s.withStream x).calls = s.calls := rfl
@[simp] theorem withStream_links (s : State) (x : StreamState) : (s.withStream x).links = s.links := rfl
@[simp] theorem withStream_log (s : State) (x : StreamState) : (s.withStream x).log = s.log := rfl
@[simp] theorem withStream_restart (s : State) (x : StreamState) : (s.withStream x).restart = s.restart := rfl
@[simp] theorem withLevels_pending (s : State) (x : LevelState) : (s.withLevels x).pending = s.pending := rfl
@[simp] theorem withLevels_now (s : State) (x : LevelState) : (s.withLevels x).now = s.now := rfl
@[simp] theorem withLevels_lines (s : State) (x : LevelState) : (s.withLevels x).lines = s.lines := rfl
@[simp] theorem withLevels_store (s : State) (x : LevelState) : (s.withLevels x).store = s.store := rfl
@[simp] theorem withLevels_working (s : State) (x : LevelState) : (s.withLevels x).working = s.working := rfl
@[simp] theorem withLevels_tables (s : State) (x : LevelState) : (s.withLevels x).tables = s.tables := rfl
@[simp] theorem withLevels_phase (s : State) (x : LevelState) : (s.withLevels x).phase = s.phase := rfl
@[simp] theorem withLevels_stream (s : State) (x : LevelState) : (s.withLevels x).stream = s.stream := rfl
@[simp] theorem withLevels_levels (s : State) (x : LevelState) : (s.withLevels x).levels = x := rfl
@[simp] theorem withLevels_curtain (s : State) (x : LevelState) : (s.withLevels x).curtain = s.curtain := rfl
@[simp] theorem withLevels_monitor (s : State) (x : LevelState) : (s.withLevels x).monitor = s.monitor := rfl
@[simp] theorem withLevels_effects (s : State) (x : LevelState) : (s.withLevels x).effects = s.effects := rfl
@[simp] theorem withLevels_calls (s : State) (x : LevelState) : (s.withLevels x).calls = s.calls := rfl
@[simp] theorem withLevels_links (s : State) (x : LevelState) : (s.withLevels x).links = s.links := rfl
@[simp] theorem withLevels_log (s : State) (x : LevelState) : (s.withLevels x).log = s.log := rfl
@[simp] theorem withLevels_restart (s : State) (x : LevelState) : (s.withLevels x).restart = s.restart := rfl
@[simp] theorem withCurtain_pending (s : State) (x : Curtain) : (s.withCurtain x).pending = s.pending := rfl
@[simp] theorem withCurtain_now (s : State) (x : Curtain) : (s.withCurtain x).now = s.now := rfl
@[simp] theorem withCurtain_lines (s : State) (x : Curtain) : (s.withCurtain x).lines = s.lines := rfl
@[simp] theorem withCurtain_store (s : State) (x : Curtain) : (s.withCurtain x).store = s.store := rfl
@[simp] theorem withCurtain_working (s : State) (x : Curtain) : (s.withCurtain x).working = s.working := rfl
@[simp] theorem withCurtain_tables (s : State) (x : Curtain) : (s.withCurtain x).tables = s.tables := rfl
@[simp] theorem withCurtain_phase (s : State) (x : Curtain) : (s.withCurtain x).phase = s.phase := rfl
@[simp] theorem withCurtain_stream (s : State) (x : Curtain) : (s.withCurtain x).stream = s.stream := rfl
@[simp] theorem withCurtain_levels (s : State) (x : Curtain) : (s.withCurtain x).levels = s.levels := rfl
@[simp] theorem withCurtain_curtain (s : State) (x : Curtain) : (s.withCurtain x).curtain = x := rfl
@[simp] theorem withCurtain_monitor (s : State) (x : Curtain) : (s.withCurtain x).monitor = s.monitor := rfl
@[simp] theorem withCurtain_effects (s : State) (x : Curtain) : (s.withCurtain x).effects = s.effects := rfl
@[simp] theorem withCurtain_calls (s : State) (x : Curtain) : (s.withCurtain x).calls = s.calls := rfl
@[simp] theorem withCurtain_links (s : State) (x : Curtain) : (s.withCurtain x).links = s.links := rfl
@[simp] theorem withCurtain_log (s : State) (x : Curtain) : (s.withCurtain x).log = s.log := rfl
@[simp] theorem withCurtain_restart (s : State) (x : Curtain) : (s.withCurtain x).restart = s.restart := rfl
@[simp] theorem withMonitor_pending (s : State) (x : ZoneMonitor) : (s.withMonitor x).pending = s.pending := rfl
@[simp] theorem withMonitor_now (s : State) (x : ZoneMonitor) : (s.withMonitor x).now = s.now := rfl
@[simp] theorem withMonitor_lines (s : State) (x : ZoneMonitor) : (s.withMonitor x).lines = s.lines := rfl
@[simp] theorem withMonitor_store (s : State) (x : ZoneMonitor) : (s.withMonitor x).store = s.store := rfl
@[simp] theorem withMonitor_working (s : State) (x : ZoneMonitor) : (s.withMonitor x).working = s.working := rfl
@[simp] theorem withMonitor_tables (s : State) (x : ZoneMonitor) : (s.withMonitor x).tables = s.tables := rfl
@[simp] theorem withMonitor_phase (s : State) (x : ZoneMonitor) : (s.withMonitor x).phase = s.phase := rfl
@[simp] theorem withMonitor_stream (s : State) (x : ZoneMonitor) : (s.withMonitor x).stream = s.stream := rfl
@[simp] theorem withMonitor_levels (s : State) (x : ZoneMonitor) : (s.withMonitor x).levels = s.levels := rfl
@[simp] theorem withMonitor_curtain (s : State) (x : ZoneMonitor) : (s.withMonitor x).curtain = s.curtain := rfl
@[simp] theorem withMonitor_monitor (s : State) (x : ZoneMonitor) : (s.withMonitor x).monitor = x := rfl
@[simp] theorem withMonitor_effects (s : State) (x : ZoneMonitor) : (s.withMonitor x).effects = s.effects := rfl
@[simp] theorem withMonitor_calls (s : State) (x : ZoneMonitor) : (s.withMonitor x).calls = s.calls := rfl
@[simp] theorem withMonitor_links (s : State) (x : ZoneMonitor) : (s.withMonitor x).links = s.links := rfl
@[simp] theorem withMonitor_log (s : State) (x : ZoneMonitor) : (s.withMonitor x).log = s.log := rfl
@[simp] theorem withMonitor_restart (s : State) (x : ZoneMonitor) : (s.withMonitor x).restart = s.restart := rfl
@[simp] theorem withEffects_pending (s : State) (x : EffectState) : (s.withEffects x).pending = s.pending := rfl
@[simp] theorem withEffects_now (s : State) (x : EffectState) : (s.withEffects x).now = s.now := rfl
@[simp] theorem withEffects_lines (s : State) (x : EffectState) : (s.withEffects x).lines = s.lines := rfl
@[simp] theorem withEffects_store (s : State) (x : EffectState) : (s.withEffects x).store = s.store := rfl
@[simp] theorem withEffects_working (s : State) (x : EffectState) : (s.withEffects x).working = s.working := rfl
@[simp] theorem withEffects_tables (s : State) (x : EffectState) : (s.withEffects x).tables = s.tables := rfl
@[simp] theorem withEffects_phase (s : State) (x : EffectState) : (s.withEffects x).phase = s.phase := rfl
@[simp] theorem withEffects_stream (s : State) (x : EffectState) : (s.withEffects x).stream = s.stream := rfl
@[simp] theorem withEffects_levels (s : State) (x : EffectState) : (s.withEffects x).levels = s.levels := rfl
@[simp] theorem withEffects_curtain (s : State) (x : EffectState) : (s.withEffects x).curtain = s.curtain := rfl
@[simp] theorem withEffects_monitor (s : State) (x : EffectState) : (s.withEffects x).monitor = s.monitor := rfl
@[simp] theorem withEffects_effects (s : State) (x : EffectState) : (s.withEffects x).effects = x := rfl
@[simp] theorem withEffects_calls (s : State) (x : EffectState) : (s.withEffects x).calls = s.calls := rfl
@[simp] theorem withEffects_links (s : State) (x : EffectState) : (s.withEffects x).links = s.links := rfl
@[simp] theorem withEffects_log (s : State) (x : EffectState) : (s.withEffects x).log = s.log := rfl
@[simp] theorem withEffects_restart (s : State) (x : EffectState) : (s.withEffects x).restart = s.restart := rfl
@[simp] theorem withCalls_pending (s : State) (x : CallState) : (s.withCalls x).pending = s.pending := rfl
@[simp] theorem withCalls_now (s : State) (x : CallState) : (s.withCalls x).now = s.now := rfl
@[simp] theorem withCalls_lines (s : State) (x : CallState) : (s.withCalls x).lines = s.lines := rfl
@[simp] theorem withCalls_store (s : State) (x : CallState) : (s.withCalls x).store = s.store := rfl
@[simp] theorem withCalls_working (s : State) (x : CallState) : (s.withCalls x).working = s.working := rfl
@[simp] theorem withCalls_tables (s : State) (x : CallState) : (s.withCalls x).tables = s.tables := rfl
@[simp] theorem withCalls_phase (s : State) (x : CallState) : (s.withCalls x).phase = s.phase := rfl
@[simp] theorem withCalls_stream (s : State) (x : CallState) : (s.withCalls x).stream = s.stream := rfl
@[simp] theorem withCalls_levels (s : State) (x : CallState) : (s.withCalls x).levels = s.levels := rfl
@[simp] theorem withCalls_curtain (s : State) (x : CallState) : (s.withCalls x).curtain = s.curtain := rfl
@[simp] theorem withCalls_monitor (s : State) (x : CallState) : (s.withCalls x).monitor = s.monitor := rfl
@[simp] theorem withCalls_effects (s : State) (x : CallState) : (s.withCalls x).effects = s.effects := rfl
@[simp] theorem withCalls_calls (s : State) (x : CallState) : (s.withCalls x).calls = x := rfl
@[simp] theorem withCalls_links (s : State) (x : CallState) : (s.withCalls x).links = s.links := rfl
@[simp] theorem withCalls_log (s : State) (x : CallState) : (s.withCalls x).log = s.log := rfl
@[simp] theorem withCalls_restart (s : State) (x : CallState) : (s.withCalls x).restart = s.restart := rfl
@[simp] theorem withLinks_pending (s : State) (x : LinkState) : (s.withLinks x).pending = s.pending := rfl
@[simp] theorem withLinks_now (s : State) (x : LinkState) : (s.withLinks x).now = s.now := rfl
@[simp] theorem withLinks_lines (s : State) (x : LinkState) : (s.withLinks x).lines = s.lines := rfl
@[simp] theorem withLinks_store (s : State) (x : LinkState) : (s.withLinks x).store = s.store := rfl
@[simp] theorem withLinks_working (s : State) (x : LinkState) : (s.withLinks x).working = s.working := rfl
@[simp] theorem withLinks_tables (s : State) (x : LinkState) : (s.withLinks x).tables = s.tables := rfl
@[simp] theorem withLinks_phase (s : State) (x : LinkState) : (s.withLinks x).phase = s.phase := rfl
@[simp] theorem withLinks_stream (s : State) (x : LinkState) : (s.withLinks x).stream = s.stream := rfl
@[simp] theorem withLinks_levels (s : State) (x : LinkState) : (s.withLinks x).levels = s.levels := rfl
@[simp] theorem withLinks_curtain (s : State) (x : LinkState) : (s.withLinks x).curtain = s.curtain := rfl
@[simp] theorem withLinks_monitor (s : State) (x : LinkState) : (s.withLinks x).monitor = s.monitor := rfl
@[simp] theorem withLinks_effects (s : State) (x : LinkState) : (s.withLinks x).effects = s.effects := rfl
@[simp] theorem withLinks_calls (s : State) (x : LinkState) : (s.withLinks x).calls = s.calls := rfl
@[simp] theorem withLinks_links (s : State) (x : LinkState) : (s.withLinks x).links = x := rfl
@[simp] theorem withLinks_log (s : State) (x : LinkState) : (s.withLinks x).log = s.log := rfl
@[simp] theorem withLinks_restart (s : State) (x : LinkState) : (s.withLinks x).restart = s.restart := rfl
@[simp] theorem withLog_pending (s : State) (x : LogState) : (s.withLog x).pending = s.pending := rfl
@[simp] theorem withLog_now (s : State) (x : LogState) : (s.withLog x).now = s.now := rfl
@[simp] theorem withLog_lines (s : State) (x : LogState) : (s.withLog x).lines = s.lines := rfl
@[simp] theorem withLog_store (s : State) (x : LogState) : (s.withLog x).store = s.store := rfl
@[simp] theorem withLog_working (s : State) (x : LogState) : (s.withLog x).working = s.working := rfl
@[simp] theorem withLog_tables (s : State) (x : LogState) : (s.withLog x).tables = s.tables := rfl
@[simp] theorem withLog_phase (s : State) (x : LogState) : (s.withLog x).phase = s.phase := rfl
@[simp] theorem withLog_stream (s : State) (x : LogState) : (s.withLog x).stream = s.stream := rfl
@[simp] theorem withLog_levels (s : State) (x : LogState) : (s.withLog x).levels = s.levels := rfl
@[simp] theorem withLog_curtain (s : State) (x : LogState) : (s.withLog x).curtain = s.curtain := rfl
@[simp] theorem withLog_monitor (s : State) (x : LogState) : (s.withLog x).monitor = s.monitor := rfl
@[simp] theorem withLog_effects (s : State) (x : LogState) : (s.withLog x).effects = s.effects := rfl
@[simp] theorem withLog_calls (s : State) (x : LogState) : (s.withLog x).calls = s.calls := rfl
@[simp] theorem withLog_links (s : State) (x : LogState) : (s.withLog x).links = s.links := rfl
@[simp] theorem withLog_log (s : State) (x : LogState) : (s.withLog x).log = x := rfl
@[simp] theorem withLog_restart (s : State) (x : LogState) : (s.withLog x).restart = s.restart := rfl
@[simp] theorem withRestart_pending (s : State) (x : RestartState) : (s.withRestart x).pending = s.pending := rfl
@[simp] theorem withRestart_now (s : State) (x : RestartState) : (s.withRestart x).now = s.now := rfl
@[simp] theorem withRestart_lines (s : State) (x : RestartState) : (s.withRestart x).lines = s.lines := rfl
@[simp] theorem withRestart_store (s : State) (x : RestartState) : (s.withRestart x).store = s.store := rfl
@[simp] theorem withRestart_working (s : State) (x : RestartState) : (s.withRestart x).working = s.working := rfl
@[simp] theorem withRestart_tables (s : State) (x : RestartState) : (s.withRestart x).tables = s.tables := rfl
@[simp] theorem withRestart_phase (s : State) (x : RestartState) : (s.withRestart x).phase = s.phase := rfl
@[simp] theorem withRestart_stream (s : State) (x : RestartState) : (s.withRestart x).stream = s.stream := rfl
@[simp] theorem withRestart_levels (s : State) (x : RestartState) : (s.withRestart x).levels = s.levels := rfl
@[simp] theorem withRestart_curtain (s : State) (x : RestartState) : (s.withRestart x).curtain = s.curtain := rfl
@[simp] theorem withRestart_monitor (s : State) (x : RestartState) : (s.withRestart x).monitor = s.monitor := rfl
@[simp] theorem withRestart_effects (s : State) (x : RestartState) : (s.withRestart x).effects = s.effects := rfl
@[simp] theorem withRestart_calls (s : State) (x : RestartState) : (s.withRestart x).calls = s.calls := rfl
@[simp] theorem withRestart_links (s : State) (x : RestartState) : (s.withRestart x).links = s.links := rfl
@[simp] theorem withRestart_log (s : State) (x : RestartState) : (s.withRestart x).log = s.log := rfl
@[simp] theorem withRestart_restart (s : State) (x : RestartState) : (s.withRestart x).restart = x := rfl

/-! ### Writing a record changes the log and the links alone -/

@[simp] theorem writeRecord_pending (k : EventKind) (a b c : Byte) (s : State) :
    (writeRecord k a b c s).pending = s.pending := by
  simp only [writeRecord, withLinks_pending, withLog_pending]
@[simp] theorem writeRecord_now (k : EventKind) (a b c : Byte) (s : State) : (writeRecord k a b c s).now = s.now := by
  simp only [writeRecord, withLinks_now, withLog_now]
@[simp] theorem writeRecord_lines (k : EventKind) (a b c : Byte) (s : State) :
    (writeRecord k a b c s).lines = s.lines := by
  simp only [writeRecord, withLinks_lines, withLog_lines]
@[simp] theorem writeRecord_store (k : EventKind) (a b c : Byte) (s : State) :
    (writeRecord k a b c s).store = s.store := by
  simp only [writeRecord, withLinks_store, withLog_store]
@[simp] theorem writeRecord_working (k : EventKind) (a b c : Byte) (s : State) :
    (writeRecord k a b c s).working = s.working := by
  simp only [writeRecord, withLinks_working, withLog_working]
@[simp] theorem writeRecord_tables (k : EventKind) (a b c : Byte) (s : State) :
    (writeRecord k a b c s).tables = s.tables := by
  simp only [writeRecord, withLinks_tables, withLog_tables]
@[simp] theorem writeRecord_phase (k : EventKind) (a b c : Byte) (s : State) :
    (writeRecord k a b c s).phase = s.phase := by
  simp only [writeRecord, withLinks_phase, withLog_phase]
@[simp] theorem writeRecord_stream (k : EventKind) (a b c : Byte) (s : State) :
    (writeRecord k a b c s).stream = s.stream := by
  simp only [writeRecord, withLinks_stream, withLog_stream]
@[simp] theorem writeRecord_levels (k : EventKind) (a b c : Byte) (s : State) :
    (writeRecord k a b c s).levels = s.levels := by
  simp only [writeRecord, withLinks_levels, withLog_levels]
@[simp] theorem writeRecord_curtain (k : EventKind) (a b c : Byte) (s : State) :
    (writeRecord k a b c s).curtain = s.curtain := by
  simp only [writeRecord, withLinks_curtain, withLog_curtain]
@[simp] theorem writeRecord_monitor (k : EventKind) (a b c : Byte) (s : State) :
    (writeRecord k a b c s).monitor = s.monitor := by
  simp only [writeRecord, withLinks_monitor, withLog_monitor]
@[simp] theorem writeRecord_effects (k : EventKind) (a b c : Byte) (s : State) :
    (writeRecord k a b c s).effects = s.effects := by
  simp only [writeRecord, withLinks_effects, withLog_effects]
@[simp] theorem writeRecord_calls (k : EventKind) (a b c : Byte) (s : State) :
    (writeRecord k a b c s).calls = s.calls := by
  simp only [writeRecord, withLinks_calls, withLog_calls]
@[simp] theorem writeRecord_restart (k : EventKind) (a b c : Byte) (s : State) :
    (writeRecord k a b c s).restart = s.restart := by
  simp only [writeRecord, withLinks_restart, withLog_restart]
@[simp] theorem writeRecord_log (k : EventKind) (a b c : Byte) (s : State) :
    (writeRecord k a b c s).log = loggedIn s.log (recordNow s k a b c) := by
  simp only [writeRecord, withLinks_log, withLog_log]
@[simp] theorem writeRecord_links (k : EventKind) (a b c : Byte) (s : State) :
    (writeRecord k a b c s).links = eventOffered s (recordNow s k a b c) := by
  simp only [writeRecord, withLinks_links]

/-! ### Offering a frame changes the log and the links alone -/

@[simp] theorem overflowed_pending (q : QueueId) (f : Frame) (s : State) : (overflowed q f s).pending = s.pending := by
  unfold overflowed; split <;> simp only [withLinks_pending, writeRecord_pending]
@[simp] theorem overflowed_now (q : QueueId) (f : Frame) (s : State) : (overflowed q f s).now = s.now := by
  unfold overflowed; split <;> simp only [withLinks_now, writeRecord_now]
@[simp] theorem overflowed_lines (q : QueueId) (f : Frame) (s : State) : (overflowed q f s).lines = s.lines := by
  unfold overflowed; split <;> simp only [withLinks_lines, writeRecord_lines]
@[simp] theorem overflowed_store (q : QueueId) (f : Frame) (s : State) : (overflowed q f s).store = s.store := by
  unfold overflowed; split <;> simp only [withLinks_store, writeRecord_store]
@[simp] theorem overflowed_working (q : QueueId) (f : Frame) (s : State) : (overflowed q f s).working = s.working := by
  unfold overflowed; split <;> simp only [withLinks_working, writeRecord_working]
@[simp] theorem overflowed_tables (q : QueueId) (f : Frame) (s : State) : (overflowed q f s).tables = s.tables := by
  unfold overflowed; split <;> simp only [withLinks_tables, writeRecord_tables]
@[simp] theorem overflowed_phase (q : QueueId) (f : Frame) (s : State) : (overflowed q f s).phase = s.phase := by
  unfold overflowed; split <;> simp only [withLinks_phase, writeRecord_phase]
@[simp] theorem overflowed_stream (q : QueueId) (f : Frame) (s : State) : (overflowed q f s).stream = s.stream := by
  unfold overflowed; split <;> simp only [withLinks_stream, writeRecord_stream]
@[simp] theorem overflowed_levels (q : QueueId) (f : Frame) (s : State) : (overflowed q f s).levels = s.levels := by
  unfold overflowed; split <;> simp only [withLinks_levels, writeRecord_levels]
@[simp] theorem overflowed_curtain (q : QueueId) (f : Frame) (s : State) : (overflowed q f s).curtain = s.curtain := by
  unfold overflowed; split <;> simp only [withLinks_curtain, writeRecord_curtain]
@[simp] theorem overflowed_monitor (q : QueueId) (f : Frame) (s : State) : (overflowed q f s).monitor = s.monitor := by
  unfold overflowed; split <;> simp only [withLinks_monitor, writeRecord_monitor]
@[simp] theorem overflowed_effects (q : QueueId) (f : Frame) (s : State) : (overflowed q f s).effects = s.effects := by
  unfold overflowed; split <;> simp only [withLinks_effects, writeRecord_effects]
@[simp] theorem overflowed_calls (q : QueueId) (f : Frame) (s : State) : (overflowed q f s).calls = s.calls := by
  unfold overflowed; split <;> simp only [withLinks_calls, writeRecord_calls]
@[simp] theorem overflowed_restart (q : QueueId) (f : Frame) (s : State) : (overflowed q f s).restart = s.restart := by
  unfold overflowed; split <;> simp only [withLinks_restart, writeRecord_restart]
@[simp] theorem offer_pending (q : QueueId) (f : Frame) (s : State) : (offer q f s).pending = s.pending := by
  unfold offer; split <;> simp
@[simp] theorem offer_now (q : QueueId) (f : Frame) (s : State) : (offer q f s).now = s.now := by
  unfold offer; split <;> simp
@[simp] theorem offer_lines (q : QueueId) (f : Frame) (s : State) : (offer q f s).lines = s.lines := by
  unfold offer; split <;> simp
@[simp] theorem offer_store (q : QueueId) (f : Frame) (s : State) : (offer q f s).store = s.store := by
  unfold offer; split <;> simp
@[simp] theorem offer_working (q : QueueId) (f : Frame) (s : State) : (offer q f s).working = s.working := by
  unfold offer; split <;> simp
@[simp] theorem offer_tables (q : QueueId) (f : Frame) (s : State) : (offer q f s).tables = s.tables := by
  unfold offer; split <;> simp
@[simp] theorem offer_phase (q : QueueId) (f : Frame) (s : State) : (offer q f s).phase = s.phase := by
  unfold offer; split <;> simp
@[simp] theorem offer_stream (q : QueueId) (f : Frame) (s : State) : (offer q f s).stream = s.stream := by
  unfold offer; split <;> simp
@[simp] theorem offer_levels (q : QueueId) (f : Frame) (s : State) : (offer q f s).levels = s.levels := by
  unfold offer; split <;> simp
@[simp] theorem offer_curtain (q : QueueId) (f : Frame) (s : State) : (offer q f s).curtain = s.curtain := by
  unfold offer; split <;> simp
@[simp] theorem offer_monitor (q : QueueId) (f : Frame) (s : State) : (offer q f s).monitor = s.monitor := by
  unfold offer; split <;> simp
@[simp] theorem offer_effects (q : QueueId) (f : Frame) (s : State) : (offer q f s).effects = s.effects := by
  unfold offer; split <;> simp
@[simp] theorem offer_calls (q : QueueId) (f : Frame) (s : State) : (offer q f s).calls = s.calls := by
  unfold offer; split <;> simp
@[simp] theorem offer_restart (q : QueueId) (f : Frame) (s : State) : (offer q f s).restart = s.restart := by
  unfold offer; split <;> simp

/-! ### Taking a head frame changes the links alone -/

@[simp] theorem dropHead_pending (q : QueueId) (s : State) : (dropHead q s).pending = s.pending := by
  simp only [dropHead, withLinks_pending]
@[simp] theorem dropHead_now (q : QueueId) (s : State) : (dropHead q s).now = s.now := by
  simp only [dropHead, withLinks_now]
@[simp] theorem dropHead_lines (q : QueueId) (s : State) : (dropHead q s).lines = s.lines := by
  simp only [dropHead, withLinks_lines]
@[simp] theorem dropHead_store (q : QueueId) (s : State) : (dropHead q s).store = s.store := by
  simp only [dropHead, withLinks_store]
@[simp] theorem dropHead_working (q : QueueId) (s : State) : (dropHead q s).working = s.working := by
  simp only [dropHead, withLinks_working]
@[simp] theorem dropHead_tables (q : QueueId) (s : State) : (dropHead q s).tables = s.tables := by
  simp only [dropHead, withLinks_tables]
@[simp] theorem dropHead_phase (q : QueueId) (s : State) : (dropHead q s).phase = s.phase := by
  simp only [dropHead, withLinks_phase]
@[simp] theorem dropHead_stream (q : QueueId) (s : State) : (dropHead q s).stream = s.stream := by
  simp only [dropHead, withLinks_stream]
@[simp] theorem dropHead_levels (q : QueueId) (s : State) : (dropHead q s).levels = s.levels := by
  simp only [dropHead, withLinks_levels]
@[simp] theorem dropHead_curtain (q : QueueId) (s : State) : (dropHead q s).curtain = s.curtain := by
  simp only [dropHead, withLinks_curtain]
@[simp] theorem dropHead_monitor (q : QueueId) (s : State) : (dropHead q s).monitor = s.monitor := by
  simp only [dropHead, withLinks_monitor]
@[simp] theorem dropHead_effects (q : QueueId) (s : State) : (dropHead q s).effects = s.effects := by
  simp only [dropHead, withLinks_effects]
@[simp] theorem dropHead_calls (q : QueueId) (s : State) : (dropHead q s).calls = s.calls := by
  simp only [dropHead, withLinks_calls]
@[simp] theorem dropHead_links (q : QueueId) (s : State) : (dropHead q s).links = popFrame q s.links := by
  simp only [dropHead, withLinks_links]
@[simp] theorem dropHead_log (q : QueueId) (s : State) : (dropHead q s).log = s.log := by
  simp only [dropHead, withLinks_log]
@[simp] theorem dropHead_restart (q : QueueId) (s : State) : (dropHead q s).restart = s.restart := by
  simp only [dropHead, withLinks_restart]

/-! ### The notice of an act changes the log, the links and its own mark alone -/

@[simp] theorem sendNotice_pending (s : State) : (sendNotice s).pending = s.pending := by
  unfold sendNotice; split <;> simp
@[simp] theorem sendNotice_now (s : State) : (sendNotice s).now = s.now := by
  unfold sendNotice; split <;> simp
@[simp] theorem sendNotice_lines (s : State) : (sendNotice s).lines = s.lines := by
  unfold sendNotice; split <;> simp
@[simp] theorem sendNotice_store (s : State) : (sendNotice s).store = s.store := by
  unfold sendNotice; split <;> simp
@[simp] theorem sendNotice_working (s : State) : (sendNotice s).working = s.working := by
  unfold sendNotice; split <;> simp
@[simp] theorem sendNotice_tables (s : State) : (sendNotice s).tables = s.tables := by
  unfold sendNotice; split <;> simp
@[simp] theorem sendNotice_phase (s : State) : (sendNotice s).phase = s.phase := by
  unfold sendNotice; split <;> simp
@[simp] theorem sendNotice_stream (s : State) : (sendNotice s).stream = s.stream := by
  unfold sendNotice; split <;> simp
@[simp] theorem sendNotice_levels (s : State) : (sendNotice s).levels = s.levels := by
  unfold sendNotice; split <;> simp
@[simp] theorem sendNotice_curtain (s : State) : (sendNotice s).curtain = s.curtain := by
  unfold sendNotice; split <;> simp
@[simp] theorem sendNotice_monitor (s : State) : (sendNotice s).monitor = s.monitor := by
  unfold sendNotice; split <;> simp
@[simp] theorem sendNotice_calls (s : State) : (sendNotice s).calls = s.calls := by
  unfold sendNotice; split <;> simp
@[simp] theorem sendNotice_restart (s : State) : (sendNotice s).restart = s.restart := by
  unfold sendNotice; split <;> simp

theorem sendNotice_of_quiet {s : State} (h : s.effects.noticeDue = false) : sendNotice s = s := by simp [sendNotice, h]

@[simp] theorem sendNotice_effects (s : State) : (sendNotice s).effects = { s.effects with noticeDue := false } := by
  unfold sendNotice
  split
  · simp
  · rename_i h
    cases hs : s.effects with | mk a b c d => simp [hs] at h; simp [h]

/-! ### Sending a reply changes the log and the links alone -/

@[simp] theorem sendReply_pending (tag code : Byte) (r : Reply) (s : State) :
    (sendReply tag code r s).pending = s.pending := by
  simp [sendReply]
@[simp] theorem sendReply_now (tag code : Byte) (r : Reply) (s : State) : (sendReply tag code r s).now = s.now := by
  simp [sendReply]
@[simp] theorem sendReply_lines (tag code : Byte) (r : Reply) (s : State) :
    (sendReply tag code r s).lines = s.lines := by
  simp [sendReply]
@[simp] theorem sendReply_store (tag code : Byte) (r : Reply) (s : State) :
    (sendReply tag code r s).store = s.store := by
  simp [sendReply]
@[simp] theorem sendReply_working (tag code : Byte) (r : Reply) (s : State) :
    (sendReply tag code r s).working = s.working := by
  simp [sendReply]
@[simp] theorem sendReply_tables (tag code : Byte) (r : Reply) (s : State) :
    (sendReply tag code r s).tables = s.tables := by
  simp [sendReply]
@[simp] theorem sendReply_phase (tag code : Byte) (r : Reply) (s : State) :
    (sendReply tag code r s).phase = s.phase := by
  simp [sendReply]
@[simp] theorem sendReply_stream (tag code : Byte) (r : Reply) (s : State) :
    (sendReply tag code r s).stream = s.stream := by
  simp [sendReply]
@[simp] theorem sendReply_levels (tag code : Byte) (r : Reply) (s : State) :
    (sendReply tag code r s).levels = s.levels := by
  simp [sendReply]
@[simp] theorem sendReply_curtain (tag code : Byte) (r : Reply) (s : State) :
    (sendReply tag code r s).curtain = s.curtain := by
  simp [sendReply]
@[simp] theorem sendReply_monitor (tag code : Byte) (r : Reply) (s : State) :
    (sendReply tag code r s).monitor = s.monitor := by
  simp [sendReply]
@[simp] theorem sendReply_effects (tag code : Byte) (r : Reply) (s : State) :
    (sendReply tag code r s).effects = s.effects := by
  simp [sendReply]
@[simp] theorem sendReply_calls (tag code : Byte) (r : Reply) (s : State) :
    (sendReply tag code r s).calls = s.calls := by
  simp [sendReply]
@[simp] theorem sendReply_restart (tag code : Byte) (r : Reply) (s : State) :
    (sendReply tag code r s).restart = s.restart := by
  simp [sendReply]

end Sys2Proof.Machine
end

