-- ==== Sys2Proof/Laws/Closed.lean ====
section
/-! SUPPORT. What the shared operations can do, said once: a property of states kept by the primitive moves an operation
is made of is kept by the operation. Every frame and every invariant about a part of the state that an operation does
not touch follows from these by choosing the property. This file: lists, and the Call Sequencer's operations. -/

namespace Sys2Proof.Machine

/-- A property kept by every step of a fold is kept by the fold. -/
theorem foldl_keeps {α : Type} {P : State → Prop} {f : State → α → State} (h : ∀ s a, P s → P (f s a)) (l : List α) :
    ∀ s, P s → P (l.foldl f s) := by
  induction l with
  | nil => exact fun s hs => hs
  | cons a l ih => exact fun s hs => ih _ (h s a hs)

/-- A property of both branches is a property of the choice. -/
theorem ite_keeps {P : State → Prop} {c : Prop} [Decidable c] {a b : State} (ha : P a) (hb : P b) :
    P (if c then a else b) := by
  split
  · exact ha
  · exact hb

/-- A property kept by writing a record and by offering a frame. -/
structure RecordClosed (P : State → Prop) : Prop where
  record : ∀ {s} k a b c, P s → P (writeRecord k a b c s)
  offer : ∀ {s} q f, P s → P (offer q f s)

/-- A property that the Call Sequencer's state does not decide. -/
structure CallsClosed (P : State → Prop) : Prop extends RecordClosed P where
  calls : ∀ {s} x, P s → P (s.withCalls x)

section
variable {P : State → Prop} (hP : CallsClosed P) {s : State}
include hP

theorem putCall_keeps (e : EntryId) (c : Option Call) (h : P s) : P (putCall e c s) := hP.calls _ h

theorem markFreed_keeps (h : P s) : P (markFreed s) := hP.calls _ h

theorem setFlash_keeps (a : AreaSet) (f : FlashState) (h : P s) : P (setFlash a f s) := hP.calls _ h

theorem sendToArea_keeps (cmd x y : Byte) (a : AreaId) (h : P s) : P (sendToArea cmd x y s a) := by
  unfold sendToArea sendCommand
  split
  · exact hP.offer _ _ h
  · exact h

theorem sendToAreas_keeps (areas : AreaSet) (cmd x y : Byte) (h : P s) : P (sendToAreas areas cmd x y s) :=
  foldl_keeps (fun _ a hs => sendToArea_keeps hP cmd x y a hs) _ _ h

theorem endCall_keeps (o : CallOutcome) (e : EntryId) (h : P s) : P (endCall o e s) := by
  unfold endCall
  split
  · exact h
  · refine hP.record _ _ _ _ (setFlash_keeps hP _ _ (hP.calls _ ?_))
    split
    · exact sendToAreas_keeps hP _ _ _ _ h
    · exact h

theorem beginChime_keeps (e : EntryId) (c : Call) (st : StepBytes) (h : P s) : P (beginChime e c st s) :=
  putCall_keeps hP _ _ (sendToAreas_keeps hP _ _ _ _ h)

theorem beginMessage_keeps (e : EntryId) (c : Call) (st : StepBytes) (h : P s) : P (beginMessage e c st s) :=
  putCall_keeps hP _ _ (sendToAreas_keeps hP _ _ _ _ h)

theorem beginFlash_keeps (e : EntryId) (c : Call) (st : StepBytes) (h : P s) : P (beginFlash e c st s) :=
  putCall_keeps hP _ _ (setFlash_keeps hP _ _ h)

theorem beginWait_keeps (e : EntryId) (c : Call) (st : StepBytes) (h : P s) : P (beginWait e c st s) :=
  putCall_keeps hP _ _ h

theorem runSteps_keeps (n : Nat) (e : EntryId) : ∀ {s}, P s → P (runSteps n e s) := by
  induction n with
  | zero => exact fun h => h
  | succ n ih =>
    intro s h
    unfold runSteps
    split
    · exact h
    · dsimp only
      split
      · exact beginChime_keeps hP _ _ _ h
      · exact beginMessage_keeps hP _ _ _ h
      · exact beginFlash_keeps hP _ _ _ h
      · exact beginWait_keeps hP _ _ _ h
      · exact ih (putCall_keeps hP _ _ h)
      · exact endCall_keeps hP _ _ h

theorem stepEnds_keeps (e : EntryId) (h : P s) : P (stepEnds e s) := by
  unfold stepEnds
  split
  · exact h
  · exact runSteps_keeps hP _ _ (putCall_keeps hP _ _ h)

theorem takeArea_keeps (w : EntryId) (a : AreaId) (h : P s) : P (takeArea w a s) := by
  unfold takeArea
  split
  · exact h
  · exact putCall_keeps hP _ _ h

theorem preempt_keeps (w : EntryId) (takes : Bool) (a : AreaId) (h : P s) : P (preempt w takes s a) := by
  unfold preempt
  split
  · exact h
  · split
    · exact h
    · split
      · exact h
      · have h1 := fun (l : EntryId) (c : Call) => setFlash_keeps hP (oneArea a) .inactive
          (putCall_keeps hP l (some (loseArea s.tables a c)) (sendToArea_keeps hP cmdStop 0 0 a h))
        have h2 := fun l c => stepEnds_keeps hP l (h1 l c)
        have h3 : ∀ {b : Bool} {t : State}, P t → P (if b = true then takeArea w a t else markFreed t) := fun ht =>
          ite_keeps (takeArea_keeps hP _ _ ht) (markFreed_keeps hP ht)
        exact ite_keeps (endCall_keeps hP _ _ (h3 (ite_keeps (h2 _ _) (h1 _ _)))) (h3 (ite_keeps (h2 _ _) (h1 _ _)))

theorem seizeArea_keeps (w : EntryId) (a : AreaId) (h : P s) : P (seizeArea w s a) :=
  takeArea_keeps hP _ _ (preempt_keeps hP _ _ _ h)

theorem startRunning_keeps (e : EntryId) (h : P s) : P (startRunning e s) := by
  unfold startRunning
  split
  · exact h
  · have h1 : ∀ l : List AreaId, P (l.foldl (seizeArea e) s) := fun l =>
      foldl_keeps (fun _ a hs => seizeArea_keeps hP _ a hs) l _ h
    dsimp only
    split
    · exact h1 _
    · exact runSteps_keeps hP _ _ (hP.record _ _ _ _ (putCall_keeps hP _ _ (h1 _)))

theorem placeCall_keeps (e : EntryId) (p : ProgramId) (o : Origin) (areas : AreaSet) (h : P s) :
    P (placeCall e p o areas s) := hP.calls _ h

theorem joinPending_keeps (e : EntryId) (priority seconds : Nat) (h : P s) : P (joinPending e priority seconds s) := by
  unfold joinPending
  split
  · exact h
  · exact hP.calls _ (putCall_keeps hP _ _ h)

theorem clearArea_keeps (e : EntryId) (priority : Nat) (a : AreaId) (h : P s) : P (clearArea e priority s a) := by
  unfold clearArea
  split
  · split
    · exact preempt_keeps hP _ _ _ h
    · exact h
  · exact h

theorem admitCall_keeps (e : EntryId) (p : ProgramId) (o : Origin) (areas : AreaSet) (h : P s) :
    P (admitCall e p o areas s) := by
  have h1 := placeCall_keeps hP e p o areas h
  unfold admitCall
  dsimp only
  split
  · exact startRunning_keeps hP _ h1
  · split
    · exact endCall_keeps hP _ _ h1
    · exact joinPending_keeps hP _ _ _ (foldl_keeps (fun _ a hs => clearArea_keeps hP _ _ a hs) _ _ h1)

theorem examineCall_keeps (e : EntryId) (h : P s) : P (examineCall s e) := by
  unfold examineCall
  split
  · exact h
  · split
    · exact h
    · split
      · exact h
      · exact startRunning_keeps hP _ (hP.calls _ (putCall_keeps hP _ _ h))

theorem examine_keeps (h : P s) : P (examine s) := foldl_keeps (fun _ e hs => examineCall_keeps hP e hs) _ _ h

theorem settleFor_keeps (n : Nat) : ∀ {s}, P s → P (settleFor n s) := by
  induction n with
  | zero => exact fun h => h
  | succ n ih =>
    intro s h
    unfold settleFor
    split
    · exact ih (examine_keeps hP (hP.calls _ h))
    · exact h

theorem settle_keeps (h : P s) : P (settle s) := hP.calls _ (settleFor_keeps hP _ h)

theorem suppressOrdinary_keeps (h : P s) : P (suppressOrdinary s) := by
  refine foldl_keeps (fun x e hx => ?_) _ _ (foldl_keeps (fun _ _ hx => endCall_keeps hP _ _ hx) _ _ h)
  split
  · exact endCall_keeps hP _ _ hx
  · exact hx

theorem startAlarmCall_keeps (e : EntryId) (p : ProgramId) (o : Origin) (areas : AreaSet) (h : P s) :
    P (startAlarmCall e p o areas s) := startRunning_keeps hP _ (placeCall_keeps hP _ _ _ _ h)

theorem growArea_keeps (a : AreaId) (h : P s) : P (growArea s a) := by
  unfold growArea
  split
  · exact h
  · split
    · exact h
    · exact seizeArea_keeps hP _ _ (putCall_keeps hP _ _ h)

theorem askEvacuation_keeps (h : P s) : P (askEvacuation s) := by
  unfold askEvacuation
  dsimp only
  split
  · exact h
  · split
    · exact h
    · split
      · exact startAlarmCall_keeps hP _ _ _ _ h
      · exact foldl_keeps (fun _ a hs => growArea_keeps hP a hs) _ _ h

theorem askStaff_keeps (h : P s) : P (askStaff s) := by
  unfold askStaff
  split
  · exact h
  · split
    · exact startAlarmCall_keeps hP _ _ _ _ h
    · exact h

/-! ### The Call Sequencer's commands -/

theorem startCallOwner_keeps (args : List Byte) (h : P s) : P (startCallOwner args s).1 := by
  unfold startCallOwner
  split
  · exact h
  · exact settle_keeps hP (admitCall_keeps hP _ _ _ _ h)

theorem cancelCallOwner_keeps (args : List Byte) (h : P s) : P (cancelCallOwner args s).1 := by
  unfold cancelCallOwner
  split
  · exact h
  · split
    · exact h
    · exact endCall_keeps hP _ _ h

theorem extendIntervalOwner_keeps (args : List Byte) (h : P s) : P (extendIntervalOwner args s).1 := by
  unfold extendIntervalOwner
  split
  · exact h
  · exact hP.calls _ h

theorem timedStepEnds_keeps (kind : Byte) (e : EntryId) (h : P s) : P (timedStepEnds kind e s) := by
  unfold timedStepEnds
  split
  · exact settle_keeps hP (stepEnds_keeps hP _ h)
  · exact h

theorem messageLimit_keeps (e : EntryId) (h : P s) : P (messageLimit e s) := by
  unfold messageLimit
  split
  · exact h
  · exact settle_keeps hP (stepEnds_keeps hP _ (foldl_keeps (fun _ _ hx => hP.record _ _ _ _ hx) _ _ h))

theorem flashTurn_keeps (e : EntryId) (h : P s) : P (flashTurn e s) := by
  unfold flashTurn
  split
  · exact h
  · dsimp only
    split
    · exact h
    · split
      · exact setFlash_keeps hP _ _ (putCall_keeps hP _ _ h)
      · split
        · exact setFlash_keeps hP _ _ (putCall_keeps hP _ _ h)
        · exact settle_keeps hP (stepEnds_keeps hP _ (setFlash_keeps hP _ _ h))

theorem deadlineOut_keeps (e : EntryId) (h : P s) : P (deadlineOut e s) := by
  unfold deadlineOut
  split
  · split
    · exact settle_keeps hP (endCall_keeps hP _ _ h)
    · exact h
  · exact h

theorem unitAnswers_keeps (unit message : Byte) (h : P s) : P (unitAnswers unit message s) := by
  unfold unitAnswers
  split
  · exact h
  · split
    · exact h
    · split
      · exact h
      · dsimp only
        split
        · split
          · exact settle_keeps hP (stepEnds_keeps hP _ (putCall_keeps hP _ _ h))
          · exact putCall_keeps hP _ _ h
        · exact h

theorem takeCallDone_keeps (f : Frame) (h : P s) : P (takeCallDone f s) := by
  unfold takeCallDone
  split
  · exact unitAnswers_keeps hP _ _ h
  · exact h

theorem setProgress_keeps (i : Fin 6) (p : Progress) (h : P s) : P (setProgress i p s) := hP.calls _ h

theorem startInterval_keeps (length : Nat) (h : P s) : P (startInterval length s) := by
  refine foldl_keeps (fun x i hx => ?_) _ _ (hP.calls _ h)
  unfold startEntry
  dsimp only
  split
  · exact setProgress_keeps hP _ _ hx
  · split
    · exact hP.record _ _ _ _ (setProgress_keeps hP _ _ hx)
    · exact setProgress_keeps hP _ _ hx

theorem stopInterval_keeps (h : P s) : P (stopInterval s) := hP.calls _ h

theorem fireIfDue_keeps (i : Fin 6) (h : P s) : P (fireIfDue s i) := by
  unfold fireIfDue
  split
  · unfold fireEntry
    dsimp only
    split
    · exact hP.record _ _ _ _ (setProgress_keeps hP _ _ h)
    · exact admitCall_keeps hP _ _ _ _ (setProgress_keeps hP _ _ h)
  · exact h

theorem intervalEnds_keeps (h : P s) : P (intervalEnds s) := hP.calls _ (hP.record _ _ _ _ h)

theorem clockTick_keeps (h : P s) : P (clockTick s) := by
  have h1 := foldl_keeps (fun _ i hs => fireIfDue_keeps hP i hs) (List.finRange 6) _
    (hP.calls { s.calls with remaining := s.calls.remaining - 1, clock := afterS s 1 } h)
  exact settle_keeps hP (ite_keeps (intervalEnds_keeps hP h1) h1)

end

/-- Without a mark of an area freed, there is nothing to examine. -/
theorem settle_of_quiet {s : State} (h : s.calls.freed = false) : settle s = s := by
  have hc : { s.calls with freed := false } = s.calls := by
    cases hs : s.calls
    simp_all
  have h1 : ∀ n, settleFor (n + 1) s = s := fun n => by simp [settleFor, h]
  rw [settle, h1, hc]
  rfl

@[simp] theorem settle_freed (s : State) : (settle s).calls.freed = false := by simp [settle]

/-- The examination at the end of an act reaches the calls, the links and the log alone. -/
theorem settle_field {α : Type} {f : State → α} (hr : ∀ s k a b c, f (writeRecord k a b c s) = f s)
    (ho : ∀ s q g, f (offer q g s) = f s) (hc : ∀ s x, f (s.withCalls x) = f s) (s : State) : f (settle s) = f s :=
  settle_keeps (P := fun t => f t = f s) { record := fun k a b c h => (hr _ k a b c).trans h
                                           offer := fun q g h => (ho _ q g).trans h
                                           calls := fun x h => (hc _ x).trans h } rfl

@[simp] theorem settle_pending (s : State) : (settle s).pending = s.pending := settle_field (by simp) (by simp) (by simp) s
@[simp] theorem settle_now (s : State) : (settle s).now = s.now := settle_field (by simp) (by simp) (by simp) s
@[simp] theorem settle_lines (s : State) : (settle s).lines = s.lines := settle_field (by simp) (by simp) (by simp) s
@[simp] theorem settle_store (s : State) : (settle s).store = s.store := settle_field (by simp) (by simp) (by simp) s
@[simp] theorem settle_working (s : State) : (settle s).working = s.working := settle_field (by simp) (by simp) (by simp) s
@[simp] theorem settle_tables (s : State) : (settle s).tables = s.tables := settle_field (by simp) (by simp) (by simp) s
@[simp] theorem settle_phase (s : State) : (settle s).phase = s.phase := settle_field (by simp) (by simp) (by simp) s
@[simp] theorem settle_stream (s : State) : (settle s).stream = s.stream := settle_field (by simp) (by simp) (by simp) s
@[simp] theorem settle_levels (s : State) : (settle s).levels = s.levels := settle_field (by simp) (by simp) (by simp) s
@[simp] theorem settle_curtain (s : State) : (settle s).curtain = s.curtain := settle_field (by simp) (by simp) (by simp) s
@[simp] theorem settle_monitor (s : State) : (settle s).monitor = s.monitor := settle_field (by simp) (by simp) (by simp) s
@[simp] theorem settle_restart (s : State) : (settle s).restart = s.restart := settle_field (by simp) (by simp) (by simp) s
@[simp] theorem settle_effects (s : State) : (settle s).effects = s.effects := settle_field (by simp) (by simp) (by simp) s

/-! ### The end of an act -/

@[simp] theorem endAct_pending (s : State) : (endAct s).pending = s.pending := by simp [endAct]
@[simp] theorem endAct_now (s : State) : (endAct s).now = s.now := by simp [endAct]
@[simp] theorem endAct_lines (s : State) : (endAct s).lines = s.lines := by simp [endAct]
@[simp] theorem endAct_store (s : State) : (endAct s).store = s.store := by simp [endAct]
@[simp] theorem endAct_working (s : State) : (endAct s).working = s.working := by simp [endAct]
@[simp] theorem endAct_tables (s : State) : (endAct s).tables = s.tables := by simp [endAct]
@[simp] theorem endAct_phase (s : State) : (endAct s).phase = s.phase := by simp [endAct]
@[simp] theorem endAct_stream (s : State) : (endAct s).stream = s.stream := by simp [endAct]
@[simp] theorem endAct_levels (s : State) : (endAct s).levels = s.levels := by simp [endAct]
@[simp] theorem endAct_curtain (s : State) : (endAct s).curtain = s.curtain := by simp [endAct]
@[simp] theorem endAct_monitor (s : State) : (endAct s).monitor = s.monitor := by simp [endAct]
@[simp] theorem endAct_restart (s : State) : (endAct s).restart = s.restart := by simp [endAct]
@[simp] theorem endAct_effects (s : State) : (endAct s).effects = { s.effects with noticeDue := false } := by
  simp [endAct]
@[simp] theorem endAct_calls (s : State) : (endAct s).calls = (settle s).calls := by simp [endAct]

/-- An act that freed no area, took no call from the list and changed none of the notice's three ends as it stands. -/
theorem endAct_of_quiet {s : State} (h : s.effects.noticeDue = false) (hf : s.calls.freed = false) : endAct s = s := by
  rw [endAct, settle_of_quiet hf, sendNotice_of_quiet h]

end Sys2Proof.Machine
end

