-- ==== Sys2Proof/Laws/CurtainClosed.lean ====
section
/-! SUPPORT. What the Curtain Governor's operations can do, said once: they keep every property that the governor's own
state, curtain-test validity and the notice mark do not decide, and that the report to zone 64 keeps. -/

namespace Sys2Proof.Machine

/-- A property that the governor's state, the Phase Controller and the Effect Unit do not decide. -/
structure CurtainClosed (P : State → Prop) : Prop extends RecordClosed P where
  curtain : ∀ {s} x, P s → P (s.withCurtain x)
  phase : ∀ {s} x, P s → P (s.withPhase x)
  effects : ∀ {s} x, P s → P (s.withEffects x)

section
variable {P : State → Prop} (hP : CurtainClosed P) {rep : Reporter} (hr : ∀ r {s}, P s → P (rep r s)) {s : State}
include hP

theorem updCurtain_keeps (f : Curtain → Curtain) (h : P s) : P (updCurtain f s) := hP.curtain _ h

theorem toState_keeps (st : CurtainState) (h : P s) : P (toState st s) :=
  ite_keeps h (hP.record _ _ _ _ (hP.effects _ (hP.curtain _ h)))

theorem closeTest_keeps (pass : Bool) (total : Option Nat) (h : P s) : P (closeTest pass total s) := by
  unfold closeTest
  split
  · exact hP.record _ _ _ _ (hP.phase _ (hP.curtain _ h))
  · exact h
  · exact h

theorem closeTestAtIn_keeps (h : P s) : P (closeTestAtIn s) := closeTest_keeps hP _ _ h

theorem updTest_keeps (f : TestRecord → TestRecord) (h : P s) : P (updTest f s) := by
  unfold updTest
  split
  · exact hP.curtain _ h
  · exact h
  · exact h

theorem noteFirstMove_keeps (h : P s) : P (noteFirstMove s) := updTest_keeps hP _ h

theorem fallBegins_keeps (h : P s) : P (fallBegins s) := hP.curtain _ h

theorem becomeSlowing_keeps (h : P s) : P (becomeSlowing s) := toState_keeps hP _ (hP.curtain _ h)

theorem enterSlowing_keeps (h : P s) : P (enterSlowing s) := ite_keeps (becomeSlowing_keeps hP h) h

theorem takeReference_keeps (h : P s) : P (takeReference s) := hP.curtain _ h

include hr

theorem recordFault_keeps (f : CurtainFault) (h : P s) : P (recordFault rep f s) :=
  ite_keeps h (hr _ (hP.record _ _ _ _ (hP.curtain _ h)))

theorem referenceAt_keeps (p : Nat) (h : P s) : P (referenceAt rep p s) :=
  hP.curtain _ (ite_keeps (recordFault_keeps hP hr _ h) h)

theorem arriveIn_keeps (h : P s) : P (arriveIn rep s) :=
  hr _ (toState_keeps hP _ (closeTestAtIn_keeps hP (hP.curtain _ (referenceAt_keeps hP hr _ h))))

theorem arriveOut_keeps (h : P s) : P (arriveOut rep s) :=
  hr _ (toState_keeps hP _ (hP.curtain _ (referenceAt_keeps hP hr _ h)))

theorem compareSwitch_keeps (asserts : Bool) (h : P s) : P (compareSwitch rep asserts s) :=
  ite_keeps (recordFault_keeps hP hr _ h) h

theorem slowZoneTest_keeps (asserts : Bool) (h : P s) : P (slowZoneTest rep asserts s) :=
  enterSlowing_keeps hP (compareSwitch_keeps hP hr _ h)

theorem enterDescending_keeps (h : P s) : P (enterDescending rep s) :=
  enterSlowing_keeps hP (toState_keeps hP _ (compareSwitch_keeps hP hr _ h))

theorem releaseFromOut_keeps (h : P s) : P (releaseFromOut rep s) :=
  enterDescending_keeps hP hr (fallBegins_keeps hP (hP.curtain _ h))

theorem abortRaise_keeps (h : P s) : P (abortRaise rep s) :=
  ite_keeps (arriveIn_keeps hP hr (hP.curtain _ h)) (enterDescending_keeps hP hr (fallBegins_keeps hP (hP.curtain _ h)))

theorem demandTaken_keeps (h : P s) : P (demandTaken rep s) := by
  unfold demandTaken
  split
  · exact releaseFromOut_keeps hP hr h
  · exact abortRaise_keeps hP hr h
  all_goals exact h

theorem addDemand_keeps (d : Demand) (h : P s) : P (addDemand rep d s) :=
  ite_keeps (hP.curtain _ h) (demandTaken_keeps hP hr (hP.curtain _ h))

theorem addAlarm_keeps (h : P s) : P (addAlarm rep s) := by
  have h1 := addDemand_keeps hP hr .alarm (closeTest_keeps hP false none h)
  exact ite_keeps h (ite_keeps (hr _ h1) h1)

theorem limitsConflict_keeps (h : P s) : P (limitsConflict rep s) :=
  toState_keeps hP _ (hP.curtain _ (recordFault_keeps hP hr _ h))

theorem raiseFails_keeps (h : P s) : P (raiseFails rep s) :=
  abortRaise_keeps hP hr (hP.curtain _ (recordFault_keeps hP hr _ h))

theorem limitInTaken_keeps (h : P s) : P (limitInTaken rep s) :=
  ite_keeps (referenceAt_keeps hP hr _ h) (arriveIn_keeps hP hr h)

theorem releaseThroughOut_keeps (h : P s) : P (releaseThroughOut rep s) :=
  releaseFromOut_keeps hP hr (toState_keeps hP _ (referenceAt_keeps hP hr _ h))

theorem limitOutTaken_keeps (h : P s) : P (limitOutTaken rep s) := by
  unfold limitOutTaken
  split
  · exact arriveOut_keeps hP hr h
  · exact referenceAt_keeps hP hr _ h
  all_goals first
    | exact hP.curtain _ (referenceAt_keeps hP hr _ h)
    | exact releaseThroughOut_keeps hP hr h

theorem judgeMain_keeps (v : Nat) (h : P s) : P (judgeMain rep v s) := by
  have h1 := fun f g => updTest_keeps hP g (updTest_keeps hP f h)
  have h2 := fun f g => ite_keeps (c := s.tables.curtain.vmax.toNat < v) (recordFault_keeps hP hr .overspeed (h1 f g))
    (h1 f g)
  exact ite_keeps (updTest_keeps hP _ h) (ite_keeps (recordFault_keeps hP hr _ (h2 _ _)) (h2 _ _))

theorem judgeSlow_keeps (v : Nat) (h : P s) : P (judgeSlow rep v s) := by
  unfold judgeSlow
  split
  · exact h
  · exact ite_keeps (ite_keeps (recordFault_keeps hP hr _ (updTest_keeps hP _ h)) (updTest_keeps hP _ h)) h

theorem windowEnd_keeps (reference wraps : Nat) (h : P s) : P (windowEnd rep reference wraps s) :=
  ite_keeps (judgeSlow_keeps hP hr _ (hP.curtain _ h)) (judgeMain_keeps hP hr _ (hP.curtain _ h))

theorem countWindow_keeps (h : P s) : P (countWindow rep s) := by
  unfold countWindow
  split
  · exact takeReference_keeps hP h
  · exact ite_keeps (hP.curtain _ h) (windowEnd_keeps hP hr _ _ h)

theorem driftTest_keeps (h : P s) : P (driftTest rep s) := ite_keeps (recordFault_keeps hP hr _ h) h

theorem leaveStalled_keeps (h : P s) : P (leaveStalled rep s) := by
  have h1 := compareSwitch_keeps hP hr false h
  exact ite_keeps (toState_keeps hP _ h1) (ite_keeps (becomeSlowing_keeps hP h1) (toState_keeps hP _ h1))

theorem downCount_keeps (h : P s) : P (downCount rep s) := by
  have h0 := hP.curtain { s.curtain with position := s.curtain.position - 1 } h
  refine ite_keeps h0 ?_
  split
  · exact enterDescending_keeps hP hr (takeReference_keeps hP (hP.curtain _ h0))
  · exact slowZoneTest_keeps hP hr _ (countWindow_keeps hP hr (noteFirstMove_keeps hP (hP.curtain _ h0)))
  · exact slowZoneTest_keeps hP hr _ (countWindow_keeps hP hr (noteFirstMove_keeps hP (hP.curtain _ h0)))
  · exact leaveStalled_keeps hP hr (takeReference_keeps hP (noteFirstMove_keeps hP (hP.curtain _ h0)))
  · exact driftTest_keeps hP hr h0
  · exact h0
  · exact h0

theorem upCount_keeps (h : P s) : P (upCount rep s) := by
  have h0 := hP.curtain { s.curtain with position := if s.curtain.position < s.tables.curtain.travel.toNat
    then s.curtain.position + 1 else s.curtain.position } h
  refine ite_keeps h0 ?_
  split
  · exact hP.curtain _ h0
  · exact hP.curtain _ h0
  · exact hP.curtain _ h0
  · exact hP.curtain _ h0
  · exact driftTest_keeps hP hr h0
  · exact h0
  · exact h0

theorem illegalCount_keeps (h : P s) : P (illegalCount rep s) := recordFault_keeps hP hr _ (hP.curtain _ h)

end

end Sys2Proof.Machine
end

