-- ==== Sys2Proof/Laws/ZonesClosed.lean ====
section
/-! SUPPORT. What the Zone Monitor's operations can do, said once: they keep every property that the Zone Monitor's own
state does not decide, and that the hand-over keeps. -/

namespace Sys2Proof.Machine

/-- A property that the Zone Monitor's state does not decide. -/
structure ZonesClosed (P : State → Prop) : Prop extends RecordClosed P where
  monitor : ∀ {s} x, P s → P (s.withMonitor x)

section
variable {P : State → Prop} (hP : ZonesClosed P) {ho : HandOver} (hh : ∀ b {s}, P s → P (ho b s)) {s : State}
include hP

theorem updZone_keeps (z : ZoneId) (f : Zone → Zone) (h : P s) : P (updZone z f s) := hP.monitor _ h

theorem clearKnock_keeps (z : ZoneId) (h : P s) : P (clearKnock z s) := hP.monitor _ h

include hh

theorem enterState_keeps (z : ZoneId) (st : ZoneState) (h : P s) : P (enterState ho z st s) :=
  ite_keeps h (hh _ (hP.record _ _ _ _ (hP.monitor _ h)))

theorem putMap_keeps (z : ZoneId) (ds : List Device) (h : P s) : P (putMap ho z ds s) :=
  ite_keeps (hP.monitor _ h) (hh _ (hP.monitor _ h))

theorem noteReport_keeps (z : ZoneId) (n : Byte) (k : ReportKind) (c : Condition) (h : P s) :
    P (noteReport ho z n k c s) := ite_keeps (hP.record _ _ _ _ h) (putMap_keeps hP hh _ _ h)

theorem settlePre_keeps (z : ZoneId) (h : P s) : P (settlePre ho z s) := ite_keeps (enterState_keeps hP hh _ _ h) h

theorem endKnock_keeps (z : ZoneId) (h : P s) : P (endKnock ho z s) :=
  enterState_keeps hP hh _ _ (clearKnock_keeps hP _ h)

theorem normalReport_keeps (z : ZoneId) (n : Byte) (h : P s) : P (normalReport ho z n s) := by
  have h1 := putMap_keeps hP hh z (removeDevice n (zoneAt s z).devices) h
  exact ite_keeps (endKnock_keeps hP hh _ h1) (settlePre_keeps hP hh _ h1)

theorem preReport_keeps (z : ZoneId) (n : Byte) (h : P s) : P (preReport ho z n s) := by
  have h1 := noteReport_keeps hP hh z n .pre .pre h
  exact ite_keeps (enterState_keeps hP hh _ _ h1)
    (ite_keeps (enterState_keeps hP hh _ _ (clearKnock_keeps hP _ h1)) h1)

theorem faultReport_keeps (z : ZoneId) (n : Byte) (h : P s) : P (faultReport ho z n s) := by
  have h1 := noteReport_keeps hP hh z n .fault .fault h
  exact ite_keeps (endKnock_keeps hP hh _ h1) (settlePre_keeps hP hh _ h1)

theorem manualReport_keeps (z : ZoneId) (n : Byte) (h : P s) : P (manualReport ho z n s) :=
  enterState_keeps hP hh _ _ (noteReport_keeps hP hh _ _ _ _ h)

theorem investigate_keeps (z : ZoneId) (starters : List Byte) (h : P s) : P (investigate ho z starters s) :=
  enterState_keeps hP hh _ _ (hP.monitor _ h)

theorem toAlarm_keeps (zs : List ZoneId) (h : P s) : P (toAlarm ho zs s) :=
  foldl_keeps (fun _ _ hx => enterState_keeps hP hh _ _ hx) _ _ h

theorem confirm_keeps (z : ZoneId) (starters : List Byte) (h : P s) : P (confirm ho z starters s) := by
  have h1 := clearKnock_keeps hP z h
  exact ite_keeps (enterState_keeps hP hh _ _ h1)
    (ite_keeps (investigate_keeps hP hh _ _ h1) (toAlarm_keeps hP hh _ h1))

theorem fireActs_keeps (z : ZoneId) (n : Byte) (h : P s) : P (fireActs ho z n s) := by
  have h1 : P (if (rowOf s z).coincidence = 1 then
      enterState ho z .firstKnock (updZone z (fun r => { r with knock := some n }) s) else confirm ho z [n] s) :=
    ite_keeps (enterState_keeps hP hh _ _ (hP.monitor _ h)) (confirm_keeps hP hh _ _ h)
  unfold fireActs
  dsimp only
  split
  · exact h1
  · exact h1
  · exact ite_keeps h (confirm_keeps hP hh _ _ h)
  · exact ite_keeps h (enterState_keeps hP hh _ _ h)
  · exact h

theorem replayDevice_keeps (z : ZoneId) (n : Byte) (h : P s) : P (replayDevice ho z s n) := by
  unfold replayDevice
  split
  · exact fireActs_keeps hP hh _ _ (putMap_keeps hP hh _ _ h)
  · exact h

theorem closeWindow_keeps (cause : CloseCause) (z : ZoneId) (h : P s) : P (closeWindow ho cause s z) :=
  ite_keeps h (foldl_keeps (fun _ _ hx => replayDevice_keeps hP hh _ _ hx) _ _ (hP.record _ _ _ _ (hP.monitor _ h)))

theorem closeWindows_keeps (cause : CloseCause) (h : P s) : P (closeWindows ho cause s) :=
  foldl_keeps (fun _ _ hx => closeWindow_keeps hP hh _ _ hx) _ _ h

theorem openFire_keeps (z : ZoneId) (n : Byte) (h : P s) : P (openFire ho z n s) :=
  fireActs_keeps hP hh _ _ (putMap_keeps hP hh _ _ h)

theorem maskedFire_keeps (z : ZoneId) (n : Byte) (h : P s) : P (maskedFire ho z n s) := by
  have h1 := hP.record .isolatedFire (zoneByte z) n 0
    (putMap_keeps hP hh z (setDevice n (.fire true) (zoneAt s z).devices) h)
  exact ite_keeps (enterState_keeps hP hh _ _ h1) h1

theorem fireReport_keeps (z : ZoneId) (n : Byte) (h : P s) : P (fireReport ho z n s) :=
  ite_keeps h (ite_keeps (fireActs_keeps hP hh _ _ (closeWindow_keeps hP hh _ _ (hP.record _ _ _ _ h)))
    (ite_keeps (maskedFire_keeps hP hh _ _ h) (openFire_keeps hP hh _ _ h)))

theorem applyReport_keeps (z : ZoneId) (k : ReportKind) (n : Byte) (h : P s) : P (applyReport ho z k n s) := by
  cases k
  · exact normalReport_keeps hP hh _ _ h
  · exact preReport_keeps hP hh _ _ h
  · exact fireReport_keeps hP hh _ _ h
  · exact manualReport_keeps hP hh _ _ h
  · exact faultReport_keeps hP hh _ _ h

theorem takeReport_keeps (body : List Byte) (h : P s) : P (takeReport ho body s) := by
  unfold takeReport
  split
  · exact hP.record _ _ _ _ h
  · exact applyReport_keeps hP hh _ _ _ h

theorem endInvestigation_keeps (h : P s) : P (endInvestigation ho s) := toAlarm_keeps hP hh _ h

theorem report64_keeps (r : CurtainReport) (h : P s) : P (report64 ho r s) := by
  unfold report64
  split
  · exact enterState_keeps hP hh _ _ h
  · exact enterState_keeps hP hh _ _ h
  · exact enterState_keeps hP hh _ _ h
  · exact h
  · exact h

theorem panelFire_keeps (h : P s) : P (panelFire ho s) := enterState_keeps hP hh _ _ h

end

end Sys2Proof.Machine
end

