-- ==== Sys2Proof/Laws/AlarmClosed.lean ====
section
/-! SUPPORT. What the hand-over to the Effect Unit and all its consequences can do, said once. -/

namespace Sys2Proof.Machine

/-- A property that the Effect Unit's own moves keep: its set and stage, the dirty marks, the records, and what it asks
of the Call Sequencer. -/
structure EffectsClosed (P : State → Prop) : Prop extends RecordClosed P where
  effects : ∀ {s} x, P s → P (s.withEffects x)
  stream : ∀ {s} x, P s → P (s.withStream x)
  askEvacuation : ∀ {s}, P s → P (askEvacuation s)
  askStaff : ∀ {s}, P s → P (askStaff s)
  endCall : ∀ {s} o e, P s → P (endCall o e s)

section
variable {P : State → Prop} (hP : EffectsClosed P) {s : State}
include hP

theorem markGuards_keeps (h : P s) : P (markGuards s) := hP.stream _ h

theorem deliver_keeps {curtain : State → State} (hc : ∀ {s}, P s → P (curtain s)) (old : EffectSet) (h : P s) :
    P (deliver curtain old s) := by
  have h1 : P (if s.effects.set.curtain then curtain s else s) := ite_keeps (hc h) h
  exact hP.askEvacuation (ite_keeps (markGuards_keeps hP h1) h1)

theorem setStage_keeps (st : Stage) (h : P s) : P (setStage st s) := hP.record _ _ _ _ (hP.effects _ (hP.effects _ h))

theorem recomputeStage_keeps {rise : State → State} (hr : ∀ {s}, P s → P (rise s)) (h : P s) :
    P (recomputeStage rise s) :=
  ite_keeps h (ite_keeps (hr (setStage_keeps hP _ h)) (setStage_keeps hP _ h))

theorem followInvestigation_keeps (entered : Bool) (h : P s) : P (followInvestigation entered s) := by
  have h1 : P (if entered then askStaff s else s) := ite_keeps (hP.askStaff h) h
  exact ite_keeps (hP.endCall _ _ h1) h1

/-- The hand-over keeps what its consequences keep. -/
theorem handOverWith_keeps {rise curtain : State → State} (hr : ∀ {s}, P s → P (rise s)) (hc : ∀ {s}, P s → P (curtain s))
    (entered : Bool) (h : P s) : P (handOverWith rise curtain entered s) := by
  have h1 := recomputeStage_keeps hP hr (hP.effects { s.effects with set := currentSet s } h)
  exact followInvestigation_keeps hP _ (ite_keeps h1 (deliver_keeps hP hc _ h1))

theorem handOverInDelivery_keeps (entered : Bool) (h : P s) : P (handOverInDelivery entered s) :=
  handOverWith_keeps hP (fun h => h) (fun h => h) entered h

end

/-- A property that nothing an alarm can reach decides: kept by the whole of the hand-over's consequences. -/
structure AlarmClosed (P : State → Prop) : Prop extends CallsClosed P where
  phase : ∀ {s} x, P s → P (s.withPhase x)
  stream : ∀ {s} x, P s → P (s.withStream x)
  curtain : ∀ {s} x, P s → P (s.withCurtain x)
  monitor : ∀ {s} x, P s → P (s.withMonitor x)
  effects : ∀ {s} x, P s → P (s.withEffects x)

namespace AlarmClosed

variable {P : State → Prop} (hP : AlarmClosed P)
include hP

theorem toCurtain : CurtainClosed P := { hP.toRecordClosed with curtain := hP.curtain, phase := hP.phase, effects := hP.effects }

theorem toZones : ZonesClosed P := { hP.toRecordClosed with monitor := hP.monitor }

theorem toEffects : EffectsClosed P :=
  { hP.toRecordClosed with
    effects := hP.effects
    stream := hP.stream
    askEvacuation := askEvacuation_keeps hP.toCallsClosed
    askStaff := askStaff_keeps hP.toCallsClosed
    endCall := endCall_keeps hP.toCallsClosed }

end AlarmClosed

section
variable {P : State → Prop} (hP : AlarmClosed P) {s : State}
include hP

theorem deliverCurtain_keeps (h : P s) : P (deliverCurtain s) :=
  addAlarm_keeps hP.toCurtain
    (fun r _ h => report64_keeps hP.toZones (fun b _ h => handOverInDelivery_keeps hP.toEffects b h) r h) h

theorem handOverInRise_keeps (b : Bool) (h : P s) : P (handOverInRise b s) :=
  handOverWith_keeps hP.toEffects (fun h => h) (fun h => deliverCurtain_keeps hP h) b h

theorem riseToEvacuate_keeps (h : P s) : P (riseToEvacuate s) :=
  closeWindows_keeps hP.toZones (fun b _ h => handOverInRise_keeps hP b h) _
    (suppressOrdinary_keeps hP.toCallsClosed (endCall_keeps hP.toCallsClosed _ _ h))

theorem handOver_keeps (b : Bool) (h : P s) : P (handOver b s) :=
  handOverWith_keeps hP.toEffects (fun h => riseToEvacuate_keeps hP h) (fun h => deliverCurtain_keeps hP h) b h

theorem reportCurtain_keeps (r : CurtainReport) (h : P s) : P (reportCurtain r s) :=
  report64_keeps hP.toZones (fun b _ h => handOver_keeps hP b h) r h

theorem endAct_keeps (h : P s) : P (endAct s) :=
  have h1 := settle_keeps hP.toCallsClosed h
  ite_keeps (hP.offer _ _ (hP.effects _ h1)) h1

/-! ### Alarm reset -/

theorem quietZone_keeps (z : ZoneId) (h : P s) : P (quietZone s z) := ite_keeps h (hP.record _ _ _ _ (hP.monitor _ h))

theorem deliverEmpty_keeps (old : EffectSet) (h : P s) : P (deliverEmpty old s) := by
  have h1 := hP.curtain { s.curtain with demands := { s.curtain.demands with alarm := false } } h
  exact endCall_keeps hP.toCallsClosed _ _ (ite_keeps (markGuards_keeps hP.toEffects h1) h1)

theorem alarmReset_keeps (h : P s) : P (alarmReset s) :=
  hP.record _ _ _ _ (recomputeStage_keeps hP.toEffects (fun h => h) (endCall_keeps hP.toCallsClosed _ _
    (deliverEmpty_keeps hP _ (hP.effects _ (foldl_keeps (fun _ z hx => quietZone_keeps hP z hx) _ _ h)))))

/-! ### Phase reactions -/

theorem changePhase_keeps (target : Phase) (h : P s) : P (changePhase target s) :=
  ite_keeps (hP.record _ _ _ _ (hP.record _ _ _ _ (hP.effects _ (hP.phase _ h))))
    (hP.record _ _ _ _ (hP.effects _ (hP.phase _ h)))

theorem zoneTakesTables_keeps (z : ZoneId) (h : P s) : P (zoneTakesTables s z) := by
  have h1 := updZone_keeps hP.toZones z (fun r => { leaveInvestigation r with
    state := .quiet, devices := [], knock := none }) h
  have h2 := handOver_keeps hP false (hP.record .zoneState (zoneByte z) (zoneAt s z).state.code ZoneState.quiet.code h1)
  exact ite_keeps h (ite_keeps (handOver_keeps hP _ (ite_keeps h1 h2)) (ite_keeps h1 h2))

theorem zonesFollowPhase_keeps (target : Phase) (h : P s) : P (zonesFollowPhase target s) := by
  have h1 : P (if permitsDelay target then s else endInvestigation handOver s) :=
    ite_keeps h (endInvestigation_keeps hP.toZones (fun b _ h => handOver_keeps hP b h) h)
  exact ite_keeps h1 (closeWindows_keeps hP.toZones (fun b _ h => handOver_keeps hP b h) _ h1)

theorem callsFollowPhase_keeps (old target : Phase) (length : Nat) (h : P s) : P (callsFollowPhase old target length s) := by
  have h1 : P (if permitsCalls target then s else suppressOrdinary s) :=
    ite_keeps h (suppressOrdinary_keeps hP.toCallsClosed h)
  have h2 := ite_keeps (c := old = .interval) (stopInterval_keeps hP.toCallsClosed h1) h1
  exact ite_keeps (startInterval_keeps hP.toCallsClosed _ h2) h2

theorem changeStaff_keeps (on : Bool) (h : P s) : P (changeStaff on s) :=
  ite_keeps (hP.record _ _ _ _ (hP.phase _ h))
    (endInvestigation_keeps hP.toZones (fun b _ h => handOver_keeps hP b h) (hP.record _ _ _ _ (hP.phase _ h)))

/-! ### The zone commands -/

theorem setLink_keeps (l : PanelLink) (h : P s) : P (setLink l s) :=
  handOver_keeps hP _ (hP.record _ _ _ _ (hP.monitor _ h))

theorem panelBeat_keeps (h : P s) : P (panelBeat s) := ite_keeps (hP.monitor _ h) (setLink_keeps hP _ (hP.monitor _ h))

theorem heartbeatOut_keeps (h : P s) : P (heartbeatOut s) :=
  endAct_keeps hP (endInvestigation_keeps hP.toZones (fun b _ h => handOver_keeps hP b h)
    (setLink_keeps hP _ (hP.monitor _ h)))

theorem ackOut_keeps (z : ZoneId) (h : P s) : P (ackOut z s) :=
  ite_keeps (endAct_keeps hP (enterState_keeps hP.toZones (fun b _ h => handOver_keeps hP b h) _ _ h)) h

theorem investigationOut_keeps (z : ZoneId) (h : P s) : P (investigationOut z s) :=
  ite_keeps (endAct_keeps hP (enterState_keeps hP.toZones (fun b _ h => handOver_keeps hP b h) _ _ h)) h

theorem windowOut_keeps (z : ZoneId) (h : P s) : P (windowOut z s) :=
  ite_keeps (endAct_keeps hP (closeWindow_keeps hP.toZones (fun b _ h => handOver_keeps hP b h) _ _ h)) h

/-! ### The level stream -/

theorem setFreshness_keeps (f : Freshness) (h : P s) : P (setFreshness f s) := hP.record _ _ _ _ (hP.stream _ h)

end

end Sys2Proof.Machine
end

