-- ==== Sys2Proof/Laws/Frames.lean ====
section
/-! SUPPORT. Frames: what the hand-over, the reports to zone 64, a record, an offer and an act's end leave unchanged;
and a request once it is known to stand at the head of CONSOLE-RX. -/

namespace Sys2Proof.Machine

theorem onlyTouches_refl (bs : List Block) (s : State) : OnlyTouches bs s s := fun b _ => by cases b <;> rfl

theorem sameBlock_trans {s t u : State} {b : Block} (h : sameBlock s t b) (k : sameBlock t u b) : sameBlock s u b := by
  cases b <;> exact Eq.trans k h

theorem onlyTouches_trans {bs : List Block} {s t u : State} (h : OnlyTouches bs s t) (k : OnlyTouches bs t u) :
    OnlyTouches bs s u := fun b hb => sameBlock_trans (h b hb) (k b hb)

theorem onlyTouches_mono {bs cs : List Block} {s t : State} (hsub : ∀ b ∈ bs, b ∈ cs) (h : OnlyTouches bs s t) :
    OnlyTouches cs s t := fun b hb => h b fun hb' => hb (hsub b hb')

theorem writeRecord_onlyTouches (k : EventKind) (a b c : Byte) (s : State) :
    OnlyTouches [.links, .log] s (writeRecord k a b c s) := by
  intro x hx
  cases x <;> simp_all [sameBlock]

theorem offer_onlyTouches (q : QueueId) (f : Frame) (s : State) : OnlyTouches [.links, .log] s (offer q f s) := by
  intro x hx
  cases x <;> simp_all [sameBlock]

/-- Being reached from a state through the parts an alarm can reach is kept by all an alarm does. -/
theorem alarmClosed_onlyTouches (s : State) : AlarmClosed (OnlyTouches alarmReach s) where
  record k a b c h := onlyTouches_trans h (onlyTouches_mono (by simp [alarmReach]) (writeRecord_onlyTouches k a b c _))
  offer q f h := onlyTouches_trans h (onlyTouches_mono (by simp [alarmReach]) (offer_onlyTouches q f _))
  calls x h := onlyTouches_trans h fun b hb => by cases b <;> simp_all [sameBlock, alarmReach]
  phase x h := onlyTouches_trans h fun b hb => by cases b <;> simp_all [sameBlock, alarmReach]
  stream x h := onlyTouches_trans h fun b hb => by cases b <;> simp_all [sameBlock, alarmReach]
  curtain x h := onlyTouches_trans h fun b hb => by cases b <;> simp_all [sameBlock, alarmReach]
  monitor x h := onlyTouches_trans h fun b hb => by cases b <;> simp_all [sameBlock, alarmReach]
  effects x h := onlyTouches_trans h fun b hb => by cases b <;> simp_all [sameBlock, alarmReach]

theorem handOver_onlyTouches (b : Bool) (s : State) : OnlyTouches alarmReach s (handOver b s) :=
  handOver_keeps (alarmClosed_onlyTouches s) b (onlyTouches_refl _ s)

theorem reportCurtain_onlyTouches (r : CurtainReport) (s : State) : OnlyTouches alarmReach s (reportCurtain r s) :=
  reportCurtain_keeps (alarmClosed_onlyTouches s) r (onlyTouches_refl _ s)

theorem endAct_onlyTouches (s : State) : OnlyTouches alarmReach s (endAct s) :=
  endAct_keeps (alarmClosed_onlyTouches s) (onlyTouches_refl _ s)

/-- The parts the Call Sequencer's operations reach. -/
theorem callsClosed_onlyTouches (s : State) : CallsClosed (OnlyTouches [.calls, .links, .log] s) where
  record k a b c h := onlyTouches_trans h (onlyTouches_mono (by simp) (writeRecord_onlyTouches k a b c _))
  offer q f h := onlyTouches_trans h (onlyTouches_mono (by simp) (offer_onlyTouches q f _))
  calls x h := onlyTouches_trans h fun b hb => by cases b <;> simp_all [sameBlock]

/-- A request known to stand at the head is handled: taken, acted on, the act ended, the reply sent. -/
theorem handle_of_requested {s : State} {code tag : Byte} {args : List Byte} (h : Requested s code tag args)
    (owner : List Byte → State → State × Reply) :
    handle code owner s
      = replied tag code (owner args (dropHead .consoleRx s)).2 (owner args (dropHead .consoleRx s)).1 := by
  unfold Requested at h
  simp only [handle, h, replied]

end Sys2Proof.Machine
end

