-- ==== Sys2Proof/Laws/Queues.lean ====
section
/-! SUPPORT. The queues (R170) and the log (R186) one operation at a time: filing keeps every queue within its size,
taking a head frame keeps it too, and a record keeps the log's law. -/

namespace Sys2Proof.Machine

/-- The occupied bytes of every queue of some Link Ports lie within the sizes of some tables. -/
def Fits (t : Tables) (l : LinkState) : Prop := ∀ q : QueueId, occupied l.queues[q.ix] ≤ queueSize t q

theorem ix_inj {q r : QueueId} (h : q.ix = r.ix) : q = r := by revert h; cases q <;> cases r <;> decide

theorem startIfFree_queues (now : Nat) (q : QueueId) (f : Frame) (l : LinkState) :
    (startIfFree now q f l).queues = l.queues := by
  unfold startIfFree
  split
  · rfl
  · split <;> rfl

theorem pushFrame_same (q : QueueId) (f : Frame) (l : LinkState) :
    (pushFrame q f l).queues[q.ix] = { l.queues[q.ix] with frames := l.queues[q.ix].frames ++ [f] } := by
  simp [pushFrame]

theorem pushFrame_other {q r : QueueId} (hr : r ≠ q) (f : Frame) (l : LinkState) :
    (pushFrame q f l).queues[r.ix] = l.queues[r.ix] := by
  have : q.ix.val ≠ r.ix.val := fun h => hr (ix_inj (Fin.ext h)).symm
  simp [pushFrame, this]

/-- All that filing a frame can do: with room, the frame stands last in its queue and every other queue is as it was. -/
theorem tryFile_some {t : Tables} {now : Nat} {q : QueueId} {f : Frame} {l m : LinkState} (h : tryFile t now q f l = some m) :
    hasRoom t l q f = true
      ∧ m.queues[q.ix] = { l.queues[q.ix] with frames := l.queues[q.ix].frames ++ [f] }
      ∧ (∀ r : QueueId, r ≠ q → m.queues[r.ix] = l.queues[r.ix]) ∧ m.badLatch = l.badLatch := by
  unfold tryFile at h
  split at h
  · rename_i hroom
    cases h
    refine ⟨hroom, ?_, fun r hr => ?_, ?_⟩
    · rw [startIfFree_queues, pushFrame_same]
    · rw [startIfFree_queues, pushFrame_other hr]
    · unfold startIfFree
      split
      · rfl
      · split <;> rfl
  · cases h

theorem tryFile_none {t : Tables} {now : Nat} {q : QueueId} {f : Frame} {l : LinkState} :
    tryFile t now q f l = none ↔ hasRoom t l q f = false := by
  unfold tryFile
  split <;> simp_all

theorem occupied_push (q : Queue) (f : Frame) :
    occupied { q with frames := q.frames ++ [f] } = occupied q + storedSize f := by
  simp [occupied, List.map_append, List.sum_append]

theorem tryFile_fits {t : Tables} {now : Nat} {q : QueueId} {f : Frame} {l m : LinkState} (hl : Fits t l)
    (h : tryFile t now q f l = some m) : Fits t m := by
  obtain ⟨hroom, hq, hother, -⟩ := tryFile_some h
  intro r
  by_cases hr : r = q
  · subst hr
    rw [hq, occupied_push]
    have h1 := hl r
    have h2 : storedSize f ≤ queueSize t r - occupied l.queues[r.ix] := of_decide_eq_true hroom
    have : 0 < storedSize f := by simp [storedSize]
    omega
  · rw [hother r hr]
    exact hl r

theorem closeLatch_fits {t : Tables} {l : LinkState} (q : QueueId) (hl : Fits t l) : Fits t (closeLatch q l) := by
  intro r
  have h := hl r
  by_cases hr : q.ix.val = r.ix.val
  · simp_all [closeLatch, modAt, occupied]
  · simp_all [closeLatch, modAt]

theorem popFrame_fits {t : Tables} {l : LinkState} (q : QueueId) (hl : Fits t l) : Fits t (popFrame q l) := by
  intro r
  have h := hl r
  by_cases hr : q.ix.val = r.ix.val
  · have hqr : q = r := ix_inj (Fin.ext hr)
    subst hqr
    have : ∀ fs : List Frame, ((fs.drop 1).map storedSize).sum ≤ (fs.map storedSize).sum := by
      intro fs
      cases fs <;> simp
    have h2 := this l.queues[q.ix].frames
    simp only [occupied] at h
    simp only [popFrame, occupied, Fin.getElem_fin, Vector.getElem_set_self]
    simp only [Fin.getElem_fin] at h h2
    exact Nat.le_trans h2 h
  · simp_all [popFrame]

theorem eventOffered_fits {s : State} (r : EventRecord) (h : Fits s.tables s.links) : Fits s.tables (eventOffered s r) := by
  unfold eventOffered
  cases hf : tryFile s.tables s.now .consoleTx (eventFrame s.tables r) s.links with
  | none => exact h
  | some m => exact tryFile_fits h hf

theorem writeRecord_queuesFit {s : State} (k : EventKind) (a b c : Byte) (h : QueuesFit s) :
    QueuesFit (writeRecord k a b c s) := fun q => by
  simpa using eventOffered_fits (recordNow s k a b c) h q

theorem overflowed_queuesFit {s : State} (q : QueueId) (f : Frame) (h : QueuesFit s) : QueuesFit (overflowed q f s) := by
  unfold overflowed
  split
  · exact h
  · intro r
    have h1 : Fits s.tables (eventOffered s (recordNow s .queueOverflow q.code (frameKind f) (byteSat f.length))) :=
      eventOffered_fits _ h
    simpa using closeLatch_fits q h1 r

theorem offer_queuesFit {s : State} (q : QueueId) (f : Frame) (h : QueuesFit s) : QueuesFit (offer q f s) := by
  unfold offer
  cases hf : tryFile s.tables s.now q f s.links with
  | none => exact overflowed_queuesFit q f h
  | some m =>
    intro r
    simpa using tryFile_fits h hf r

theorem dropHead_queuesFit {s : State} (q : QueueId) (h : QueuesFit s) : QueuesFit (dropHead q s) := fun r => by
  simpa using popFrame_fits q h r

/-! ### The log -/

theorem nextSeq_ne_zero (w : Word32) : nextSeq w ≠ 0 := by
  unfold nextSeq
  split
  · decide
  · rename_i h
    intro h0
    exact h (by rw [show (0xFFFFFFFF#32) = 0 - 1 by rfl, ← h0]; simp)

theorem consecutive_append {l : List EventRecord} {r : EventRecord} (h : Consecutive l)
    (hr : ∀ x ∈ l.getLast?, r.seq = nextSeq x.seq) : Consecutive (l ++ [r]) := by
  induction l with
  | nil => trivial
  | cons a l ih =>
    cases l with
    | nil => exact ⟨hr a (by simp), trivial⟩
    | cons b l =>
      exact ⟨h.1, ih h.2 (by simpa using hr)⟩

theorem consecutive_drop {l : List EventRecord} (n : Nat) (h : Consecutive l) : Consecutive (l.drop n) := by
  induction n generalizing l with
  | zero => exact h
  | succ n ih =>
    cases l with
    | nil => trivial
    | cons a l =>
      refine ih ?_
      cases l with
      | nil => trivial
      | cons b l => exact h.2

theorem loggedIn_ring (g : LogState) (r : EventRecord) :
    (loggedIn g r).ring = (g.ring ++ [r]).drop (g.ring.length + 1 - 256) := by rw [loggedIn, joinRing]

theorem loggedIn_next (g : LogState) (r : EventRecord) : (loggedIn g r).next = nextSeq g.next := by rw [loggedIn]

/-- A record keeps the log's law. -/
theorem loggedIn_law {g : LogState} {r : EventRecord} (h : LogLaw g) (hr : r.seq = g.next) : LogLaw (loggedIn g r) := by
  obtain ⟨hlen, hcon, hlast, hnext, hne⟩ := h
  refine ⟨?_, ?_, ?_, loggedIn_next g r ▸ nextSeq_ne_zero _, ?_⟩
  · simp only [loggedIn, joinRing, List.length_drop, List.length_append, List.length_singleton]
    omega
  · rw [loggedIn_ring]
    have h1 : Consecutive (g.ring ++ [r]) := consecutive_append hcon fun x hx => hr.trans (hlast x hx)
    generalize g.ring.length + 1 - 256 = n
    exact consecutive_drop n h1
  · intro x hx
    have hk : ¬ (g.ring ++ [r]).length ≤ g.ring.length + 1 - 256 := by
      rw [List.length_append, List.length_singleton]
      omega
    rw [loggedIn_ring, List.getLast?_drop, if_neg hk, List.getLast?_concat] at hx
    rw [← Option.some.inj hx, hr, loggedIn_next]
  · intro x hx
    rw [loggedIn_ring] at hx
    have hx' := List.mem_of_mem_drop hx
    rcases List.mem_append.1 hx' with h1 | h1
    · exact hne x h1
    · rw [List.mem_singleton.1 h1, hr]
      exact hnext

theorem recordNow_seq (s : State) (k : EventKind) (a b c : Byte) : (recordNow s k a b c).seq = s.log.next := by
  simp only [recordNow]

theorem writeRecord_logLaw {s : State} (k : EventKind) (a b c : Byte) (h : LogLaw s.log) :
    LogLaw (writeRecord k a b c s).log := by
  rw [writeRecord_log]
  exact loggedIn_law h (recordNow_seq s k a b c)

end Sys2Proof.Machine
end

