-- ==== Sys2Proof/Laws/Validation.lean ====
section
/-! SUPPORT. What a valid working copy passes: every check of every entry, and from it what the programs of the alarm's
two calls are. -/

namespace Sys2Proof.Machine

/-- No check fails exactly when each holds. -/
theorem firstFailed_eq_none (cs : List Check) : firstFailed cs = none ↔ ∀ c ∈ cs, c.2 = true := by
  simp [firstFailed]

/-- R24: valid tables pass every check of every entry. -/
theorem validate_eq_none (t : Tables) :
    validate t = none ↔ ∀ e ∈ entryChecks t, ∀ c ∈ e.2.2, c.2 = true := by
  simp only [validate, List.findSome?_eq_none_iff, Option.map_eq_none_iff, firstFailed_eq_none]

/-- R127 checks 3 and 5: in valid tables the staff program has class STAFF and the evacuation program class EVACUATE. -/
theorem valid_alarm_programs (t : Tables) (h : validate t = none) :
    (∀ p, programIdOf t.alarm.staffProgram = some p → t.programs[p].cls = 1)
      ∧ ∀ p, programIdOf t.alarm.evacProgram = some p → t.programs[p].cls = 0 := by
  have pass := (validate_eq_none t).1 h (6, 0, alarmChecks t) (by simp [entryChecks])
  have staff := pass (3, alarmProgramClass t t.alarm.staffProgram 1) (by simp [alarmChecks])
  have evac := pass (5, alarmProgramClass t t.alarm.evacProgram 0) (by simp [alarmChecks])
  constructor <;> intro p hp <;> simp_all [alarmProgramClass]

end Sys2Proof.Machine
end

