-- ==== Sys2Proof/WellFormed.lean ====
section
/-! DEFINITION. Which commands name something that can happen at all. -/

namespace Sys2Proof

/-- A run of bytes is a frame's arrival only if a byte was received: a line held idle is never a frame (R165). -/
def arrivalWf (bytes : List Byte) : Bool := !bytes.isEmpty

/-- A zone that can investigate or hold an isolation window: a panel zone, 0–63 (R102, R118). -/
def panelZoneWf (z : ZoneId) : Bool := z.val < 64

/-- A call entry that can hold a waiting call: an ordinary entry, 2–9 (R139, R142). -/
def waitingEntryWf (e : EntryId) : Bool := 2 ≤ e.val

/-- The well-formed commands. -/
def Instr.wellFormed : Instr → Bool
  | .frameArrival _ bytes => arrivalWf bytes
  | .ackTimerExpiry z => panelZoneWf z
  | .investigationTimerExpiry z => panelZoneWf z
  | .isolationWindowExpiry z => panelZoneWf z
  | .deadlineTimerExpiry e => waitingEntryWf e
  | .resetAsserted | .powerOn | .restartPowerOnSequence | .encoderTransition _ _ | .captureTimerWrap | .limitInAsserted
  | .limitOutAsserted | .limitReleased _ | .slowSwAsserted | .stageReleaseAsserted | .panelFireAsserted | .takeLevels
  | .takeConsolePass | .takeCallDone | .takeRackReturn | .takeZoneReport | .takePanelBeat | .takePanelOther
  | .unknownRequest | .readTable | .writeTable | .setPhase | .staffPresent | .setMaster | .startCall | .cancelCall
  | .extendInterval | .alarmAck | .alarmConfirm | .alarmCancel | .alarmReset | .isolateZone | .endIsolation
  | .curtainRelease | .curtainRaise | .curtainTest | .readStatus | .readZone | .readCalls | .readEvents | .restart
  | .levelStep | .periodicRefresh | .consoleTimerExpiry | .holdTimerExpiry | .heartbeatTimerExpiry | .noticeTimerExpiry
  | .statusTimerExpiry | .startWindowExpiry | .stallTimerExpiry | .dropTimerExpiry | .raiseTimerExpiry
  | .chimeStepExpiry _ | .waitStepExpiry _ | .messageLimitExpiry _ | .flashTimerExpiry _ | .intervalClockTick
  | .storeWriteEnd _ | .frameSent _ | .transmitterFree _ | .panelFireReleased | .slowSwReleased
  | .stageReleaseReleased => true

end Sys2Proof
end

