-- ==== Sys2Proof/Tests/Slice0.lean ====
section
/-! SUPPORT. Tests of the model, each about one command on a small state, with the expected value worked by hand from
the rule named. Those named witness_<statement> show states and operands that meet the hypotheses of that statement,
clause by clause, and what the clause says of them. -/

namespace Sys2Proof.Tests

set_option Elab.async false

open Sys2Proof Sys2Proof.Machine

/-! ### Helpers -/

/-- The state a command leaves. -/
def after (c : Instr) (s : State) : State :=
  match exec c s with
  | .next t => t
  | .fault _ | .refused _ => s

/-- A queue holding the given frames. -/
def put (q : QueueId) (fs : List Frame) (s : State) : State :=
  s.withLinks { s.links with queues := putAt s.links.queues q.ix ⟨fs, false⟩ }

/-- A request with tag 7 at the head of CONSOLE-RX. -/
def ask (code : Byte) (args : List Byte) (s : State) : State :=
  put .consoleRx [mkFrame 0x20 126 (7 :: code :: args)] s

/-- A ZONE-REPORT at the head of PANEL-RX. -/
def report (body : List Byte) (s : State) : State := put .panelRx [mkFrame 0x30 0 body] s

/-- A LEVELS frame at the head of CONSOLE-RX. -/
def levelsIn (body : List Byte) (s : State) : State := put .consoleRx [mkFrame 0x10 0 body] s

/-- The body of the newest frame in CONSOLE-TX. -/
def reply (s : State) : List Byte :=
  match s.links.queues[QueueId.consoleTx.ix].frames.getLast? with
  | some f => frameBody f
  | none => []

/-- The kind, subject and details of the newest record. -/
def newest (s : State) : List Byte :=
  match s.log.ring.getLast? with
  | some r => [r.kind.code, r.subject, r.detail0, r.detail1]
  | none => []

/-- The arguments of the request a command finds, if they are these. -/
def asked (code : Byte) (args : List Byte) (s : State) : Bool := decide (requestOf s code = some ⟨7, code, args⟩)

/-- A program of the given class, deadline and first steps. -/
def program (cls deadline : Byte) (x y z : StepBytes) : Program :=
  ⟨cls, deadline, #v[x, y, z, ⟨0, 0, 0, 0⟩, ⟨0, 0, 0, 0⟩, ⟨0, 0, 0, 0⟩, ⟨0, 0, 0, 0⟩, ⟨0, 0, 0, 0⟩, ⟨0, 0, 0, 0⟩,
    ⟨0, 0, 0, 0⟩, ⟨0, 0, 0, 0⟩, ⟨0, 0, 0, 0⟩]⟩

/-- Small tables: four areas, three channels, a guard, three panel zones and eight programs. -/
def tabs : Tables :=
  let d := defaultTables
  { d with
    areas := (((d.areas.set 0 ⟨1, 10, 200, 100⟩).set 1 ⟨1, 11, 255, 50⟩).set 2 ⟨1, 0, 255, 0⟩).set 23 ⟨1, 12, 255, 0⟩
    channels := ((d.channels.set 0 ⟨1, 0, 0, 5, 20, 220, 255, 100, 1, 180, 8, 16⟩).set 1
      ⟨1, 1, 0, 7, 0, 255, 255, 0, 0, 0, 255, 255⟩).set 2 ⟨1, 2, 3, 255, 0, 255, 200, 60, 0, 0, 1, 1⟩
    guards := d.guards.set 0 ⟨1, 0, 6, 200⟩
    response := (((d.response.set 0 ⟨1, 0, 1, 30, 120, 1, 1, 1, 3, 1⟩).set 1 ⟨3, 1, 1, 30, 120, 0, 0, 2, 0, 0⟩).set 63
      ⟨1, 0, 0, 30, 120, 1, 0, 0, 0, 0⟩)
    alarm := ⟨4, 1, 0, 64⟩
    programs := (((((((d.programs.set 0 (program 0 0 ⟨4, 0, 20, 0⟩ ⟨5, 0, 255, 0⟩ ⟨0, 0, 0, 0⟩)).set 1
      (program 1 0 ⟨4, 0, 20, 0⟩ ⟨0, 0, 0, 0⟩ ⟨0, 0, 0, 0⟩)).set 2
      (program 2 0 ⟨4, 0, 20, 0⟩ ⟨3, 10, 4, 2⟩ ⟨4, 0, 1, 0⟩)).set 3
      (program 3 5 ⟨2, 70, 6, 0⟩ ⟨4, 0, 20, 0⟩ ⟨0, 0, 0, 0⟩)).set 4
      (program 3 0 ⟨1, 1, 2, 0⟩ ⟨0, 0, 0, 0⟩ ⟨0, 0, 0, 0⟩)).set 5
      (program 2 0 ⟨4, 0, 1, 0⟩ ⟨4, 0, 2, 0⟩ ⟨0, 0, 0, 0⟩)).set 15
      (program 3 5 ⟨3, 10, 4, 2⟩ ⟨4, 0, 3, 0⟩ ⟨0, 0, 0, 0⟩))
    schedule := ⟨60, 500, ((Vector.replicate 6 ⟨0, 0, 0, 0⟩).set 0 ⟨1, 59, 2, 1⟩).set 1 ⟨1, 60, 2, 1⟩⟩ }

/-- A part in PERFORMANCE with staff present, the panel link up and the tables `tabs` in force. -/
def base : State :=
  { State.reset with
    tables := tabs
    working := tabs
    phase := ⟨.performance, true, true⟩
    stream := freshStream tabs
    levels := freshLevels tabs .performance
    monitor := { freshZones tabs with link := .up } }

/-- The curtain changed. -/
def curtainAs (f : Curtain → Curtain) (s : State) : State := s.withCurtain (f s.curtain)

/-- The phase changed. -/
def inPhase (p : Phase) (s : State) : State := s.withPhase { s.phase with phase := p }

/-- One zone record replaced. -/
def zoneAs (z : ZoneId) (r : Zone) (s : State) : State := updZone z (fun _ => r) s

/-- The alarm law made good after zones were placed by hand. -/
def lawful (s : State) : State :=
  s.withEffects { s.effects with
    set := effectSetOf s.tables.response s.monitor.zones, stage := stageOf s.monitor.zones s.monitor.link }

/-- One call placed in its entry. -/
def callAs (e : EntryId) (c : Call) (s : State) : State :=
  s.withCalls { s.calls with table := putAt s.calls.table e (some c) }

/-- A RUNNING call of a program at a cursor, holding area 0. -/
def running (p : ProgramId) (cursor : Nat) : Call :=
  { newCall 9 p 3 .request 1 with held := 1, running := true, cursor := cursor, stepTimer := some 0 }

/-! ### Well-formed commands -/

theorem test_wf_arrival_refused : (Instr.frameArrival .console []).wellFormed = false := by decide
theorem test_wf_arrival_taken : (Instr.frameArrival .console [1]).wellFormed = true := by decide
theorem test_wf_zone_refused : (Instr.ackTimerExpiry 64).wellFormed = false ∧ (Instr.ackTimerExpiry 63).wellFormed
  = true
    ∧ (Instr.investigationTimerExpiry 65).wellFormed = false ∧ (Instr.isolationWindowExpiry 64).wellFormed = false := by
  decide
theorem test_wf_entry_refused :
    (Instr.deadlineTimerExpiry 1).wellFormed = false ∧ (Instr.deadlineTimerExpiry 2).wellFormed = true := by decide

/-! ### Figures of the manual -/

/-- R166: the check of the nine bytes 0x31 to 0x39. -/
theorem test_crc_check_value : crc [0x31, 0x32, 0x33, 0x34, 0x35, 0x36, 0x37, 0x38, 0x39] = 0x29B1 := by decide +kernel

/-- R83: the four rows of the table of speeds. -/
theorem test_speeds : speedOf 16 400 1 964 64900 = 400 ∧ speedOf 16 400 0 6120 1000 = 125
    ∧ speedOf 16 400 0 3000 3000 = 65535 ∧ speedOf 64 2000 3 0 0 = 65 := by decide

/-- The slots of a universe with marks at the given places. -/
def marked (is_ : List Nat) : List Slot := (List.range 256).map fun i => ⟨0, false, is_.contains i, .pass⟩

/-- R63: the three steps of the example, and a universe with no mark. -/
theorem test_refresh_spans : refreshSpan (marked [5, 60, 70, 200]) = some (5, 56) ∧ refreshSpan (marked [70, 200])
  = some (70, 1)
    ∧ refreshSpan (marked [200]) = some (200, 1) ∧ refreshSpan (marked []) = none
    ∧ refreshSpan (marked [0, 63, 64]) = some (0, 64) ∧ refreshSpan (marked [255]) = some (255, 1) := by decide +kernel

/-- The tables of the tests and the defaults pass validation, so that a commit takes them (R25, R30). -/
theorem test_tabs_valid : validate tabs = none ∧ validate defaultTables = none := by decide +kernel

theorem test_laws_of_base : AlarmLaw base ∧ DemandLaw base ∧ CurtainLaw base.curtain ∧ PositionLaw base :=
  by decide +kernel

/-! ### Steps -/

theorem test_witness_StepRunsFront : (base.withPending [.levelStep]).pending = .levelStep :: [] := rfl

theorem test_witness_EveryCommandRuns : base.effects.noticeDue = false ∧ base.calls.freed = false := by decide +kernel

/-- A part with a store write under way. -/
def writing : State := base.withStore { base.store with writing := some (imageOf tabs) }

theorem test_witness_OwnersAlone :
    (after .powerOn base).tables ≠ base.tables ∧ (after .powerOn base).working ≠ base.working
      ∧ (after .resetAsserted writing).store.writing.isSome ≠ writing.store.writing.isSome
      ∧ (after .setMaster (ask 5 [0, 1] base)).levels.masters ≠ base.levels.masters
      ∧ (after .setPhase (ask 3 [5] base)).phase.phase ≠ base.phase.phase
      ∧ (after .staffPresent (ask 4 [0] base)).phase.staff ≠ base.phase.staff := by decide +kernel

/-! ### Reset and the store -/

theorem test_witness_PowerOnValues :
    base.lines.limitIn = false ∧ base.lines.limitOut = false ∧ base.lines.slowSw = false ∧ base.lines.stageRelease
      = false
      ∧ base.lines.panelFire = false ∧ (base.withRestart .due).restart = .due
      ∧ (after .powerOn base).phase = ⟨.maintenance, false, false⟩ ∧ newest (after .powerOn base) = [1, 0, 0, 1]
      ∧ newest (after .restartPowerOnSequence (base.withRestart .due)) = [1, 0, 1, 1]
      ∧ (after .restartPowerOnSequence base).phase = base.phase := by decide +kernel

/-- R21, R49, R52, R67, R175: channel 0 of `tabs` at its loss level, its slot and guard 0's marked, slot 8 PASS; with no
channel in use, every output 0; and the transmitters, that of CONSOLE-TX with the RESET record's frame of 17 bytes. -/
theorem test_witness_PowerOnValues_blocks :
    (freshLevels tabs .recovery).channels[0] = ⟨0, false, 100⟩ ∧ (freshLevels tabs .recovery).channels[3] = ⟨0, false, 0⟩
      ∧ (freshStream tabs).slots[5] = ⟨0, false, true, .house 0⟩ ∧ (freshStream tabs).slots[6] = ⟨0, false, true, .guard 0⟩
      ∧ (freshStream tabs).slots[8] = ⟨0, false, false, .pass⟩
      ∧ (freshStream tabs).slots[1023] = ⟨0, false, true, .house 2⟩
      ∧ (after .powerOn base).levels.channels[0] = ⟨0, false, 0⟩
      ∧ (after .powerOn base).links.tx = #v[.sending .consoleTx 17, .free, .free] := by decide +kernel

/-- R70, R77: LIMIT-IN asserted as the tables take force is an arrival at IN. -/
theorem test_powerOn_limitIn : let t := after .powerOn (base.withLines { base.lines with limitIn := true })
    t.curtain.state = .resting ∧ t.curtain.position = 0 ∧ t.curtain.referenced = true ∧ newest t = [13, 0, 0, 1] := by
  decide +kernel

/-- The PANEL-FIRE contact closed. -/
def panelClosed : State := base.withLines { base.lines with panelFire := true }

theorem test_witness_PanelFireTaken :
    AlarmLaw base ∧ base.lines.panelFire = false ∧ (zoneAt base 65).state ≠ .alarm ∧ base.effects.stage ≠ .evacuate
      ∧ (rowOf base 65).curtainDrop = 1 ∧ base.effects.set.curtain = false
      ∧ (curtainAs (fun c => { c with state := .out, holdDrive := true, demands := noDemands }) base).curtain.state
        = .out
      ∧ (curtainAs (fun c => { c with state := .out, holdDrive := true, demands := noDemands }) base).curtain.demands.any
        = false
      ∧ panelClosed.lines.panelFire = true
      ∧ (zoneAt (after .panelFireAsserted base) 65).state = .alarm
      ∧ (zoneAt (after .powerOn panelClosed) 65).state = .alarm ∧ (after .powerOn panelClosed).effects.stage
        = .evacuate 
      ∧ (after .powerOn panelClosed).links.queues[QueueId.panelTx.ix].frames = [mkFrame 0x32 126 [0, 3, 0]] := by
  decide +kernel

/-- Zone 65 in ALARM with its contact open. -/
def panelAlarm : State := lawful (zoneAs 65 { freshZone with state := .alarm } base)

theorem test_witness_PanelFireTaken_again : AlarmLaw panelAlarm ∧ panelAlarm.lines.panelFire = false
    ∧ (zoneAt panelAlarm 65).state = .alarm
    ∧ (after .panelFireAsserted panelAlarm).log.ring.length = panelAlarm.log.ring.length := by decide +kernel

/-- An image good by R26. -/
theorem test_image_good : imageGood (imageOf tabs) = true := by
  simp only [imageGood, imageOf, imageCheck, decide_true, Bool.true_and]
  decide +kernel

theorem test_witness_StoreWrites : writing.store.writing = some (imageOf tabs) ∧ base.store.writing = none
    ∧ imageGood { imageOf tabs with marker := none } = false := by
  refine ⟨rfl, rfl, ?_⟩
  simp [imageGood]

/-- R28: a read-back without the marker is a failure. -/
theorem test_store_failed : let t := after (.storeWriteEnd ⟨none, defaultTables, 0⟩) writing
    t.store.writing.isSome = false ∧ t.store.image.marker = none ∧ (newest t).head? = some 27 := by decide +kernel

/-! ### Frames and queues -/

theorem test_witness_BuiltFrameReadsBack : (List.replicate 200 (0xFF : Byte)).length ≤ 200
    ∧ judgeFrame (mkFrame 0x20 126 (List.replicate 40 0xFF)) = .good
    ∧ judgeFrame (mkFrame 0x20 126 (List.replicate 201 0xFF)) = .badLength := by decide +kernel

/-- A good frame of 5 bytes. -/
def beat : Frame := mkFrame 0x31 0 []

/-- PANEL-RX, 512 bytes in the defaults, with only so many free. -/
def panelFree (n : Nat) : State := put .panelRx [List.replicate (508 - n) 0] base

theorem test_witness_FrameArrivalJudged :
    ([0x31, 0, 0, 0] : List Byte).length < 5
      ∧ 200 < (byteAt (0x31 :: 0 :: 201 :: List.replicate 203 (0 : Byte)) 2).toNat
      ∧ beat.length = (byteAt beat 2).toNat + 5
      ∧ crc ([0x31, 0, 0, 0, 0].take 3) ≠ word16 0 0
      ∧ freeBytes (panelFree 9).tables (panelFree 9).links .panelRx = 9
      ∧ (after (.frameArrival .panel beat) (panelFree 9)).links.queues[QueueId.panelRx.ix].frames.length = 2
      ∧ newest (after (.frameArrival .panel beat) (panelFree 8)) = [25, 5, 0x31, 5]
      ∧ newest (after (.frameArrival .panel [0x31, 0, 0, 0]) base) = [23, 2, 0, 4]
      ∧ newest (after (.frameArrival .panel [0x31, 0, 0, 0, 0]) base) = [23, 2, 1, 5]
      ∧ (after (.frameArrival .panel []) base).log.ring.length = 1
      ∧ newest (after (.frameArrival .panel (List.replicate 254 0)) base) = [23, 2, 0, 254]
      ∧ newest (after (.frameArrival .panel (List.replicate 300 0)) base) = [23, 2, 0, 255] := by decide +kernel

/-- R29: while the power-on sequence of a RESTART is due, no frame is filed or reported. -/
theorem test_arrival_while_loading : base.restart ≠ .due
    ∧ (after (.frameArrival .panel beat) (base.withRestart .due)).links.queues[QueueId.panelRx.ix].frames = []
    ∧ (after (.frameArrival .panel [1]) (base.withRestart .due)).log.ring.length = base.log.ring.length := by
  decide +kernel

/-- The latches of R167 and R170 closed. -/
theorem test_witness_FrameArrivalJudged_latched :
    (base.withLinks { base.links with badLatch := putAt base.links.badLatch 2 true }).links.badLatch[Port.panel.ix]
      = true
      ∧ ((panelFree 8).withLinks (closeLatch .panelRx (panelFree 8).links)).links.queues[QueueId.panelRx.ix].latched
        = true
      ∧ (base.withLines { base.lines with reset := true }).lines.reset = true := by decide +kernel

/-- The RACK transmitter sending the one frame of RACK-PASS, with nothing or one frame in RACK-EXPRESS. -/
def sendingRack (express : List Frame) : State :=
  let s := put .rackExpress express (put .rackPass [beat] base)
  s.withLinks { s.links with tx := putAt s.links.tx 1 (.sending .rackPass 5) }

theorem test_witness_TransmitterServes :
    (sendingRack []).links.tx[Port.rack.ix] = .sending .rackPass 5
      ∧ (after (.frameSent .rack) (sendingRack [])).links.tx[Port.rack.ix] = .gap 3
      ∧ (after (.frameSent .rack) (sendingRack [])).links.queues[QueueId.rackPass.ix].frames = []
      ∧ (after (.transmitterFree .rack) (put .rackExpress [beat, beat] (put .rackPass [beat] base))).links.tx[Port.rack.ix]
        = .sending .rackExpress 5
      ∧ (after (.transmitterFree .rack) (put .rackPass [beat] base)).links.tx[Port.rack.ix] = .sending .rackPass 5
      ∧ (after (.transmitterFree .panel) (put .panelTx [beat] base)).links.tx[Port.panel.ix] = .sending .panelTx 5
      ∧ (after (.transmitterFree .panel) base).links.tx[Port.panel.ix] = .free := by decide +kernel

theorem test_witness_FramesPassedOn : base.restart = .idle
    ∧ AtHead (put .consoleRx [beat] base) .consoleRx beat [] ∧ frameKind beat ≠ 0x10 ∧ frameKind beat ≠ 0x20
    ∧ AtHead (put .rackRx [beat] base) .rackRx beat [] ∧ frameKind beat ≠ 0x41
    ∧ AtHead (put .panelRx [mkFrame 0x51 0 []] base) .panelRx (mkFrame 0x51 0 []) []
    ∧ (after .takeConsolePass (put .consoleRx [beat] base)).links.queues[QueueId.rackPass.ix].frames = [beat]
    ∧ (after .takeRackReturn (put .rackRx [beat] base)).links.queues[QueueId.consoleTx.ix].frames.getLast? = some beat
    ∧ (after .takePanelOther (put .panelRx [mkFrame 0x51 0 []] base)).links.queues[QueueId.panelRx.ix].frames = [] := by
  decide +kernel

/-- A request of the given body. -/
def asks (body : List Byte) : State := put .consoleRx [mkFrame 0x20 126 body] base

theorem test_witness_UnparsedRequestRefused :
    AtHead (asks [7]) .consoleRx (mkFrame 0x20 126 [7]) [] ∧ frameStation (mkFrame 0x20 126 [7])
      = base.tables.link.station
      ∧ frameBody (mkFrame 0x20 126 [7, 0]) = [7, 0] ∧ argCountOk 5 1 = some false
      ∧ reply (after .unknownRequest (asks [])) = [0, 0, 1, 1] ∧ reply (after .unknownRequest (asks [7])) = [7, 0, 1, 1]
      ∧ reply (after .unknownRequest (asks [7, 0])) = [7, 0, 1, 2] ∧ reply (after .unknownRequest (asks [7, 23]))
        = [7, 23, 1, 2]
      ∧ reply (after .unknownRequest (asks [7, 5, 1])) = [7, 5, 1, 1] := by decide +kernel

/-- PANEL-RX holding the given frames with its latch closed. -/
def latched (fs : List Frame) : State :=
  let s := put .panelRx fs base
  s.withLinks (closeLatch .panelRx s.links)

/-- R170: the latch opens as the last frame leaves; R178: the bodies of a DONE and of a REFUSED, whose reason BUSY is 12. -/
theorem test_witness_HeadLeavesQueue_FrameOffered_RepliesBuilt :
    (dropHead .panelRx (latched [beat])).links.queues[QueueId.panelRx.ix] = ⟨[], false⟩
      ∧ (dropHead .panelRx (latched [beat, beat])).links.queues[QueueId.panelRx.ix] = ⟨[beat], true⟩
      ∧ (offer .panelRx beat (panelFree 9)).links.queues[QueueId.panelRx.ix].frames.getLast? = some beat
      ∧ (offer .panelRx beat (panelFree 8)).links.queues[QueueId.panelRx.ix].latched = true
      ∧ (offer .panelRx beat (panelFree 8)).links.queues[QueueId.panelRx.ix].frames.length = 1
      ∧ newest (offer .panelRx beat (panelFree 8)) = [25, 5, 0x31, 5]
      ∧ (offer .panelRx beat (latched [List.replicate 500 0])).log.ring.length = base.log.ring.length
      ∧ reply (sendReply 7 9 (doneWith [5]) base) = [7, 9, 0, 0, 5]
      ∧ reply (sendReply 7 9 (refuse .busy) base) = [7, 9, 1, 12] := by decide +kernel

/-! ### Records, queues and their laws -/

/-- A log of so many records numbered from 1. -/
def logOf (n : Nat) : LogState :=
  ⟨(List.range n).map fun i => ⟨BitVec.ofNat 32 (i + 1), 0, .reset, 0, 0, 0⟩, BitVec.ofNat 32 (n + 1), false, none⟩

theorem test_witness_RecordWritten :
    (logOf 255).ring.length < 256 ∧ (logOf 256).ring.length = 256
      ∧ freeBytes (put .consoleTx [List.replicate 1511 0] base).tables (put .consoleTx [List.replicate 1511 0] base).links
        .consoleTx = 21
      ∧ (writeRecord .alarmReset 0 0 0 (base.withLog (logOf 256))).log.ring.length = 256
      ∧ (writeRecord .alarmReset 0 0 0 (base.withLog (logOf 256))).log.removed = true
      ∧ (writeRecord .alarmReset 0 0 0 (base.withLog (logOf 255))).log.removed = false
      ∧ nextSeq 0xFFFFFFFF = 1
      ∧ (writeRecord .alarmReset 0 0 0 (put .consoleTx [List.replicate 1511 0] base)).links.queues[QueueId.consoleTx.ix].frames.length
        = 2
      ∧ (writeRecord .alarmReset 0 0 0 (put .consoleTx [List.replicate 1512 0] base)).links.queues[QueueId.consoleTx.ix].frames.length
        = 1 := by decide +kernel

/-- Every law stated of a step holds in `base`, which takes a step. -/
theorem test_witness_laws_kept : QueuesFit base ∧ LogLaw base.log ∧ CurtainLaw base.curtain ∧ PositionLaw base
    ∧ AlarmLaw base ∧ DemandLaw base ∧ WindowsLaw base ∧ (∀ z : ZoneId, MapLaw (zoneAt base z)) ∧ OneInvestigates base :=
      by
  refine ⟨fun q => ?_, ⟨?_, trivial, ?_, ?_, ?_⟩, ?_, ?_, ?_, ?_, ?_, ?_, ?_⟩
  · cases q <;> decide +kernel
  all_goals first | decide +kernel | (unfold WindowsLaw; decide +kernel)

theorem test_witness_HolderLawKept : HolderLaw base.calls := by
  refine ⟨fun e c h => ?_, fun d e x y a h => ?_⟩
  · simp [base, State.reset, freshCalls] at h
  · simp [base, State.reset, freshCalls] at h

/-- R186: three records numbered from 1, and what comes after the last number. -/
theorem test_witness_LogLaw : LogLaw (logOf 3) := by
  refine ⟨?_, ⟨?_, ?_, trivial⟩, ?_, ?_, ?_⟩ <;> decide +kernel

theorem test_witness_laws_step : step (base.withPending [.panelFireReleased]) = .next (base.withLines base.lines) := rfl

/-! ### The level stream and the levels -/

/-- The stream with a freshness and its timers. -/
def streamAs (f : Freshness) (console hold : Timer) (s : State) : State :=
  s.withStream { s.stream with freshness := f, consoleTimer := console, holdTimer := hold }

/-- The hold time 0 in force. -/
def noHold (s : State) : State := s.withTables { s.tables with stream := ⟨1000, 0⟩ }

theorem test_witness_ConsoleTimersRunOut :
    (streamAs .fresh (some 0) none base).stream.consoleTimer ≠ none ∧ base.tables.stream.hold ≠ 0
      ∧ (noHold base).tables.stream.hold = 0 ∧ (streamAs .held none (some 0) base).stream.freshness = .held
      ∧ (after .consoleTimerExpiry (streamAs .fresh (some 0) none base)).stream.holdTimer = some 500000
      ∧ newest (after .consoleTimerExpiry (streamAs .fresh (some 0) none base)) = [22, 0, 0, 1]
      ∧ newest (after .consoleTimerExpiry (noHold (streamAs .fresh (some 0) none base))) = [22, 0, 0, 2]
      ∧ newest (after .holdTimerExpiry (streamAs .held none (some 0) base)) = [22, 0, 1, 2] := by decide +kernel

/-- The bodies of the clauses: foreign, empty, short, count 0, count 65, past the universe's end, a byte missing, and
good. -/
theorem test_witness_LevelsFrameSorted :
    AtHead (levelsIn [4, 0, 1, 9] base) .consoleRx (mkFrame 0x10 0 [4, 0, 1, 9]) []
      ∧ frameBody (mkFrame 0x10 0 [4, 0, 1, 9]) = [4, 0, 1, 9]
      ∧ (after .takeLevels (levelsIn [4, 0, 1, 9] base)).links.queues[QueueId.rackPass.ix].frames
        = [mkFrame 0x10 0 [4, 0, 1, 9]]
      ∧ newest (after .takeLevels (levelsIn [] base)) = [24, 0, 255, 0]
      ∧ newest (after .takeLevels (levelsIn [3] base)) = [24, 0, 3, 1]
      ∧ newest (after .takeLevels (levelsIn [0, 0, 0] base)) = [24, 0, 0, 3]
      ∧ newest (after .takeLevels (levelsIn [0, 255, 2, 1, 1] base)) = [24, 0, 0, 5]
      ∧ newest (after .takeLevels (levelsIn [0, 0, 2, 1] base)) = [24, 0, 0, 4]
      ∧ (base.withStream { base.stream with malformed := putAt base.stream.malformed 4 true }).stream.malformed[latchOf []]
        = true
      ∧ newest (after .takeLevels (levelsIn [0, 5, 3, 40, 50, 60] base)) = [22, 0, 2, 0] := by decide +kernel

/-- R60: slots 5, 6 and 7 of universe 0 are channel 0, guard 0 and channel 1. -/
theorem test_takeLevels_run : let t := after .takeLevels (levelsIn [0, 5, 3, 40, 50, 60] base)
    t.levels.channels[0].request = 40 ∧ t.levels.channels[1].request = 60 ∧ t.levels.channels[0].output = 100
      ∧ t.stream.slots[6].shadow = 50 ∧ t.stream.slots[7].seen = true ∧ t.stream.slots[8].seen = false
      ∧ t.stream.consoleTimer = some 100000 := by decide +kernel

/-- A FRESH stream with a frame over slots 5 to 8, the last of them PASS, and with no room in RACK-PASS for the second. -/
def rewriting : State := levelsIn [0, 5, 4, 40, 50, 60, 70] (streamAs .fresh (some 9) none base)

theorem test_witness_LevelsFrameRewritten : rewriting.restart = .idle ∧ rewriting.stream.freshness = .fresh
    ∧ AtHead rewriting .consoleRx (mkFrame 0x10 0 [0, 5, 4, 40, 50, 60, 70]) []
    ∧ (after .takeLevels rewriting).links.queues[QueueId.rackPass.ix].frames
      = [mkFrame 0x10 0 [0, 5, 4, 100, 50, 0, 70]]
    ∧ (after .takeLevels rewriting).stream.slots[6].dirty = false
    ∧ freeBytes (put .rackPass [List.replicate 1520 0] rewriting).tables (put .rackPass [List.replicate 1520 0] rewriting).links
      .rackPass < 16
    ∧ (after .takeLevels (put .rackPass [List.replicate 1520 0] rewriting)).stream.slots[6].dirty = true :=
      by decide +kernel

theorem test_periodicRefresh : (after .periodicRefresh base).stream.slots[5].dirty = true
    ∧ (after .periodicRefresh base).stream.slots[9].dirty = false
    ∧ (after .periodicRefresh base).stream.refreshTimer = some 100000 := by decide +kernel

/-- A call flashes area 0 LOW. -/
def flashing : State := base.withCalls { base.calls with flash := putAt base.calls.flash 0 .low }

/-- Area 0 in emergency. -/
def emergency : State := base.withEffects { base.effects with set := ⟨false, 1, 0, false⟩ }

/-- R40, R42, R39: from the loss level 100, a flash to 100 × 155 / 255 at once, and an emergency rise of 64. -/
theorem test_witness_LevelStepMovesOutputs :
    emergencyFlag base tabs.channels[0] = false ∧ flashOf base tabs.channels[0] = .inactive
      ∧ flashOf flashing tabs.channels[0] ≠ .inactive ∧ emergencyFlag emergency tabs.channels[0] = true
      ∧ tabs.channels[95].inUse ≠ 1
      ∧ (after .levelStep base).levels.channels[0].output = 100
      ∧ (after .levelStep flashing).levels.channels[0].output = 60
      ∧ (after .levelStep emergency).levels.channels[0].output = 164
      ∧ (after .levelStep (base.withLevels { base.levels with channels := putAt base.levels.channels 0 ⟨0, false, 200⟩ })).levels.channels[0].output
        = 184 := by decide +kernel

/-- R35: the fixed points of the scaling; R34: a request of 200 under a master of 128. -/
theorem test_witness_TargetsAndScaling :
    scaledLevel 255 255 = 255 ∧ scaledLevel 128 128 = 64 ∧ scaledLevel 1 128 = 1 ∧ scaledLevel 1 127 = 0
      ∧ tabs.channels[0].area.toNat = (0 : AreaId).val
      ∧ targetLevel (streamAs .fresh (some 9) none base) tabs.channels[0] ⟨255, true, 0⟩ = 200
      ∧ targetLevel (streamAs .fresh (some 9) none base) tabs.channels[0] ⟨1, true, 0⟩ = 20
      ∧ targetLevel base tabs.channels[0] ⟨255, true, 0⟩ = 100
      ∧ targetLevel (curtainAs (fun c => { c with state := .stalled }) base) tabs.channels[0] ⟨255, true, 0⟩ = 180
      ∧ targetLevel emergency tabs.channels[0] ⟨0, false, 0⟩ = 255 := by decide +kernel

theorem test_witness_RefreshSpanCoversMarks : refreshSpan (marked [5, 60, 70, 200]) = some (5, 56)
    ∧ (∀ x ∈ marked [], x.dirty = false) := by decide +kernel

/-- RACK-EXPRESS with only so many bytes free. -/
def expressFree (n : Nat) (s : State := base) : State := put .rackExpress [List.replicate (1020 - n) 0] s

/-- Every mark clear. -/
def unmarked (s : State) : State :=
  s.withStream { s.stream with slots := mapVec (fun x => { x with dirty := false }) s.stream.slots }

/-- R43, R63 to R65: the marks of a table load lie on slots 5, 6 and 7 of universe 0 and 255 of universe 3, whose frames
fill 15 and 13 bytes; an output that changes is marked alone; and with 12 bytes free both frames are refused, with one
record. -/
theorem test_witness_LevelStepRefreshes :
    refreshSpan (universeSlots base.stream.slots 0) = some (5, 3)
      ∧ (after .levelStep base).links.queues[QueueId.rackExpress.ix].frames
        = [mkFrame 0x10 0 [0, 5, 3, 100, 0, 0], mkFrame 0x10 0 [3, 255, 1, 60]]
      ∧ freeBytes (expressFree 28).tables (expressFree 28).links .rackExpress = 28
      ∧ (after .levelStep (expressFree 28)).links.queues[QueueId.rackExpress.ix].frames.length = 3
      ∧ (after .levelStep (expressFree 28)).stream.slots[5].dirty = false
      ∧ (after .levelStep (expressFree 12)).links.queues[QueueId.rackExpress.ix].frames.length = 1
      ∧ (after .levelStep (expressFree 12)).stream.slots[1023].dirty = true
      ∧ newest (after .levelStep (expressFree 12)) = [25, 2, 0x10, 11]
      ∧ (after .levelStep (expressFree 12)).log.ring.length = 2
      ∧ (after .levelStep (unmarked emergency)).links.queues[QueueId.rackExpress.ix].frames
        = [mkFrame 0x10 0 [0, 5, 1, 164]]
      ∧ ((after .levelStep (base.withEffects { base.effects with
          set := { emptyEffects with stageSafe := true } })).links.queues[QueueId.rackExpress.ix].frames).head?
        = some (mkFrame 0x10 0 [0, 5, 3, 100, 200, 0]) := by decide +kernel

/-- R65: with 14 bytes free the frame of universe 0, of 15, is refused and that of universe 3, of 13, behind it is
filed. -/
theorem test_witness_LevelStepRefreshes_mixed :
    let t := after .levelStep (expressFree 14)
    freeBytes (expressFree 14).tables (expressFree 14).links .rackExpress = 14
      ∧ t.links.queues[QueueId.rackExpress.ix].frames.drop 1 = [mkFrame 0x10 0 [3, 255, 1, 60]]
      ∧ t.stream.slots[1023].dirty = false ∧ t.stream.slots[5].dirty = true ∧ newest t = [25, 2, 0x10, 11]
      ∧ t.links.queues[QueueId.rackExpress.ix].latched = true := by decide +kernel

theorem test_witness_SetMasterTakes :
    Requested (ask 5 [24, 9] base) 5 7 [24, 9] ∧ Requested (ask 5 [22, 9] base) 5 7 [22, 9]
      ∧ Requested (ask 5 [23, 9] base) 5 7 [23, 9]
      ∧ base.tables.areas[(22 : AreaId)].kind = 0 ∧ base.tables.areas[(23 : AreaId)].kind ≠ 0
      ∧ reply (after .setMaster (ask 5 [24, 9] base)) = [7, 5, 1, 3]
      ∧ reply (after .setMaster (ask 5 [22, 9] base)) = [7, 5, 1, 3]
      ∧ reply (after .setMaster (ask 5 [23, 9] base)) = [7, 5, 0, 0]
      ∧ (after .setMaster (ask 5 [23, 9] base)).levels.masters[23] = 9 := by decide +kernel

/-! ### The safety curtain -/

/-- A curtain at rest in a state: at a position, referenced, with no demand and no timer. -/
def at_ (st : CurtainState) (p : Nat) (s : State := base) : State :=
  s.withCurtain { s.curtain with
    state := st, position := p, referenced := true, demands := noDemands, startTimer := none, dropTimer := none }

/-- A raise in progress. -/
def raising : State := curtainAs (fun c => { c with holdDrive := true, raisePermit := true, startTimer := some 9, raiseTimer := some 9 })
  (at_ .raising 5000)

/-- A curtain held at OUT. -/
def held : State := curtainAs (fun c => { c with holdDrive := true }) (at_ .out 25000)

/-- A fall in progress with a request in the set. -/
def falling : State := curtainAs (fun c => { c with
  demands := { noDemands with request := true }, startTimer := some 9, stallTimer := some 9, dropTimer := some 9 })
  (at_ .descending 5000)

/-- The lines replaced. -/
def linesAs (f : Lines → Lines) (s : State) : State := s.withLines (f s.lines)

/-- Both limits asserted. -/
def conflict (s : State) : State := linesAs (fun l => { l with limitIn := true, limitOut := true }) s

theorem test_witness_CurtainLaws : CurtainLaw held.curtain ∧ CurtainLaw raising.curtain ∧ PositionLaw held :=
  by decide +kernel

/-- R76: from both low, ENC-B rises first downward and ENC-A first upward; both at once is illegal; the count holds at 0
and at N. -/
theorem test_witness_EncoderMovesCount :
    AlarmLaw falling ∧ falling.lines.encA = false ∧ falling.lines.encB = false
      ∧ (after (.encoderTransition false true) falling).curtain.position = 4999
      ∧ (after (.encoderTransition true false) falling).curtain.position = 5001
      ∧ (after (.encoderTransition false true) (at_ .descending 0)).curtain.position = 0
      ∧ (after (.encoderTransition true false) (at_ .descending 25000)).curtain.position = 25000
      ∧ (after (.encoderTransition true true) falling).curtain.referenced = false
      ∧ hasFault (after (.encoderTransition true true) (conflict falling)).curtain .encoderError = true
      ∧ (after (.encoderTransition false true) (conflict falling)).curtain.window = falling.curtain.window
      ∧ (after (.encoderTransition false false) falling).curtain.position = 5000 := by decide +kernel

/-- A speed window with a count, a reference and completed windows. -/
def windowAs (w : SpeedWindow) (s : State) : State := curtainAs (fun c => { c with window := w, capture := 1600 }) s

/-- R82: no reference, one count short of two of the end, and the end (W = 16). -/
theorem test_witness_SpeedWindowCounts :
    AlarmLaw falling ∧ falling.curtain.state = .descending
      ∧ ¬(falling.lines.limitIn = true ∧ falling.lines.limitOut = true)
      ∧ (after (.encoderTransition false true) (windowAs ⟨0, none, 0⟩ falling)).curtain.window = ⟨0, some (1600, 0), 0⟩
      ∧ (after (.encoderTransition false true) (windowAs ⟨14, some (0, 0), 3⟩ falling)).curtain.window
        = ⟨15, some (0, 0), 3⟩
      ∧ (after (.encoderTransition false true) (windowAs ⟨15, some (0, 0), 3⟩ falling)).curtain.window
        = ⟨0, some (1600, 0), 3⟩
      ∧ (after (.encoderTransition false true) (windowAs ⟨15, some (0, 0), 0⟩ falling)).curtain.stallTimer
        = some 100000 := by
  decide +kernel

/-- R83, R84: 16 pulses of 400 in 1600 ticks are 400 mm/s; in 1000 ticks 640, above vmax; the third window is judged
first. -/
theorem test_witness_SpeedJudged :
    (windowAs ⟨15, some (600, 0), 2⟩ falling).curtain.window.reference = some (600, 0)
      ∧ falling.tables.curtain.window.toNat ≤ 15 + 1
      ∧ (after (.encoderTransition false true) (windowAs ⟨15, some (600, 0), 2⟩ falling)).curtain.faults = 32
      ∧ (after (.encoderTransition false true) (windowAs ⟨15, some (0, 0), 2⟩ falling)).curtain.faults = 0
      ∧ (after (.encoderTransition false true) (windowAs ⟨15, some (600, 0), 1⟩ falling)).curtain.faults = 0
      ∧ (after (.encoderTransition false true) (windowAs ⟨15, some (0, 1), 2⟩ falling)).curtain.faults = 64 := by
  decide +kernel

/-- A fall in SLOWING, entered at a position. -/
def slowing (entry p : Nat) : State := curtainAs (fun c => { c with state := .slowing, slowEntry := some entry, position := p }) falling

/-- R85: S is 3000 and the tolerance 40: the slow zone is reached at 3000, and the switch is late at 2960. R86: G is 250
and vslow 150; 16 pulses of 400 in 6400 ticks are 100 mm/s and in 1600 ticks 400. -/
theorem test_witness_SlowZoneCounts :
    (after (.encoderTransition false true) (curtainAs (fun c => { c with position := 3002 }) falling)).curtain.state
        = .descending
      ∧ (after (.encoderTransition false true) (curtainAs (fun c => { c with position := 3001 }) falling)).curtain.slowEntry
        = some 3000
      ∧ (after (.encoderTransition false true) (slowing 3000 2962)).curtain.faults = 0
      ∧ (after (.encoderTransition false true) (slowing 3000 2961)).curtain.faults = 128
      ∧ (after (.encoderTransition false true) (windowAs ⟨15, some (0, 0), 0⟩ (slowing 5000 4751))).curtain.faults = 256
      ∧ (after (.encoderTransition false true) (windowAs ⟨15, some (0, 0), 0⟩ (slowing 5000 4752))).curtain.faults = 0
      ∧ (after (.encoderTransition false true) (windowAs ⟨14, some (0, 0), 0⟩ (slowing 5000 4751))).curtain.faults = 0
      ∧ (after (.encoderTransition false true) (curtainAs (fun c => { c with
          test := ⟨.running, 0, none, none, none, none, none, 0⟩ }) (falling.withNow 250))).curtain.test.firstMove
        = some 2 := by decide +kernel

/-- A curtain that has stalled, with the entry it kept and its position. -/
def stalledAt (entry : Option Nat) (p : Nat) : State := curtainAs (fun c => { c with
  state := .stalled, slowEntry := entry, position := p, startTimer := none, stallTimer := none }) falling

/-- R81: an UNKNOWN curtain that falls. R87: STALLED returns to DESCENDING, to SLOWING with its entry, and to SLOWING where
the slow zone is reached, each with one record. -/
theorem test_witness_CountsBeginFall :
    AlarmLaw (stalledAt none 2990)
      ∧ (after (.encoderTransition false true) (at_ .unknown 5000)).curtain.state = .descending
      ∧ (after (.encoderTransition false true) (at_ .unknown 5000)).curtain.dropTimer = some 4000000
      ∧ (after (.encoderTransition false true) (at_ .unknown 2900)).curtain.faults = 128
      ∧ newest (after (.encoderTransition false true) (stalledAt none 5000)) = [13, 0, 6, 4]
      ∧ (after (.encoderTransition false true) (stalledAt (some 3000) 5000)).curtain.slowEntry = some 3000
      ∧ newest (after (.encoderTransition false true) (stalledAt (some 3000) 5000)) = [13, 0, 6, 5]
      ∧ (after (.encoderTransition false true) (stalledAt none 2990)).curtain.slowEntry = some 2989
      ∧ (after (.encoderTransition false true) (stalledAt none 2990)).log.ring.length = base.log.ring.length + 1
      ∧ newest (after (.encoderTransition false true) (stalledAt none 2990)) = [13, 0, 6, 5]
      ∧ 12 ≤ freeBytes base.tables base.links .panelTx := by decide +kernel

/-- R95: N is 25000 and the drift tolerance 100. R94: the first upward count of a raise. R82: upward in a fall. -/
theorem test_witness_CountsBesideFall :
    (after (.encoderTransition false true) (at_ .out 24901)).curtain.faults = 0
      ∧ (after (.encoderTransition false true) (at_ .out 24900)).curtain.faults = 4096
      ∧ (after (.encoderTransition true false) (at_ .out 24898)).curtain.faults = 4096
      ∧ (after (.encoderTransition true false) (at_ .out 24899)).curtain.faults = 0
      ∧ (after (.encoderTransition true false) raising).curtain.startTimer = none
      ∧ (after (.encoderTransition false true) raising).curtain.startTimer = some 9
      ∧ (after (.encoderTransition true false) (windowAs ⟨3, some (0, 0), 2⟩ falling)).curtain.window = ⟨0, none, 0⟩
      ∧ (after (.encoderTransition true false) (at_ .unknown 25000)).curtain.position = 25000
      ∧ (after (.encoderTransition false true) (at_ .resting 0)).curtain.position = 0 := by decide +kernel

theorem test_witness_CaptureTimerWraps :
    (after .captureTimerWrap (windowAs ⟨0, some (5, 254), 0⟩ base)).curtain.window.reference = some (5, 255)
      ∧ (after .captureTimerWrap (windowAs ⟨0, some (5, 255), 0⟩ base)).curtain.window.reference = some (5, 255)
      ∧ (after .captureTimerWrap (windowAs ⟨0, none, 0⟩ base)).curtain.capture = 0 := by decide +kernel

/-- A test of the curtain, accepted at tick 0, in a fall. -/
def testing : State := curtainAs (fun c => { c with test := ⟨.running, 0, none, none, none, none, none, 0⟩ }) falling

theorem test_witness_LimitInArrives :
    falling.lines.limitIn = false ∧ falling.lines.limitOut = false
      ∧ falling.tables.curtain.tolerance.toNat < falling.curtain.position
      ∧ (after .limitInAsserted falling).curtain.state = .resting
        ∧ (after .limitInAsserted falling).curtain.demands.any = false
      ∧ hasFault (after .limitInAsserted falling).curtain .positionMismatch = true
      ∧ (after .limitInAsserted (at_ .descending 40)).curtain.faults = 0
      ∧ hasFault (after .limitInAsserted (at_ .resting 41)).curtain .positionMismatch = true
      ∧ (after .limitInAsserted testing).curtain.test.status = .closed false
      ∧ (after .limitInAsserted (curtainAs (fun c => { c with position := 40 }) testing)).curtain.test.status
        = .closed true
      ∧ (after .limitInAsserted ((curtainAs (fun c => { c with position := 40 }) testing).withNow 4000100)).phase.testValid
        = false := by decide +kernel

theorem test_witness_LimitOutByState :
    (after .limitOutAsserted raising).curtain.state = .out ∧ (after .limitOutAsserted raising).curtain.holdDrive = true
      ∧ (after .limitOutAsserted held).curtain.state = .out
      ∧ (after .limitOutAsserted (windowAs ⟨3, some (0, 0), 1⟩ falling)).curtain.window = ⟨0, none, 0⟩
      ∧ (after .limitOutAsserted (at_ .resting 0)).curtain.state = .descending
      ∧ (after .limitOutAsserted (at_ .resting 0)).curtain.dropTimer = some 4000000 := by decide +kernel

theorem test_witness_LimitsInConflict :
    AlarmLaw (linesAs (fun l => { l with limitOut := true }) held)
      ∧ (linesAs (fun l => { l with limitOut := true }) held).lines.limitOut = true
      ∧ (after .limitInAsserted (linesAs (fun l => { l with limitOut := true }) held)).curtain.state = .unknown
      ∧ (after .limitInAsserted (linesAs (fun l => { l with limitOut := true }) held)).curtain.holdDrive = false
      ∧ (conflict (at_ .unknown 5)).lines.limitIn = true ∧ (conflict (at_ .unknown 5)).curtain.state = .unknown
      ∧ (after (.limitReleased .outLimit) (conflict (at_ .unknown 5))).curtain.state = .resting
      ∧ (after (.limitReleased .inLimit) (conflict (at_ .unknown 5))).curtain.state = .descending
      ∧ (after (.limitReleased .inLimit) (linesAs (fun l => { l with limitIn := true }) held)).curtain.state = .out :=
        by
  decide +kernel

theorem test_witness_StageReleasePressed :
    AlarmLaw held ∧ held.lines.stageRelease = false ∧ held.curtain.demands.any = false ∧ held.curtain.raisePermit
      = false
      ∧ (after .stageReleaseAsserted held).curtain.state = .descending
      ∧ (after .stageReleaseAsserted held).curtain.holdDrive = false
      ∧ (after .stageReleaseAsserted raising).curtain.raiseTimer = none
      ∧ (after .stageReleaseAsserted (linesAs (fun l => { l with limitIn := true }) raising)).curtain.state = .resting
      ∧ (after .stageReleaseAsserted (at_ .resting 0)).curtain = (at_ .resting 0).curtain
      ∧ (after .stageReleaseAsserted falling).curtain.demands.stageRelease = true := by decide +kernel

theorem test_witness_CurtainReleaseRequested :
    AlarmLaw held ∧ Requested (ask 15 [] held) 15 7 [] ∧ Requested (ask 15 [] raising) 15 7 []
      ∧ Requested (ask 15 [] falling) 15 7 []
      ∧ reply (after .curtainRelease (ask 15 [] falling)) = [7, 15, 0, 0]
      ∧ (after .curtainRelease (ask 15 [] held)).curtain.state = .descending
      ∧ (after .curtainRelease (ask 15 [] raising)).curtain.demands = { noDemands with request := true }
      ∧ (after .curtainRelease (ask 15 [] (linesAs (fun l => { l with limitIn := true }) raising))).curtain.state
        = .resting
      ∧ (curtainAs (fun c => { c with demands := { noDemands with request := true } }) held).curtain.demands.any
        = true := by
  decide +kernel

/-- The alarm stage set by hand. -/
def staged (st : Stage) (s : State) : State := s.withEffects { s.effects with stage := st }

theorem test_witness_CurtainRaiseTested :
    Requested (ask 16 [] (at_ .resting 0)) 16 7 []
      ∧ reply (after .curtainRaise (ask 16 [] held)) = [7, 16, 1, 6]
      ∧ reply (after .curtainRaise (ask 16 [] (staged .staffAlert (at_ .resting 0)))) = [7, 16, 1, 5]
      ∧ reply (after .curtainRaise (ask 16 [] (inPhase .recovery (at_ .resting 0)))) = [7, 16, 1, 4]
      ∧ reply (after .curtainRaise (ask 16 [] (at_ .resting 0))) = [7, 16, 0, 0]
      ∧ (after .curtainRaise (ask 16 [] (at_ .resting 0))).curtain.raisePermit = true
      ∧ (after .curtainRaise (ask 16 [] (at_ .resting 0))).curtain.raiseTimer = some 12000000 := by decide +kernel

theorem test_witness_CurtainTestTested :
    AlarmLaw (inPhase .dark held) ∧ Requested (ask 17 [] (inPhase .dark held)) 17 7 []
      ∧ reply (after .curtainTest (ask 17 [] (inPhase .dark falling))) = [7, 17, 1, 6]
      ∧ reply (after .curtainTest (ask 17 [] held)) = [7, 17, 1, 4]
      ∧ (after .curtainTest (ask 17 [] (inPhase .dark held))).curtain.test.status = .running
      ∧ (after .curtainTest (ask 17 [] (inPhase .dark held))).curtain.state = .descending := by decide +kernel

/-- R85: S is 3000 and the tolerance 40, so 3040 is not early and 3041 is. -/
theorem test_witness_SlowSwitchAndReleases :
    AlarmLaw falling ∧ falling.lines.slowSw = false
      ∧ (after .slowSwAsserted (at_ .descending 3040)).curtain.faults = 0
      ∧ (after .slowSwAsserted (at_ .descending 3040)).curtain.slowEntry = some 3040
      ∧ (after .slowSwAsserted (at_ .slowing 3041)).curtain.faults = 128
      ∧ (after .slowSwAsserted held).curtain.state = .out
      ∧ (after .slowSwReleased (linesAs (fun l => { l with slowSw := true }) base)).lines.slowSw = false
      ∧ (after .stageReleaseReleased (linesAs (fun l => { l with stageRelease := true }) base)).lines.stageRelease
        = false
      ∧ (after .panelFireReleased panelClosed).lines.panelFire = false := by decide +kernel

/-- ALARM in the drop-demand set of a fall. -/
def alarmFall : State := curtainAs (fun c => { c with demands := { noDemands with alarm := true } }) falling

theorem test_witness_FallTimersRunOut :
    AlarmLaw alarmFall ∧ alarmFall.curtain.startTimer ≠ none ∧ alarmFall.curtain.stallTimer ≠ none
      ∧ base.curtain.stallTimer = none ∧ held.curtain.startTimer = none ∧ alarmFall.curtain.demands.alarm = true
      ∧ hasFault alarmFall.curtain .startFail = false ∧ hasFault alarmFall.curtain .stall = false
      ∧ (after .startWindowExpiry falling).curtain.state = .stalled
        ∧ hasFault (after .startWindowExpiry falling).curtain .startFail = true
      ∧ (zoneAt (after .startWindowExpiry falling) 64).state = .pre
      ∧ (zoneAt (after .startWindowExpiry alarmFall) 64).state = .alarm
      ∧ (after .stallTimerExpiry falling).curtain.state = .stalled
        ∧ (zoneAt (after .stallTimerExpiry alarmFall) 64).state = .alarm
      ∧ (curtainAs (fun c => { c with startTimer := some 9, stallTimer := some 9 }) held).curtain.startTimer ≠ none :=
        by
  decide +kernel

theorem test_witness_DropTimerRunsOut :
    AlarmLaw testing ∧ held.curtain.dropTimer = none ∧ testing.curtain.dropTimer ≠ none ∧ testing.curtain.test.status
      = .running
      ∧ falling.curtain.test.status ≠ .running
      ∧ (after .dropTimerExpiry testing).curtain.test.status = .closed false
        ∧ (after .dropTimerExpiry testing).phase.testValid = false
      ∧ (after .dropTimerExpiry falling).curtain.state = .descending
      ∧ hasFault (after .dropTimerExpiry falling).curtain .dropTimeout = true := by decide +kernel

theorem test_witness_RaiseTimersRunOut :
    AlarmLaw raising ∧ held.curtain.raiseTimer = none ∧ raising.curtain.raiseTimer ≠ none
      ∧ raising.curtain.startTimer ≠ none
      ∧ raising.lines.limitIn = false ∧ (linesAs (fun l => { l with limitIn := true }) raising).lines.limitIn = true
      ∧ (curtainAs (fun c => { c with raiseTimer := some 9 }) held).curtain.state ≠ .raising
      ∧ (after .raiseTimerExpiry raising).curtain.demands = { noDemands with raiseFail := true }
      ∧ (after .startWindowExpiry raising).curtain.state = .descending
      ∧ (after .raiseTimerExpiry (linesAs (fun l => { l with limitIn := true }) raising)).curtain.state = .resting := by
  decide +kernel

/-- Zone 64 in a state, with the stage that goes with it. -/
def zone64 (st : ZoneState) (s : State) : State := lawful (zoneAs 64 { freshZone with state := st } s)

/-- What zone 64 is after a command, from each of QUIET, PRE and ALARM. -/
def zone64After (c : Instr) (s : State) : List ZoneState :=
  [ZoneState.quiet, .pre, .alarm].map fun st => (zoneAt (after c (zone64 st s)) 64).state

/-- A fault recorded by hand. -/
def faulted (f : CurtainFault) (s : State) : State := curtainAs (fun c => { c with faults := addFault c.faults f }) s

/-- R92, R124: the tolerance is 40 and N 25000: a mismatch at rest, in a fall and in the passage; arrivals at IN and OUT. -/
theorem test_witness_Zone64AtLimits : AlarmLaw (zone64 .pre falling) ∧ AlarmLaw (zone64 .alarm raising)
    ∧ zone64After .limitInAsserted falling = [.quiet, .quiet, .alarm]
    ∧ zone64After .limitOutAsserted raising = [.quiet, .quiet, .alarm]
    ∧ zone64After .limitInAsserted (at_ .resting 41) = [.pre, .pre, .alarm]
    ∧ zone64After .limitInAsserted (at_ .resting 40) = [.quiet, .pre, .alarm]
    ∧ zone64After .limitOutAsserted falling = [.pre, .pre, .alarm]
    ∧ zone64After .limitOutAsserted (at_ .descending 24960) = [.quiet, .pre, .alarm]
    ∧ zone64After .limitOutAsserted (at_ .resting 0) = [.pre, .pre, .alarm]
    ∧ zone64After .limitOutAsserted (faulted .positionMismatch (at_ .out 5)) = [.quiet, .pre, .alarm] := by decide +kernel

/-- R92, R124: each timer's fault, new and recorded before; a raise that fails with LIMIT-IN open and asserted. -/
theorem test_witness_Zone64AtTimers :
    zone64After .startWindowExpiry falling = [.pre, .pre, .alarm]
    ∧ zone64After .startWindowExpiry (faulted .startFail falling) = [.quiet, .pre, .alarm]
    ∧ zone64After .stallTimerExpiry falling = [.pre, .pre, .alarm]
    ∧ zone64After .stallTimerExpiry (faulted .stall falling) = [.quiet, .pre, .alarm]
    ∧ zone64After .dropTimerExpiry falling = [.pre, .pre, .alarm]
    ∧ zone64After .dropTimerExpiry (faulted .dropTimeout falling) = [.quiet, .pre, .alarm]
    ∧ zone64After .raiseTimerExpiry raising = [.pre, .pre, .alarm]
    ∧ zone64After .startWindowExpiry (linesAs (fun l => { l with limitIn := true }) raising) = [.quiet, .quiet, .alarm] := by
  decide +kernel

/-! ### The fire zones -/

/-- A ZONE-REPORT at the head of PANEL-RX, as the statements about reports name it. -/
theorem reportAt_report (s : State) (z : ZoneId) (k : ReportKind) (n : Byte)
    (hb : frameBody (mkFrame 0x30 0 [zoneByte z, k.code, n]) = [zoneByte z, k.code, n]) (hz : z.val < 64)
    (hc : (rowOf s z).cls ≠ 0) (hn : n ≠ 255) : ReportAt (report [zoneByte z, k.code, n] s) z k n := by
  refine ⟨⟨mkFrame 0x30 0 [zoneByte z, k.code, n], [], ?_, rfl, hb⟩, hz, hc, hn⟩
  simp [AtHead, report, put, putAt, State.withLinks]

/-- Zone 0 with a device map and the rest as given. -/
def zone0 (r : Zone) : State := lawful (zoneAs 0 r base)

/-- Zone 0 investigating, started by device 3. -/
def investigating0 : State := zone0 { freshZone with
  state := .investigating, devices := [⟨3, .fire false⟩], starters := [3], ackTimer := some 9, invTimer := some 9 }

/-- Zone 1, of double knock, knocked by device 4. -/
def knocked1 : State :=
  lawful (zoneAs 1 { freshZone with state := .firstKnock, devices := [⟨4, .fire false⟩], knock := some 4 } base)

/-- Zone 0 with an open window and device 2 masked. -/
def masked0 : State := zone0 { freshZone with state := .pre, devices := [⟨2, .fire true⟩], window := some 1000000 }

/-- Zone 0 with a full map. -/
def full0 : State := zone0 { freshZone with devices := (List.range 16).map fun i => ⟨byteOf i, .fault⟩ }

theorem test_witness_ZoneRecordLaws : (∀ z : ZoneId, MapLaw (zoneAt full0 z)) ∧ MapLaw (zoneAt masked0 0)
    ∧ (zonesIn investigating0.monitor.zones .investigating) = [0] := by decide +kernel

/-- R113: a law held by an investigation, and one that begins. -/
theorem test_witness_InvestigationLaw_InvestigationBegins : InvestigationLaw investigating0 ∧ AlarmLaw base
    ∧ (zoneAt base 0).state ≠ .investigating
    ∧ (zoneAt (after .takeZoneReport (report [0, 2, 3] base)) 0).state = .investigating := by decide +kernel

theorem test_witness_AlarmBoundLaws : AlarmLaw masked0 ∧ DemandLaw masked0 ∧ openWindows masked0.monitor.zones = 1
  ∧ WindowsLaw masked0 := by
  unfold WindowsLaw; decide +kernel

/-- Zone 0 in ALARM. -/
def alarm0 : State := zone0 { freshZone with state := .alarm }

theorem test_witness_ZoneLeavesAlarm : (zoneAt alarm0 0).state = .alarm
    ∧ (zoneAt (after .alarmReset (ask 12 [] alarm0)) 0).state = .quiet := by decide +kernel

/-- R104: the five discards, at the edges of each test. -/
theorem test_witness_ReportDiscarded :
    AtHead (report [0, 1] base) .panelRx (mkFrame 0x30 0 [0, 1]) [] ∧ frameBody (mkFrame 0x30 0 [0, 1]) = [0, 1]
      ∧ newest (after .takeZoneReport (report [0, 1] base)) = [12, 0, 5, 0]
      ∧ newest (after .takeZoneReport (report [] base)) = [12, 255, 5, 0]
      ∧ newest (after .takeZoneReport (report [64, 1, 1] base)) = [12, 64, 1, 0]
      ∧ newest (after .takeZoneReport (report [63, 5, 1] base)) = [12, 63, 4, 0]
      ∧ newest (after .takeZoneReport (report [63, 4, 255] base)) = [12, 63, 3, 0]
      ∧ newest (after .takeZoneReport (report [62, 4, 254] base)) = [12, 62, 2, 0] := by decide +kernel

theorem test_witness_QuietReports :
    ReportAt (report [1, 0, 4] knocked1) 1 .normal 4 ∧ ReportAt (report [0, 1, 3] base) 0 .pre 3
      ∧ ReportAt (report [0, 4, 3] base) 0 .fault 3 ∧ ReportAt (report [1, 1, 4] knocked1) 1 .pre 4
      ∧ ReportAt (report [1, 4, 4] knocked1) 1 .fault 4 ∧ ReportAt (report [0, 0, 3] base) 0 .normal 3 := by
  refine ⟨reportAt_report _ 1 .normal 4 ?_ ?_ ?_ ?_, reportAt_report _ 0 .pre 3 ?_ ?_ ?_ ?_,
    reportAt_report _ 0 .fault 3 ?_ ?_ ?_ ?_, reportAt_report _ 1 .pre 4 ?_ ?_ ?_ ?_,
    reportAt_report _ 1 .fault 4 ?_ ?_ ?_ ?_, reportAt_report _ 0 .normal 3 ?_ ?_ ?_ ?_⟩ <;> decide +kernel

theorem test_quiet_reports : AlarmLaw knocked1
    ∧ (zoneAt (after .takeZoneReport (report [1, 0, 4] knocked1)) 1) = freshZone
    ∧ (zoneAt (after .takeZoneReport (report [1, 1, 4] knocked1)) 1)
      = { freshZone with state := .pre, devices := [⟨4, .pre⟩] }
    ∧ (zoneAt (after .takeZoneReport (report [1, 4, 4] knocked1)) 1) = { freshZone with devices := [⟨4, .fault⟩] }
    ∧ (zoneAt (after .takeZoneReport (report [0, 1, 3] base)) 0).state = .pre
    ∧ newest (after .takeZoneReport (report [0, 4, 200] full0)) = [5, 0, 200, 4] := by decide +kernel

theorem test_witness_ManualReport : ReportAt (report [0, 3, 9] investigating0) 0 .manual 9
    ∧ ReportAt (report [0, 3, 9] full0) 0 .manual 9 := by
  refine ⟨reportAt_report _ 0 .manual 9 ?_ ?_ ?_ ?_, reportAt_report _ 0 .manual 9 ?_ ?_ ?_ ?_⟩ <;> decide +kernel

theorem test_manual_report : AlarmLaw investigating0
    ∧ (zoneAt (after .takeZoneReport (report [0, 3, 9] investigating0)) 0).state = .alarm
    ∧ (zoneAt (after .takeZoneReport (report [0, 3, 9] investigating0)) 0).starters = []
    ∧ (after .takeZoneReport (report [0, 3, 9] full0)).effects.stage = .evacuate := by decide +kernel

theorem test_witness_FireReports :
    ReportAt (report [0, 2, 3] base) 0 .fire 3 ∧ ReportAt (report [0, 2, 3] investigating0) 0 .fire 3
      ∧ ReportAt (report [0, 2, 7] investigating0) 0 .fire 7 ∧ ReportAt (report [0, 2, 7] masked0) 0 .fire 7
      ∧ ReportAt (report [1, 2, 5] base) 1 .fire 5 ∧ ReportAt (report [1, 2, 5] knocked1) 1 .fire 5
      ∧ ReportAt (report [0, 2, 254] full0) 0 .fire 254 ∧ ReportAt (report [0, 2, 3] alarm0) 0 .fire 3 := by
  refine ⟨reportAt_report _ 0 .fire 3 ?_ ?_ ?_ ?_, reportAt_report _ 0 .fire 3 ?_ ?_ ?_ ?_,
    reportAt_report _ 0 .fire 7 ?_ ?_ ?_ ?_, reportAt_report _ 0 .fire 7 ?_ ?_ ?_ ?_,
    reportAt_report _ 1 .fire 5 ?_ ?_ ?_ ?_, reportAt_report _ 1 .fire 5 ?_ ?_ ?_ ?_,
    reportAt_report _ 0 .fire 254 ?_ ?_ ?_ ?_, reportAt_report _ 0 .fire 3 ?_ ?_ ?_ ?_⟩ <;> decide +kernel

/-- The knock device of zone 1 reports FIRE again after its entry was overwritten by a PRE. -/
def knockedPre : State :=
  lawful (zoneAs 1 { freshZone with state := .firstKnock, devices := [⟨4, .pre⟩], knock := some 4 } base)

/-- Zone 0 investigating, its starter's entry now PRE. -/
def starterPre : State := lawful (zoneAs 0 { zoneAt investigating0 0 with devices := [⟨3, .pre⟩] } base)

/-- R108 to R110: a repeat; a mask; a first and a second knock; a delay granted, refused and met by another zone. -/
theorem test_fire_reports :
    AlarmLaw starterPre ∧ deviceIn (zoneAt investigating0 0).devices 3 = some ⟨3, .fire false⟩
      ∧ (zoneAt masked0 0).window ≠ none
      ∧ (zoneAt (after .takeZoneReport (report [0, 2, 7] masked0)) 0).devices = [⟨2, .fire true⟩, ⟨7, .fire true⟩]
      ∧ (zoneAt (after .takeZoneReport (report [1, 2, 5] base)) 1).knock = some 5
      ∧ (zoneAt (after .takeZoneReport (report [1, 2, 5] knocked1)) 1).starters = [4, 5]
      ∧ (zoneAt (after .takeZoneReport (report [1, 2, 4] knockedPre)) 1).state = .firstKnock
      ∧ (zoneAt (after .takeZoneReport (report [0, 2, 3] base)) 0).state = .investigating
      ∧ (zoneAt (after .takeZoneReport (report [0, 2, 3] base)) 0).ackTimer = some 3000000
      ∧ (zoneAt (after .takeZoneReport (report [0, 2, 3] (inPhase .dark base))) 0).state = .alarm
      ∧ (zoneAt (after .takeZoneReport (report [0, 2, 3] starterPre)) 0).state = .investigating
      ∧ (zoneAt (after .takeZoneReport (report [0, 2, 7] starterPre)) 0).state = .alarm
      ∧ (zoneAt (after .takeZoneReport (report [0, 2, 3] alarm0)) 0).devices = [⟨3, .fire false⟩] := by decide +kernel

/-- Zone 0 with a full map, an open window and a state. -/
def fullOpen (st : ZoneState) (knock : Option Byte) (c : Condition) : State := zone0 { freshZone with
  state := st, knock := knock, window := some 9, devices := (List.range 16).map fun i => ⟨byteOf (i + 20), c⟩ }

/-- R108: a report without room closes the window with cause OVERFLOW, and then acts: no masked entry is left; an
unmasked map is confirmed, or a repeated knock leaves the two records alone. -/
theorem test_witness_FireReports_overflow :
    deviceIn (zoneAt (fullOpen .pre none .pre) 0).devices 3 = none ∧ (zoneAt (fullOpen .pre none .pre) 0).window ≠ none
      ∧ MapLaw (zoneAt (fullOpen .pre none (.fire true)) 0)
      ∧ (zoneAt (after .takeZoneReport (report [0, 2, 3] (fullOpen .pre none .pre))) 0).state = .investigating
      ∧ (zoneAt (after .takeZoneReport (report [0, 2, 3] (fullOpen .pre none .pre))) 0).starters = [3]
      ∧ (zoneAt (after .takeZoneReport (report [0, 2, 3] (fullOpen .pre none .pre))) 0).window = none
      ∧ (∀ d ∈ (zoneAt (after .takeZoneReport (report [0, 2, 3] (fullOpen .pre none (.fire true)))) 0).devices,
          d.condition = .fire false)
      ∧ newest (after .takeZoneReport (report [0, 2, 3] (fullOpen .firstKnock (some 3) .pre))) = [8, 0, 4, 0] := by
  decide +kernel

/-- R134, R159: the tables call staff to area 2 by program 1; a cancelled investigation ends the call. -/
theorem test_witness_StaffCallFollows :
    ReportAt (report [0, 2, 3] base) 0 .fire 3 ∧ DelayGranted base 0 ∧ base.tables.alarm.staffAreas ≠ 0
      ∧ base.tables.alarm.staffProgram.toNat = (1 : ProgramId).val ∧ tabs.programs[1].steps[0].kind = 4
      ∧ (callAt (after .takeZoneReport (report [0, 2, 3] base)) 1).map (fun c => (c.held, c.origin, c.program))
        = some (4, .alarmStaff, 1)
      ∧ (after .takeZoneReport (report [0, 2, 3] base)).effects.stage = .staffAlert := by
  refine ⟨reportAt_report _ 0 .fire 3 ?_ ?_ ?_ ?_, ?_⟩ <;> decide +kernel

/-- R110, R113: another zone's confirmation ends the investigation of zone 0 in ALARM. -/
theorem test_second_confirmation :
    let s := lawful (zoneAs 1 (zoneAt knocked1 1) investigating0)
    let t := after .takeZoneReport (report [1, 2, 5] s)
    DelayGranted s 1 ∧ (zoneAt t 0).state = .alarm ∧ (zoneAt t 1).state = .alarm ∧ (zoneAt t 0).invTimer = none := by
  decide +kernel

/-- A PANEL-BEAT at the head of PANEL-RX. -/
def beating (s : State) : State := put .panelRx [beat] s

/-- The panel link in a state. -/
def linkAs (l : PanelLink) (s : State) : State := lawful (s.withMonitor { s.monitor with link := l })

theorem test_witness_PanelBeatTaken_HeartbeatLost :
    AtHead (beating base) .panelRx beat [] ∧ frameKind beat = 0x31 ∧ AlarmLaw (linkAs .lost base)
      ∧ base.monitor.link = .up ∧ (linkAs .lost base).monitor.link ≠ .up ∧ base.monitor.heartbeat ≠ none
      ∧ (base.withMonitor { base.monitor with heartbeat := none }).monitor.heartbeat = none
      ∧ (after .takePanelBeat (beating ((linkAs .lost base).withNow 5))).monitor.heartbeat = some 300005
      ∧ (after .takePanelBeat (beating (linkAs .lost base))).effects.stage = .normal
      ∧ (after .heartbeatTimerExpiry base).effects.stage = .attention
      ∧ (zoneAt (after .heartbeatTimerExpiry investigating0) 0).state = .alarm := by decide +kernel

/-- Zone 0 investigating and acknowledged. -/
def acked0 : State := zone0 { zoneAt investigating0 0 with acked := true, ackTimer := none }

theorem test_witness_AlarmAcknowledged :
    Requested (ask 9 [66] base) 9 7 [66] ∧ Requested (ask 9 [65] base) 9 7 [65]
      ∧ Requested (ask 9 [0] investigating0) 9 7 [0]
      ∧ (zoneAt investigating0 0).state = .investigating
      ∧ reply (after .alarmAck (ask 9 [66] base)) = [7, 9, 1, 3] ∧ reply (after .alarmAck (ask 9 [65] base))
        = [7, 9, 1, 9]
      ∧ reply (after .alarmAck (ask 9 [0] acked0)) = [7, 9, 0, 0]
      ∧ (zoneAt (after .alarmAck (ask 9 [0] investigating0)) 0).ackTimer = none := by decide +kernel

theorem test_witness_InvestigationSettled :
    AlarmLaw acked0 ∧ Requested (ask 10 [0] acked0) 10 7 [0] ∧ Requested (ask 11 [0] acked0) 11 7 [0]
      ∧ reply (after .alarmConfirm (ask 10 [66] base)) = [7, 10, 1, 3]
      ∧ reply (after .alarmConfirm (ask 10 [65] base)) = [7, 10, 1, 9]
      ∧ (zoneAt (after .alarmConfirm (ask 10 [0] acked0)) 0).state = .alarm
      ∧ reply (after .alarmCancel (ask 11 [66] base)) = [7, 11, 1, 3]
      ∧ reply (after .alarmCancel (ask 11 [0] base)) = [7, 11, 1, 9]
      ∧ reply (after .alarmCancel (ask 11 [0] investigating0)) = [7, 11, 1, 10]
      ∧ zoneAt (after .alarmCancel (ask 11 [0] acked0)) 0 = freshZone := by decide +kernel

theorem test_witness_InvestigationTimersRunOut :
    AlarmLaw investigating0 ∧ (zoneAt base 0).ackTimer = none ∧ (zoneAt base 0).invTimer = none
      ∧ (zoneAt investigating0 0).ackTimer ≠ none ∧ (zoneAt investigating0 0).invTimer ≠ none
      ∧ (zoneAt investigating0 0).acked = false
      ∧ (zoneAt (after (.ackTimerExpiry 0) investigating0) 0).state = .alarm
      ∧ (zoneAt (after (.investigationTimerExpiry 0) acked0) 0).state = .alarm
      ∧ (after (.ackTimerExpiry 0) acked0).monitor = acked0.monitor := by decide +kernel

/-- Four windows open, of zones 2 to 5. -/
def fourWindows : State :=
  [(2 : ZoneId), 3, 4, 5].foldl (fun s z => zoneAs z { freshZone with window := some 9 } s) base

theorem test_witness_IsolateZoneTested :
    Requested (ask 13 [64, 0, 60] base) 13 7 [64, 0, 60] ∧ Requested (ask 13 [63, 0, 60] base) 13 7 [63, 0, 60]
      ∧ 4 ≤ openWindows fourWindows.monitor.zones
      ∧ reply (after .isolateZone (ask 13 [64, 0, 60] base)) = [7, 13, 1, 3]
      ∧ reply (after .isolateZone (ask 13 [1, 0, 60] base)) = [7, 13, 1, 3]
      ∧ reply (after .isolateZone (ask 13 [63, 0, 60] (inPhase .dark base))) = [7, 13, 1, 4]
      ∧ reply (after .isolateZone (ask 13 [0, 0, 60] investigating0)) = [7, 13, 1, 5]
      ∧ reply (after .isolateZone (ask 13 [63, 0, 60] fourWindows)) = [7, 13, 1, 11]
      ∧ reply (after .isolateZone (ask 13 [63, 0, 9] base)) = [7, 13, 0, 0]
      ∧ (zoneAt (after .isolateZone (ask 13 [63, 0, 9] base)) 63).window = some 1000000
      ∧ (zoneAt (after .isolateZone (ask 13 [0, 255, 255] masked0)) 0).window = some 90000000
      ∧ newest (after .isolateZone (ask 13 [63, 3, 132] base)) = [7, 63, 3, 132] := by decide +kernel

/-- Zone 0 with an open window and nothing masked. -/
def open0 : State := zone0 { freshZone with window := some 9 }

theorem test_witness_WindowsClose :
    Requested (ask 14 [64] base) 14 7 [64] ∧ Requested (ask 14 [63] base) 14 7 [63]
      ∧ Requested (ask 14 [0] open0) 14 7 [0]
      ∧ MapLaw (zoneAt masked0 0) ∧ (zoneAt masked0 0).window ≠ none ∧ (zoneAt base 0).window = none
      ∧ (∃ d ∈ (zoneAt masked0 0).devices, d.condition = .fire true) ∧ (zoneAt open0 0).devices = []
      ∧ reply (after .endIsolation (ask 14 [64] base)) = [7, 14, 1, 3]
        ∧ reply (after .endIsolation (ask 14 [63] base)) = [7, 14, 0, 0]
      ∧ (zoneAt (after .endIsolation (ask 14 [0] masked0)) 0).state = .investigating
      ∧ newest (after (.isolationWindowExpiry 0) open0) = [8, 0, 1, 0]
      ∧ (zoneAt (after (.isolationWindowExpiry 0) masked0) 0).devices = [⟨2, .fire false⟩] := by decide +kernel

/-- Zone 1, of double knock, with an open window, masked entries, and perhaps a knock. -/
def masked1 (ns : List Byte) (st : ZoneState := .quiet) (knock : Option Byte := none) : State :=
  lawful (zoneAs 1 { freshZone with
    state := st, knock := knock, window := some 9, devices := ns.map fun n => ⟨n, .fire true⟩ } base)

/-- R120: one masked entry of a SINGLE zone takes the confirm decision; one of a DOUBLE zone begins its knock or meets it,
and two confirm it. -/
theorem test_witness_MaskedFiresReplayed :
    let shut (s : State) (z : ZoneId) := zoneAt (after (.isolationWindowExpiry z) s) z
    AlarmLaw masked0 ∧ MapLaw (zoneAt (masked1 [4, 6]) 1) ∧ (zoneAt (masked1 [4]) 1).window ≠ none
      ∧ Requested (ask 14 [1] (masked1 [4])) 14 7 [1]
      ∧ shut masked0 0 = { freshZone with state := .investigating, devices := [⟨2, .fire false⟩], starters := [2]
                                          ackTimer := some 3000000, invTimer := some 12000000 }
      ∧ shut (masked1 [4]) 1 = { freshZone with state := .firstKnock, devices := [⟨4, .fire false⟩], knock := some 4 }
      ∧ zoneAt (after .endIsolation (ask 14 [1] (masked1 [4]))) 1 = shut (masked1 [4]) 1
      ∧ (shut (masked1 [4, 6]) 1).state = .investigating ∧ (shut (masked1 [4, 6]) 1).starters = [4, 6]
      ∧ (shut (masked1 [4] .firstKnock (some 4)) 1).state = .firstKnock
      ∧ (shut (masked1 [4] .firstKnock (some 9)) 1).starters = [9, 4] := by decide +kernel

/-- Zone 0 in ALARM with a FIRE entry. -/
def burning : State := zone0 { freshZone with state := .alarm, devices := [⟨3, .fire false⟩] }

theorem test_witness_AlarmResetTested :
    Requested (ask 12 [] alarm0) 12 7 [] ∧ (linkAs .lost alarm0).monitor.link ≠ .up
      ∧ (∃ d ∈ (zoneAt burning 0).devices, d.condition.isFire = true)
      ∧ reply (after .alarmReset (ask 12 [] (linkAs .lost alarm0))) = [7, 12, 1, 8]
      ∧ reply (after .alarmReset (ask 12 [] burning)) = [7, 12, 1, 5]
      ∧ reply (after .alarmReset (ask 12 [] panelClosed)) = [7, 12, 1, 5]
      ∧ reply (after .alarmReset (ask 12 [] (at_ .slowing 5 alarm0))) = [7, 12, 1, 6]
      ∧ reply (after .alarmReset (ask 12 [] alarm0)) = [7, 12, 0, 0]
      ∧ (after .alarmReset (ask 12 [] alarm0)).effects.stage = .normal
      ∧ (after .alarmReset (ask 12 [] full0)).effects.stage = .attention
      ∧ (after .alarmReset (ask 12 [] alarm0)).effects.set = emptyEffects := by decide +kernel

/-- Zone 0 in ALARM with the evacuation call running. -/
def evacuated0 : State := callAs 0 { newCall 4 0 0 .alarmEvac 3 with held := 3, running := true, stepTimer := some 9 } alarm0

/-- R136: the accepted ALARM-RESET ends the evacuation call RESET, with STOP to the units 10 and 11 of its areas. -/
theorem test_witness_AlarmResetTested_call :
    let t := after .alarmReset (ask 12 [] evacuated0)
    Requested (ask 12 [] evacuated0) 12 7 [] ∧ callAt t 0 = none ∧ t.calls.flash[0] = .inactive
      ∧ (t.log.ring.map fun r => [r.kind.code, r.subject, r.detail0, r.detail1]).contains [17, 4, 5, 0] = true
      ∧ t.links.queues[QueueId.rackExpress.ix].frames = [mkFrame 0x40 10 [3, 0, 0], mkFrame 0x40 11 [3, 0, 0]] := by
  decide +kernel

/-- The tables with row 65 making the stage safe. -/
def safeTabs : Tables := { tabs with response := tabs.response.set 65 { tabs.response[65] with stageSafe := 1 } }

/-- R46: guard 0 stands at slot 6 with the safe level 200; at a shadow of 200 it does not change. -/
theorem test_witness_GuardsFollowAlarm_AlarmReset :
    let s := (unmarked base).withTables safeTabs
    let same := s.withStream { s.stream with slots := putAt s.stream.slots 6 ⟨200, true, false, .guard 0⟩ }
    let dirty (t : State) := t.stream.slots.toList.countP fun x => x.dirty
    AlarmLaw s ∧ s.lines.panelFire = false ∧ (zoneAt s 65).state ≠ .alarm ∧ (rowOf s 65).stageSafe = 1
      ∧ (after .panelFireAsserted s).stream.slots[6].dirty = true ∧ dirty (after .panelFireAsserted s) = 1
      ∧ dirty (after .panelFireAsserted same) = 0
      ∧ dirty (after .panelFireAsserted (unmarked base)) = 0
      ∧ alarm0.effects.set.stageSafe = true ∧ panelAlarm.effects.set.stageSafe = false
      ∧ dirty (after .alarmReset (ask 12 [] (unmarked alarm0))) = 1
      ∧ dirty (after .alarmReset (ask 12 [] (unmarked panelAlarm))) = 0 := by decide +kernel

/-- The tables with areas 0 and 1 in the evacuation areas of row 65. -/
def evacTabs : Tables := { tabs with response := tabs.response.set 65 { tabs.response[65] with evacuation := 3 } }

/-- A staff call holding area 2, a call of entry 2 holding area 0, and a call of entry 3 waiting for area 2. -/
def calling : State :=
  let s := callAs 1 { newCall 5 1 1 .alarmStaff 4 with held := 4, running := true, stepTimer := some 9 }
    (callAs 2 (running 5 0) (callAs 3 { newCall 8 3 3 .request 4 with deadline := some 9 } (base.withTables evacTabs)))
  s.withCalls { s.calls with pendingList := [3] }

/-- The pending list is that of the PENDING calls, entry by entry. -/
theorem pendingLaw_of (cs : CallState) (h : ∀ e : EntryId, decide (e ∈ cs.pendingList) = match cs.table[e] with
    | some c => !c.running
    | none => false) : PendingLaw cs := by
  intro e
  have := h e
  cases hc : cs.table[e] with
  | none => simp [hc] at this; simp [this]
  | some c => cases hr : c.running <;> simp [hc, hr] at this <;> simp [this, hr]

theorem test_witness_PendingLaw : PendingLaw base.calls ∧ PendingLaw calling.calls :=
  ⟨pendingLaw_of _ (by decide +kernel), pendingLaw_of _ (by decide +kernel)⟩

/-- The two clauses of the law of the areas, entry by entry. -/
theorem holderLaw_of (cs : CallState)
    (h : ∀ e : EntryId, ∀ c ∈ cs.table[e], (c.running = false → c.held = 0 ∧ 2 ≤ e.val)
      ∧ ∀ d : EntryId, ∀ x ∈ cs.table[d], ∀ a : AreaId, hasArea x.held a = true → hasArea c.held a = true → d = e) :
    HolderLaw cs :=
  ⟨fun e c he => (h e c he).1, fun d e x y a hx hy => (h e y hy).2 d x hx a⟩

/-- The three clauses of the law of the waiting calls, entry by entry. -/
theorem waitingLaw_of (s : State)
    (h : ∀ e : EntryId, ∀ c ∈ callAt s e, (e.val < 2 ↔ c.priority < 2)
      ∧ ∀ d : EntryId, ∀ x ∈ callAt s d, x.running = false → ∀ a : AreaId, hasArea x.requested a = true →
        hasArea c.held a = true → c.priority ≤ x.priority)
    (hp : s.calls.pendingList.Pairwise fun d e => priorityAt s d ≤ priorityAt s e) : WaitingLaw s :=
  ⟨fun e c he => (h e c he).1, hp, fun d e x y a hx hy hr => (h e y hy).2 d x hx hr a⟩

/-- A staff call, a running call and a call that waits for the staff call's area meet the laws together. -/
theorem test_witness_WaitingLawKept :
    TablesLaw base ∧ HolderLaw calling.calls ∧ PendingLaw calling.calls ∧ WaitingLaw calling ∧ WaitingLaw base := by
  refine ⟨?_, holderLaw_of _ ?_, test_witness_PendingLaw.2, waitingLaw_of _ ?_ ?_, waitingLaw_of _ ?_ ?_⟩ <;> decide +kernel

/-- R157: the law says nothing of a part that permits calls, and holds of one in EVACUATE with no ordinary call. -/
theorem test_witness_SuppressionLawKept : SuppressionLaw calling ∧ SuppressionLaw alarm0
    ∧ calling.effects.stage ≠ .evacuate ∧ alarm0.effects.stage = .evacuate := by decide +kernel

/-- R131, R133, R157: at EVACUATE the staff call ends and entry 3's call with it: though the staff areas became free, it
does not start. The evacuation call starts on areas 0 and 1, pre-empting entry 2's or finding its area free. -/
theorem test_witness_EvacuationCalls :
    let t := after .panelFireAsserted calling
    AlarmLaw calling ∧ calling.lines.panelFire = false ∧ (zoneAt calling 65).state ≠ .alarm
      ∧ calling.effects.stage ≠ .evacuate ∧ callAt calling 0 = none ∧ evacTabs.alarm.evacProgram.toNat = (0 : ProgramId).val
      ∧ evacTabs.programs[0].steps[0].kind = 4
      ∧ callAt t 1 = none ∧ callAt t 2 = none ∧ callAt t 3 = none ∧ t.calls.pendingList = []
      ∧ (callAt t 0).map (fun c => (c.held, c.requested, c.origin)) = some (3, 3, .alarmEvac)
      ∧ (t.log.ring.countP fun r => r.kind = .callStarted) = 1 ∧ (t.log.ring.countP fun r => r.kind = .callEnded) = 3 := by
  decide +kernel

/-- Zone 63 in ALARM, with no evacuation area, and an evacuation call on area 2. -/
def evacuating63 : State := callAs 0 { newCall 4 0 0 .alarmEvac 4 with held := 4, running := true, stepTimer := some 9 }
  (lawful (zoneAs 63 { freshZone with state := .alarm } (base.withTables evacTabs)))

/-- R158: zone 65 adds areas 0 and 1 to the evacuation call. -/
theorem test_witness_EvacuationCalls_grow :
    AlarmLaw evacuating63 ∧ evacuating63.effects.stage = .evacuate ∧ evacuating63.effects.set.evacuation = 0
      ∧ evacuating63.calls.pendingList = []
      ∧ (callAt (after .panelFireAsserted evacuating63) 0).map (fun c => (c.requested, c.held)) = some (7, 7) := by
  decide +kernel

/-- R165: the notice's body is the phase, the stage and the curtain state. -/
theorem test_notice : ((after .noticeTimerExpiry alarm0).links.queues[QueueId.panelTx.ix].frames.map frameBody)
  = [[4, 3, 0]]
    ∧ (after .noticeTimerExpiry alarm0).effects.noticeTimer = some 100000 := by decide +kernel

/-- PANEL-TX, 256 bytes in the defaults, with only so many free. -/
def panelTxFree (n : Nat) (s : State) : State :=
  put .panelTx [List.replicate (queueSize s.tables .panelTx - 4 - n) 0] s

/-- R137: the notice of an act that moved the curtain, in PERFORMANCE (4), NORMAL (0) and DESCENDING (4), with 12 bytes
free and with 11; and the end of an act with the mark and without it. -/
theorem test_witness_ActEnds_ActNotice :
    let frames (s : State) := s.links.queues[QueueId.panelTx.ix].frames
    let notice := mkFrame 0x32 126 [4, 0, 4]
    let due := falling.withEffects { falling.effects with noticeDue := true }
    held.effects.noticeDue = false ∧ (after .stageReleaseAsserted held).curtain.state ≠ held.curtain.state
      ∧ freeBytes held.tables (panelTxFree 12 held).links .panelTx = 12
      ∧ frames (after .stageReleaseAsserted held) = [notice]
      ∧ (frames (after .stageReleaseAsserted (panelTxFree 12 held))).drop 1 = [notice]
      ∧ (frames (after .stageReleaseAsserted (panelTxFree 11 held))).length = 1
      ∧ frames (endAct falling) = [] ∧ frames (endAct due) = [notice] ∧ (endAct due).effects.noticeDue = false := by
  decide +kernel

/-- R130 to R133: a fire confirmed without a delay evacuates, calls for the curtain, the emergency lights and the call. -/
theorem test_alarm_delivered : let t := after .takeZoneReport (report [0, 3, 9] held)
    t.effects.set = ⟨true, 1, 3, true⟩ ∧ t.effects.stage = .evacuate ∧ t.curtain.state = .descending
      ∧ t.curtain.demands.alarm = true ∧ (callAt t 0).map (·.held) = some 3 ∧ t.stream.slots[6].dirty = true := by
  decide +kernel

/-! ### The front-of-house calls -/

/-- Entries 2 to 9 full of calls holding no area. -/
def fullTable : State :=
  ordinaryEntries.foldl (fun s e => callAs e { newCall e.val 2 2 .request 0 with running := true } s) base

theorem test_running_call_holds : (callAt (callAs 2 (running 5 0) base) 2).map (·.held) = some 1
    ∧ (callAt (callAs 2 (running 5 0) base) 2).map (·.running) = some true := by decide +kernel

/-- R145: the tests in order, and a call of program 5, whose step 0 is a WAIT of one unit. -/
theorem test_witness_StartCallTested :
    Requested (ask 6 [16, 0, 0, 1] base) 6 7 [16, 0, 0, 1] ∧ Requested (ask 6 [5, 0x80, 0, 1] base) 6 7 [5, 0x80, 0, 1]
      ∧ (tabs.programs[5].steps[0]).kind = 4 ∧ numberInUse base.calls base.calls.nextNumber = false
      ∧ holderOf base.calls 0 = none ∧ callAt base 2 = none ∧ base.calls.pendingList = []
      ∧ reply (after .startCall (ask 6 [16, 0, 0, 1] base)) = [7, 6, 1, 3]
      ∧ reply (after .startCall (ask 6 [15, 0, 0, 0] base)) = [7, 6, 1, 3]
      ∧ reply (after .startCall (ask 6 [5, 0x40, 0, 0] base)) = [7, 6, 1, 3]
      ∧ reply (after .startCall (ask 6 [1, 0, 0, 1] base)) = [7, 6, 1, 14]
      ∧ reply (after .startCall (ask 6 [5, 0, 0, 1] (inPhase .recovery base))) = [7, 6, 1, 4]
      ∧ reply (after .startCall (ask 6 [5, 0, 0, 1] alarm0)) = [7, 6, 1, 5]
      ∧ reply (after .startCall (ask 6 [5, 0, 0, 1] fullTable)) = [7, 6, 1, 11] := by decide +kernel

theorem test_start_call : let t := after .startCall (ask 6 [5, 0x80, 0, 1] base)
    reply t = [7, 6, 0, 0, 1, 0] ∧ newest t = [16, 1, 5, 0] ∧ (callAt t 2).map (·.stepTimer) = some (some 5000)
      ∧ (callAt t 2).map (·.held) = some 0x800001 ∧ t.calls.nextNumber = 2 := by decide +kernel

/-- Area 0 held by a call of priority 2. -/
def heldArea : State := callAs 2 { running 5 0 with priority := 2 } base

theorem test_witness_WaitingCalls :
    Requested (ask 6 [2, 0, 0, 1] heldArea) 6 7 [2, 0, 0, 1] ∧ Requested (ask 6 [3, 0, 0, 1] heldArea) 6 7 [3, 0, 0, 1]
      ∧ 2 ≤ (tabs.programs[2].cls).toNat ∧ tabs.programs[2].deadline = 0 ∧ tabs.programs[3].deadline = 5
      ∧ word24 0 0 1 = oneArea 0 ∧ holderOf heldArea.calls 0 = some 2 ∧ callAt heldArea 3 = none
      ∧ (callAt heldArea 2).map (·.priority) = some 2 ∧ numberInUse heldArea.calls heldArea.calls.nextNumber = false
      ∧ reply (after .startCall (ask 6 [2, 0, 0, 1] heldArea)) = [7, 6, 0, 0, 1, 2]
      ∧ newest (after .startCall (ask 6 [2, 0, 0, 1] heldArea)) = [17, 1, 1, 2]
      ∧ reply (after .startCall (ask 6 [3, 0, 0, 1] heldArea)) = [7, 6, 0, 0, 1, 1]
      ∧ (after .startCall (ask 6 [3, 0, 0, 1] heldArea)).calls.pendingList = [3]
      ∧ (callAt (after .startCall (ask 6 [3, 0, 0, 1] heldArea)) 3).map (·.deadline) = some (some 500000) :=
        by decide +kernel

/-- A call waiting in entry 3, alone in the list. -/
def waiting3 : State :=
  let s := callAs 3 { newCall 8 3 3 .request 1 with deadline := some 9 } heldArea
  s.withCalls { s.calls with pendingList := [3] }

theorem test_witness_DeadlineRunsOut :
    callAt waiting3 3 = some { newCall 8 3 3 .request 1 with deadline := some 9 } ∧ waiting3.calls.pendingList = [3]
      ∧ waiting3.calls.freed = false ∧ (running 5 0).deadline = none
      ∧ callAt (after (.deadlineTimerExpiry 3) waiting3) 3 = none
      ∧ newest (after (.deadlineTimerExpiry 3) waiting3) = [17, 8, 1, 3] := by decide +kernel

/-- A step of entry 2's call, alone in the table. -/
def inStep2 (p : ProgramId) (cursor : Nat) : State := callAs 2 (running p cursor) base

/-- Areas of a call of priority 3 in entry 2 at a step of a program, with the units it awaits. -/
def lower (p : ProgramId) (held : AreaSet) (awaiting : List Byte) : State :=
  callAs 2 { running p 0 with held := held, requested := held, awaiting := awaiting } base

/-- R147: program 2 takes area 0 of unit 10: the loser's last area; one of two areas; and one of two whose unit was the
last awaited, which ends the MESSAGE step. -/
theorem test_witness_CallPreempts :
    let stop := [mkFrame 0x40 10 [3, 0, 0]]
    let ends (s : State) := after .startCall (ask 6 [2, 0, 0, 1] s)
    Requested (ask 6 [2, 0, 0, 1] (lower 5 1 [])) 6 7 [2, 0, 0, 1] ∧ unitOf tabs 0 = some 10
      ∧ tabs.programs[2].cls.toNat < (running 5 0).priority ∧ holderOf (lower 5 1 []).calls 0 = some 2
      ∧ callAt (ends (lower 5 1 [])) 2 = none ∧ newest (ends (lower 5 1 [])) = [16, 1, 2, 0]
      ∧ (ends (lower 5 1 [])).log.ring.length = base.log.ring.length + 2
      ∧ (ends (lower 5 1 [])).links.queues[QueueId.rackExpress.ix].frames = stop
      ∧ (callAt (ends (lower 5 3 [])) 2).map (·.held) = some 2
      ∧ (ends (lower 5 3 [])).log.ring.length = base.log.ring.length + 1
      ∧ (callAt (ends (lower 3 3 [10, 11])) 2).map (fun c => (c.awaiting, c.cursor)) = some ([11], 0)
      ∧ (callAt (ends (lower 3 3 [10])) 2).map (fun c => (c.cursor, c.held, c.stepTimer)) = some (1, 2, some 100000)
      ∧ (callAt (ends (lower 3 3 [10])) 3).map (·.held) = some 1 := by decide +kernel

/-- Entry 2's call of priority 2 holds area 0, and entry 3's of priority 3 area 1; program 2 may wait 5 s. -/
def twoHeld : State :=
  let t := { tabs with programs := tabs.programs.set 2 { tabs.programs[2] with deadline := 5 } }
  callAs 3 { running 5 0 with number := 10, held := 2, requested := 2 } (heldArea.withTables t)

/-- R146 case 3: program 2 waits for area 0 and clears area 1 of its holder. -/
theorem test_witness_WaitingCallPreempts :
    let t := after .startCall (ask 6 [2, 0, 0, 3] twoHeld)
    Requested (ask 6 [2, 0, 0, 3] twoHeld) 6 7 [2, 0, 0, 3] ∧ word24 0 0 3 = oneArea 0 ||| oneArea 1
      ∧ holderOf twoHeld.calls 0 = some 2 ∧ holderOf twoHeld.calls 1 = some 3 ∧ callAt twoHeld 4 = none
      ∧ reply t = [7, 6, 0, 0, 1, 1] ∧ callAt t 3 = none ∧ t.calls.pendingList = [4] ∧ holderOf t.calls 1 = none
      ∧ (callAt t 4).map (·.deadline) = some (some 500000)
      ∧ t.links.queues[QueueId.rackExpress.ix].frames = [mkFrame 0x40 11 [3, 0, 0]] := by decide +kernel

theorem test_witness_WaitingCallPreempts_law : HolderLaw twoHeld.calls := by
  have h : ∀ e : EntryId, ∀ d : EntryId, ∀ a : AreaId, (match twoHeld.calls.table[e], twoHeld.calls.table[d] with
      | some x, some y => x.running && (decide (e = d) || !(hasArea x.held a && hasArea y.held a))
      | some x, none => x.running
      | none, _ => true) = true := by decide +kernel
  refine ⟨fun e c hc hr => ?_, fun d e x y a hx hy ha hb => ?_⟩
  · have := h e e 0
    simp [hc, hr] at this
  · have := h d e a
    simp [hx, hy, ha, hb] at this
    exact this.2

/-- Entry 2's call, whose next step is END, and a call of entry 3 waiting for its area. -/
def headWaits : State :=
  let s := callAs 3 { newCall 8 5 3 .request 1 with deadline := some 9 } (inStep2 5 1)
  s.withCalls { s.calls with pendingList := [3] }

/-- R148: entry 2's call ends DONE and entry 3's starts. -/
theorem test_witness_PendingCallStarts :
    let t := after (.waitStepExpiry 2) headWaits
    callAt headWaits 2 = some (running 5 1) ∧ (stepAt tabs (running 5 1)).kind = 4 ∧ (stepAt tabs (running 5 2)).kind = 0
      ∧ headWaits.calls.pendingList = [3] ∧ callAt t 2 = none ∧ t.calls.pendingList = []
      ∧ (callAt t 3).map (fun c => (c.held, c.running, c.deadline, c.stepTimer)) = some (1, true, none, some 5000)
      ∧ newest t = [16, 8, 5, 0] := by decide +kernel

/-- A part in REHEARSAL without staff, with a RUNNING call in entry 2 and one waiting in entry 3. -/
def rehearsing : State := headWaits.withPhase ⟨.rehearsal, false, true⟩

/-- R157: DARK suppresses the waiting call and then the running one, whose unit 10 is stopped. -/
theorem test_witness_CallsSuppressed :
    let t := after .setPhase (ask 3 [1] rehearsing)
    Requested (ask 3 [1] rehearsing) 3 7 [1] ∧ 288 ≤ freeBytes rehearsing.tables rehearsing.links .rackExpress
      ∧ (∀ i : EntryId, 2 ≤ i.val → i ≠ 2 → i ≠ 3 → callAt rehearsing i = none)
      ∧ t.calls.pendingList = [] ∧ callAt t 2 = none ∧ callAt t 3 = none
      ∧ t.links.queues[QueueId.rackExpress.ix].frames = [mkFrame 0x40 10 [3, 0, 0]]
      ∧ ((t.log.ring.drop 1).map fun r => [r.kind.code, r.subject, r.detail0, r.detail1])
        = [[2, 0, 2, 1], [17, 8, 4, 5], [17, 9, 4, 5]] := by decide +kernel

theorem test_witness_CancelCallTested :
    Requested (ask 7 [9] heldArea) 7 7 [9] ∧ callAt heldArea 2 = some { running 5 0 with priority := 2 }
      ∧ (∀ e : EntryId, callAt base e = none) ∧ (callAs 1 (running 1 0) base).calls.table[1] = some (running 1 0)
      ∧ reply (after .cancelCall (ask 7 [9] base)) = [7, 7, 1, 15]
      ∧ reply (after .cancelCall (ask 7 [9] (callAs 1 (running 1 0) base))) = [7, 7, 1, 14]
      ∧ callAt (after .cancelCall (ask 7 [9] heldArea)) 2 = none
      ∧ newest (after .cancelCall (ask 7 [9] heldArea)) = [17, 9, 3, 5] := by decide +kernel

/-- R150: program 5's WAIT leads to a WAIT of two units, program 2's to a FLASH, and program 4's CHIME to END. -/
theorem test_witness_StepTimeRuns :
    callAt (inStep2 5 0) 2 = some (running 5 0) ∧ (inStep2 5 0).calls.freed = false
      ∧ (stepAt tabs (running 5 0)).kind = 4 ∧ (stepAt tabs (running 5 1)).kind = 4 ∧ (stepAt tabs (running 2 1)).kind
        = 3
      ∧ (stepAt tabs (running 4 0)).kind = 1 ∧ (stepAt tabs (running 4 1)).kind = 0
      ∧ (callAt (after (.waitStepExpiry 2) (inStep2 5 0)) 2).map (·.stepTimer) = some (some 10000)
      ∧ (after (.waitStepExpiry 2) (inStep2 2 0)).calls.flash[0] = .low
      ∧ newest (after (.chimeStepExpiry 2) (inStep2 4 0)) = [17, 9, 0, 4]
      ∧ callAt (after (.chimeStepExpiry 2) (inStep2 4 0)) 2 = none := by decide +kernel

/-- The tests' tables with program 5 a WAIT followed by the given steps. -/
def stepping (x y : StepBytes) (s : State := base) : State :=
  callAs 2 { running 5 0 with held := 3, requested := 3 } (s.withTables { tabs with
    programs := tabs.programs.set 5 (program 2 0 ⟨4, 0, 1, 0⟩ x y) })

/-- R152, R153: two strikes of tone 1 at the spacing, and message 70 with a limit of 6 s, to the units 10 and 11 of areas 0
and 1; with no room the call carries on without the command. -/
theorem test_witness_UnitStepBegins :
    let chime := stepping ⟨1, 1, 2, 0⟩ ⟨0, 0, 0, 0⟩
    let message := stepping ⟨2, 70, 6, 0⟩ ⟨0, 0, 0, 0⟩
    let frames (t : State) := t.links.queues[QueueId.rackExpress.ix].frames
    callAt chime 2 = some { running 5 0 with held := 3, requested := 3 } ∧ chime.calls.freed = false
      ∧ (stepAt chime.tables (running 5 0)).kind = 4 ∧ (stepAt chime.tables (running 5 1)).kind = 1
      ∧ (stepAt message.tables (running 5 1)).kind = 2
      ∧ frames (after (.waitStepExpiry 2) chime) = [mkFrame 0x40 10 [1, 1, 2], mkFrame 0x40 11 [1, 1, 2]]
      ∧ (callAt (after (.waitStepExpiry 2) chime) 2).map (fun c => (c.cursor, c.stepTimer))
        = some (1, some (2 * tabs.schedule.spacing.toNat * 100))
      ∧ frames (after (.waitStepExpiry 2) message) = [mkFrame 0x40 10 [2, 70, 0], mkFrame 0x40 11 [2, 70, 0]]
      ∧ (callAt (after (.waitStepExpiry 2) message) 2).map (fun c => (c.awaiting, c.stepTimer))
        = some ([10, 11], some 600000)
      ∧ (frames (after (.waitStepExpiry 2) (stepping ⟨2, 70, 6, 0⟩ ⟨0, 0, 0, 0⟩ (expressFree 11)))).length = 1
      ∧ (callAt (after (.waitStepExpiry 2) (stepping ⟨2, 70, 6, 0⟩ ⟨0, 0, 0, 0⟩ (expressFree 11))) 2).map (·.awaiting)
        = some [10, 11] := by decide +kernel

/-- R155: FOREVER; a REPEAT of 2 with its counter at 0, at 1 and at 2, the step behind it a WAIT of three units. -/
theorem test_witness_RepeatStepActs :
    let ends (s : State) := (callAt (after (.waitStepExpiry 2) s) 2).map fun c => (c.cursor, c.counters[1], c.stepTimer)
    let counted (n : Nat) := callAs 2 { running 5 0 with counters := putAt (running 5 0).counters 1 n }
      (stepping ⟨5, 0, 2, 0⟩ ⟨4, 0, 3, 0⟩)
    (stepAt (counted 0).tables (running 5 1)).kind = 5 ∧ (counted 0).calls.freed = false
      ∧ ends (stepping ⟨5, 0, 255, 0⟩ ⟨0, 0, 0, 0⟩) = some (0, 0, some 5000)
      ∧ ends (counted 0) = some (0, 1, some 5000) ∧ ends (counted 1) = some (0, 2, some 5000)
      ∧ ends (counted 2) = some (2, 0, some 15000) := by decide +kernel

/-- A MESSAGE step of message 70, awaiting some units. -/
def messaging (units : List Byte) : State := callAs 2 { running 3 0 with awaiting := units } base

/-- A CALL-DONE at the head of RACK-RX. -/
def callDone (unit message : Byte) (s : State) : State := put .rackRx [mkFrame 0x41 unit [message]] s

/-- R153: unit 10 stands in area 0; program 3's step 1 is a WAIT of 20 units. -/
theorem test_witness_MessageStepEnds :
    callAt (messaging [10]) 2 = some { running 3 0 with awaiting := [10] } ∧ (stepAt tabs (running 3 0)).kind = 2
      ∧ (stepAt tabs (running 3 1)).kind = 4 ∧ areaOfUnit tabs 10 = some 0 ∧ areaOfUnit tabs 99 = none
      ∧ areaOfUnit tabs 11 = some 1 ∧ holderOf (messaging [10]).calls 0 = some 2 ∧ holderOf (messaging [10]).calls 1
        = none
      ∧ AtHead (callDone 10 70 (messaging [10])) .rackRx (mkFrame 0x41 10 [70]) [] ∧ frameBody (mkFrame 0x41 10 [70])
        = [70]
      ∧ (callAt (after .takeCallDone (callDone 10 70 (messaging [10]))) 2).map (·.cursor) = some 1
      ∧ (callAt (after .takeCallDone (callDone 10 70 (messaging [10, 12]))) 2).map (·.awaiting) = some [12]
      ∧ (callAt (after .takeCallDone (callDone 10 71 (messaging [10]))) 2).map (·.cursor) = some 0
      ∧ newest (after (.messageLimitExpiry 2) (messaging [10])) = [18, 9, 10, 70]
      ∧ (callAt (after (.messageLimitExpiry 2) (messaging [10])) 2).map (·.stepTimer) = some (some 100000) :=
        by decide +kernel

/-- A FLASH step of period 10, low time 4 and 2 cycles, holding area 0, in its progress. -/
def flashStep (low : Bool) (cycles : Nat) : State :=
  let s := callAs 2 { running 15 0 with flash := some ⟨low, cycles⟩ } base
  s.withCalls { s.calls with flash := putAt s.calls.flash 0 (if low then .low else .high) }

theorem test_witness_FlashTurns :
    callAt (flashStep true 0) 2 = some { running 15 0 with flash := some ⟨true, 0⟩ }
      ∧ (stepAt tabs (running 15 0)).kind = 3
      ∧ (stepAt tabs (running 15 1)).kind = 4
      ∧ (after (.flashTimerExpiry 2) (flashStep true 0)).calls.flash[0] = .high
      ∧ (callAt (after (.flashTimerExpiry 2) (flashStep true 0)) 2).map (·.stepTimer) = some (some 30000)
      ∧ (after (.flashTimerExpiry 2) (flashStep false 0)).calls.flash[0] = .low
      ∧ (after (.flashTimerExpiry 2) (flashStep false 1)).calls.flash[0] = .inactive
      ∧ (callAt (after (.flashTimerExpiry 2) (flashStep false 1)) 2).map (·.cursor) = some 1 := by decide +kernel

/-- An interval with so much time left. -/
def interval (left : Nat) : State :=
  let s := inPhase .interval base
  s.withCalls { s.calls with remaining := left, clock := some 0, progress := Vector.replicate 6 .unfired }

theorem test_witness_IntervalClockTicks_ExtendIntervalTested :
    (interval 60).calls.clock ≠ none ∧ base.calls.clock = none ∧ Requested (ask 8 [0, 9] (interval 60)) 8 7 [0, 9]
      ∧ (after .intervalClockTick (interval 60)).calls.progress[0] = .fired
      ∧ (after .intervalClockTick (interval 60)).calls.progress[1] = .unfired
      ∧ (after .intervalClockTick (interval 60)).calls.clock = some 100000 := by decide +kernel

theorem test_interval_ends_and_extends :
    (after .intervalClockTick (interval 1)).calls.clock = none ∧ (after .intervalClockTick (interval 1)).phase.phase
      = .interval
      ∧ newest (after .intervalClockTick (interval 1)) = [21, 0, 0, 0]
      ∧ reply (after .extendInterval (ask 8 [0, 9] (interval 60))) = [7, 8, 0, 0, 0, 70]
      ∧ reply (after .extendInterval (ask 8 [255, 255] (interval 65000))) = [7, 8, 0, 0, 255, 255]
      ∧ reply (after .extendInterval (ask 8 [0, 9] base)) = [7, 8, 1, 4] := by decide +kernel

/-- The entry at 59 s alone to fire, and one of offset 0, in a phase. -/
def lastTicks (offset : Word16) (p : Phase) : State :=
  let t := { tabs with schedule := { tabs.schedule with entries := tabs.schedule.entries.set 0 ⟨1, offset, 2, 1⟩ } }
  let s := inPhase p (interval (offset.toNat + 1))
  (s.withTables t).withCalls { s.calls with progress := putAt (Vector.replicate 6 .discarded) 0 .unfired }

/-- R161: the entry is refused in DARK, in EVACUATE and with the table full, and admitted in INTERVAL, where INTERVAL-END
follows an entry of offset 0. -/
theorem test_witness_ScheduleEntryFires :
    (lastTicks 59 .dark).calls.clock ≠ none ∧ (lastTicks 59 .dark).calls.freed = false
      ∧ (lastTicks 59 .dark).calls.progress[0] = .unfired ∧ tabs.areas[0].kind ≠ 0
      ∧ newest (after .intervalClockTick (lastTicks 59 .dark)) = [20, 0, 4, 0]
      ∧ newest (after .intervalClockTick (staged .evacuate (lastTicks 59 .interval))) = [20, 0, 5, 0]
      ∧ newest (after .intervalClockTick ((lastTicks 59 .interval).withCalls
          { fullTable.calls with clock := some 0, remaining := 60, progress := Vector.replicate 6 .unfired }))
        = [20, 0, 11, 0]
      ∧ newest (after .intervalClockTick (lastTicks 59 .interval)) = [16, 1, 2, 1]
      ∧ (callAt (after .intervalClockTick (lastTicks 59 .interval)) 2).map (fun c => (c.held, c.origin))
        = some (1, .schedule)
      ∧ ((after .intervalClockTick (lastTicks 0 .interval)).log.ring.drop 1).map (fun r => r.kind.code) = [16, 21]
      ∧ ((after .intervalClockTick (lastTicks 0 .dark)).log.ring.drop 1).map (fun r => r.kind.code) = [20, 21] := by
  decide +kernel

/-! ### The show phases -/

/-- The working copy with area 0's channel pointing at an area not in use. -/
def badWorking : State := (inPhase .maintenance base).withWorking { tabs with areas := defaultTables.areas }

theorem test_witness_SetPhaseTested :
    Requested (ask 3 [8] base) 3 7 [8] ∧ Requested (ask 3 [7] base) 3 7 [7]
      ∧ reply (after .setPhase (ask 3 [8] base)) = [7, 3, 1, 3] ∧ reply (after .setPhase (ask 3 [4] base))
        = [7, 3, 0, 0, 4]
      ∧ reply (after .setPhase (ask 3 [5] alarm0)) = [7, 3, 1, 5] ∧ reply (after .setPhase (ask 3 [7] base))
        = [7, 3, 1, 4]
      ∧ (validate badWorking.working).isSome = true ∧ ((reply (after .setPhase (ask 3 [1] badWorking))).take 4)
        = [7, 3, 1, 13]
      ∧ reply (after .setPhase (ask 3 [0] (inPhase .dark writing))) = [7, 3, 1, 12]
      ∧ reply (after .setPhase (ask 3 [3] (base.withPhase ⟨.dark, false, false⟩))) = [7, 3, 1, 7]
      ∧ reply (after .setPhase (ask 3 [3] (staged .staffAlert (inPhase .dark base)))) = [7, 3, 1, 5]
      ∧ reply (after .setPhase (ask 3 [3] (linkAs .lost (inPhase .dark base)))) = [7, 3, 1, 8]
      ∧ reply (after .setPhase (ask 3 [4] (inPhase .recovery base))) = [7, 3, 1, 6] := by decide +kernel

theorem test_witness_PhaseChanges :
    Requested (ask 3 [6] masked0) 3 7 [6] ∧ masked0.phase.phase ≠ .maintenance ∧ masked0.curtain.test.status ≠ .running
      ∧ reply (after .setPhase (ask 3 [6] masked0)) = [7, 3, 0, 0, 6]
      ∧ (zoneAt (after .setPhase (ask 3 [6] masked0)) 0).window = none
      ∧ (zoneAt (after .setPhase (ask 3 [6] investigating0)) 0).state = .alarm
      ∧ (after .setPhase (ask 3 [1] (inPhase .clearing base))).phase = ⟨.dark, false, false⟩
      ∧ newest (after .setPhase (ask 3 [1] (inPhase .clearing base))) = [3, 0, 0, 1]
      ∧ (after .setPhase (ask 3 [0] (inPhase .dark base))).phase.phase = .maintenance
      ∧ (after .setPhase (ask 3 [6] masked0)).phase.testValid = true := by decide +kernel

/-- MAINTENANCE under the defaults, with the tables of the tests in the working copy. -/
def committing : State :=
  { State.reset with working := tabs, curtain := { State.reset.curtain with position := 30000, referenced := true } }

theorem test_witness_CommitTakesForce :
    AlarmLaw committing ∧ Requested (ask 3 [1] committing) 3 7 [1] ∧ committing.phase.phase = .maintenance
      ∧ committing.effects.stage ≠ .evacuate ∧ validate committing.working = none
      ∧ (∀ z : ZoneId, (zoneAt committing z).state ≠ .investigating ∧ (zoneAt committing z).window = none)
      ∧ (after .setPhase (ask 3 [1] committing)).tables.areas[0].callUnit = 10
      ∧ (after .setPhase (ask 3 [1] committing)).levels.masters[0] = 200
      ∧ (after .setPhase (ask 3 [1] committing)).levels.channels[0].output = 100
      ∧ (after .setPhase (ask 3 [1] committing)).curtain.position = 25000
      ∧ (after .setPhase (ask 3 [1] committing)).store.writing.isSome = true := by decide +kernel

/-- R21, R50, R67, R137: slot 5 becomes that of channel 0, whose request its shadow gives; slot 6 guard 0's; slot 8 stays
PASS; and the notice has the phase DARK. -/
theorem test_witness_CommitTakesForce_map :
    let s := committing.withStream { committing.stream with slots := putAt committing.stream.slots 5 ⟨90, true, false, .pass⟩ }
    let t := after .setPhase (ask 3 [1] s)
    AlarmLaw s ∧ Requested (ask 3 [1] s) 3 7 [1]
      ∧ t.stream.slots[5] = ⟨90, true, true, .house 0⟩ ∧ t.stream.slots[6] = ⟨0, false, true, .guard 0⟩
      ∧ t.stream.slots[8] = ⟨0, false, false, .pass⟩
      ∧ t.levels.channels[0].request = 90 ∧ t.levels.channels[0].seen = true ∧ t.levels.channels[3].seen = false
      ∧ t.links.queues[QueueId.panelTx.ix].frames = [mkFrame 0x32 126 [1, 0, 0]] := by decide +kernel

/-- R9: 59 s is raised to 60 s, which skips the entry at 60 s; the schedule's own length is 60 s. -/
theorem test_witness_IntervalEnteredAndLeft :
    Requested (ask 3 [5] base) 3 7 [5] ∧ Requested (ask 3 [5, 0, 59] base) 3 7 [5, 0, 59]
      ∧ base.effects.stage ≠ .evacuate
      ∧ Requested (ask 3 [6] (interval 60)) 3 7 [6] ∧ (interval 60).phase.phase = .interval
      ∧ (after .setPhase (ask 3 [5] base)).calls.remaining = 60
      ∧ (after .setPhase (ask 3 [5, 0, 59] base)).calls.remaining = 60
      ∧ (after .setPhase (ask 3 [5, 14, 17] base)).calls.remaining = 3600
      ∧ (after .setPhase (ask 3 [5] base)).calls.progress[0] = .unfired
      ∧ (after .setPhase (ask 3 [5] base)).calls.progress[1] = .skipped
      ∧ (after .setPhase (ask 3 [5] base)).calls.progress[2] = .discarded
      ∧ (after .setPhase (ask 3 [4] (interval 60))).calls.progress[0] = .discarded
      ∧ (after .setPhase (ask 3 [6] (interval 60))).calls.clock = none := by decide +kernel

theorem test_witness_StaffPresenceSet :
    Requested (ask 4 [2] base) 4 7 [2] ∧ Requested (ask 4 [1] base) 4 7 [1]
      ∧ Requested (ask 4 [0] investigating0) 4 7 [0]
      ∧ reply (after .staffPresent (ask 4 [2] base)) = [7, 4, 1, 3]
      ∧ reply (after .staffPresent (ask 4 [1] (inPhase .dark base))) = [7, 4, 1, 4]
      ∧ reply (after .staffPresent (ask 4 [1] base)) = [7, 4, 0, 0]
      ∧ (zoneAt (after .staffPresent (ask 4 [0] investigating0)) 0).state = .alarm
      ∧ newest (after .staffPresent (ask 4 [1] (base.withPhase ⟨.clearing, false, true⟩))) = [3, 0, 1, 0] :=
        by decide +kernel

/-! ### Management and status -/

/-- R180: sixteen channels of twelve bytes fit, and a read past the table's end is cut there. -/
theorem test_witness_TableRead :
    Requested (ask 1 [10, 0, 1] base) 1 7 [10, 0, 1] ∧ Requested (ask 1 [9, 0, 255] base) 1 7 [9, 0, 255]
      ∧ Requested (ask 1 [1, 95, 255] base) 1 7 [1, 95, 255] ∧ tableOf 9 = some .link ∧ tableOf 1 = some .channels
      ∧ reply (after .readTable (ask 1 [10, 0, 1] base)) = [7, 1, 1, 3]
      ∧ reply (after .readTable (ask 1 [1, 96, 1] base)) = [7, 1, 1, 3]
      ∧ ((reply (after .readTable (ask 1 [1, 95, 255] base))).take 7) = [7, 1, 0, 0, 1, 95, 1]
      ∧ (reply (after .readTable (ask 1 [9, 0, 255] base))).length = 37
      ∧ reply (after .readTable (ask 1 [0, 0, 1] base)) = [7, 1, 0, 0, 0, 0, 1, 1, 10, 200, 100] := by decide +kernel

/-- A part in MAINTENANCE. -/
def maintained : State := inPhase .maintenance base

theorem test_witness_TableWritten :
    Requested (ask 2 [0] maintained) 2 7 [0] ∧ Requested (ask 2 [0, 23, 1, 2, 3, 4] maintained) 2 7 [0, 23, 1, 2, 3, 4]
      ∧ reply (after .writeTable (ask 2 [0] maintained)) = [7, 2, 1, 1]
      ∧ reply (after .writeTable (ask 2 [10, 0, 1] maintained)) = [7, 2, 1, 3]
      ∧ reply (after .writeTable (ask 2 [0, 0] maintained)) = [7, 2, 1, 1]
      ∧ reply (after .writeTable (ask 2 [0, 0, 1, 2, 3] maintained)) = [7, 2, 1, 1]
      ∧ reply (after .writeTable (ask 2 [0, 0, 1, 2, 3, 4] base)) = [7, 2, 1, 4]
      ∧ reply (after .writeTable (ask 2 [0, 24, 1, 2, 3, 4] maintained)) = [7, 2, 1, 3]
      ∧ reply (after .writeTable (ask 2 [0, 23, 1, 2, 3, 4] maintained)) = [7, 2, 0, 0, 0, 23, 1]
      ∧ (after .writeTable (ask 2 [0, 23, 1, 2, 3, 4] maintained)).working.areas[23] = ⟨1, 2, 3, 4⟩
      ∧ (after .writeTable (ask 2 [0, 23, 1, 2, 3, 4] maintained)).tables.areas[23] = ⟨1, 12, 255, 0⟩ :=
        by decide +kernel

/-- R181, R180: the bytes of every table read back as they were written. -/
theorem test_tables_read_back : ∀ id ∈ [TableId.areas, .channels, .guards, .stream, .curtain, .response, .alarm, .programs,
    .schedule, .link], let b := (List.range (tableWidth id)).map fun i => byteOf (i + 201)
    tableBytes (putEntries id 0 1 b tabs) id 0 1 = b := by decide +kernel

theorem test_witness_PeriodicNotice_StatusSent_StatusRead :
    Requested (ask 18 [] base) 18 7 [] ∧ (reply (after .readStatus (ask 18 [] base))).length = 49
      ∧ ((reply (after .statusTimerExpiry base)).take 12) = [4, 0, 1, 0, 0, 0, 0, 2, 1, 0, 0, 0]
      ∧ (reply (after .statusTimerExpiry base)).length = 31
      ∧ (reply (after .readStatus (ask 18 [] base))).drop 35
        = [0, 255, 255, 255, 255, 255, 255, 255, 255, 255, 255, 255, 0, 0]
      ∧ (reply (after .readStatus (ask 18 [] testing))).drop 35
        = [1, 255, 255, 255, 255, 255, 255, 255, 255, 255, 255, 255, 0, 0] := by
  decide +kernel

theorem test_witness_ZonesAndCallsRead :
    Requested (ask 19 [66] base) 19 7 [66] ∧ Requested (ask 19 [65] base) 19 7 [65] ∧ Requested (ask 20 [] base) 20 7 []
      ∧ reply (after .readZone (ask 19 [66] base)) = [7, 19, 1, 3]
      ∧ reply (after .readZone (ask 19 [65] base)) = [7, 19, 0, 0, 65, 0, 0, 255, 255, 255, 0, 0, 0, 0, 0, 0, 0, 0]
      ∧ reply (after .readZone (ask 19 [0] investigating0))
        = [7, 19, 0, 0, 0, 3, 0, 255, 3, 255, 1, 0, 1, 0, 0, 0, 0, 1, 3, 1]
      ∧ (reply (after .readCalls (ask 20 [] base))).length = 152 ∧ callAt heldArea 9 = none := by decide +kernel

theorem test_readCalls : (((reply (after .readCalls (ask 20 [] waiting3))).drop (4 + 26)).take 26)
      = [2, 9, 5, 2, 0, 0, 0, 0, 1, 0, 0, 1, 0, 1, 8, 3, 3, 0, 0, 0, 0, 1, 0, 0, 0, 1]
    ∧ (((reply (after .readCalls (ask 20 [] waiting3))).drop 134).take 3) = [1, 8, 0] := by decide +kernel

/-- R188 on three records: 4294967295 lies at distance 3 and is older, 2 is held, and 5 is newer. -/
theorem test_witness_EventsRead_small :
    let s := base.withLog (logOf 3)
    Requested (ask 21 [255, 255, 255, 255, 8] s) 21 7 [255, 255, 255, 255, 8] ∧ (∀ r ∈ s.log.ring, r.seq ≠ 4294967295)
      ∧ (reply (after .readEvents (ask 21 [255, 255, 255, 255, 8] s))).take 10 = [7, 21, 0, 0, 0, 0, 0, 0, 1, 3]
      ∧ (reply (after .readEvents (ask 21 [0, 0, 0, 2, 8] s))).take 10 = [7, 21, 0, 0, 0, 0, 0, 0, 1, 2]
      ∧ (reply (after .readEvents (ask 21 [0, 0, 0, 5, 8] s))).take 10 = [7, 21, 0, 0, 0, 0, 0, 0, 1, 0] :=
        by decide +kernel

/-- R188: the example of records 301 to 556, with a request from 290, from 553, and from a number not yet given. -/
def log301 : State := base.withLog
  { logOf 0 with
    ring := (List.range 256).map fun i => ⟨BitVec.ofNat 32 (i + 301), 0, .reset, 0, 0, 0⟩, next := 557, removed :=
      true }

theorem test_witness_EventsRead :
    Requested (ask 21 [0, 0, 1, 34, 8] log301) 21 7 [0, 0, 1, 34, 8] ∧ log301.log.ring[252]?.map (·.seq) = some 553
      ∧ log301.log.ring.length ≤ 256 ∧ (∀ r ∈ log301.log.ring.getLast?, log301.log.next = nextSeq r.seq)
      ∧ ((reply (after .readEvents (ask 21 [0, 0, 1, 34, 8] log301))).take 14)
        = [7, 21, 0, 0, 1, 0, 0, 1, 45, 8, 0, 0, 1, 45]
      ∧ ((reply (after .readEvents (ask 21 [0, 0, 2, 41, 8] log301))).take 14)
        = [7, 21, 0, 0, 0, 0, 0, 1, 45, 4, 0, 0, 2, 41]
      ∧ reply (after .readEvents (ask 21 [0, 0, 2, 45, 8] log301)) = [7, 21, 0, 0, 0, 0, 0, 1, 45, 0]
      ∧ ((reply (after .readEvents (ask 21 [0, 0, 0, 0, 1] log301))).take 10) = [7, 21, 0, 0, 1, 0, 0, 1, 45, 1] := by
  decide +kernel

/-- A part in DARK, its curtain at rest. -/
def quietDark : State := inPhase .dark (at_ .resting 0)

theorem test_witness_RestartTaken :
    Requested (ask 22 [] quietDark) 22 7 [] ∧ quietDark.store.writing = none
      ∧ reply (after .restart (ask 22 [] base)) = [7, 22, 1, 4]
        ∧ reply (after .restart (ask 22 [] (inPhase .dark held))) = [7, 22, 1, 6]
      ∧ reply (after .restart (ask 22 [] (inPhase .dark (at_ .resting 0 writing)))) = [7, 22, 1, 12]
      ∧ (after .restart (ask 22 [] quietDark)).restart = .waiting 2
      ∧ (after .restart (put .consoleTx [List.replicate 1520 0] (ask 22 [] quietDark))).restart = .due
      ∧ (base.withRestart (.waiting 1)).restart = .waiting 1
      ∧ base.links.tx[Port.console.ix] = .sending .consoleTx 17
      ∧ (after (.frameSent .console) (base.withRestart (.waiting 1))).restart = .due
      ∧ (after (.frameSent .console) (base.withRestart (.waiting 2))).restart = .waiting 1 := by decide +kernel

/-! ### What the part does of itself -/

/-- Assumption log 2: on an empty queue the part's own state chooses what comes next, or a tick passes. -/
theorem test_tick : (tick State.reset).now = 1 ∧ (tick (State.reset.withNow 17)).pending = [.frameSent .console]
    ∧ (tick (base.withRestart .due)).pending = [.restartPowerOnSequence]
    ∧ (tick (beating base)).pending = [.takePanelBeat]
    ∧ (tick (linesAs (fun l => { l with reset := true }) base)).now = 0 := by decide +kernel

end Sys2Proof.Tests
end

section
/-! The areas: SET-MASTER (R23). -/

namespace Sys2Proof.Machine

/-! ### Areas named by a byte -/

theorem areaIdOf_of_ge {b : Byte} (h : 24 ≤ b.toNat) : areaIdOf b = none := dif_neg (Nat.not_lt.mpr h)

theorem areaIdOf_of_eq {b : Byte} {a : AreaId} (h : b.toNat = a.val) : areaIdOf b = some a := by
  simp [areaIdOf, h]

theorem areaInUse_iff (t : Tables) (a : AreaId) : areaInUse t a = true ↔ t.areas[a].kind ≠ 0 := by simp [areaInUse]

theorem putAt_same {α : Type} {n : Nat} (v : Vector α n) (i : Fin n) (x : α) : (putAt v i x)[i] = x := by simp [putAt]

theorem putAt_other {α : Type} {n : Nat} (v : Vector α n) {i j : Fin n} (x : α) (h : j ≠ i) :
    (putAt v i x)[j] = v[j] :=
  Vector.getElem_set_ne _ _ (Fin.val_ne_of_ne h.symm)

/-! ### The owner's three answers -/

theorem setMasterOwner_noArea {x : Byte} (level : Byte) (s : State) (h : 24 ≤ x.toNat) :
    setMasterOwner [x, level] s = (s, refuse .badArgument) := by
  simp [setMasterOwner, byteAt, areaIdOf_of_ge h]

theorem setMasterOwner_unused {x : Byte} {a : AreaId} (level : Byte) {s : State} (ha : x.toNat = a.val)
    (h : s.tables.areas[a].kind = 0) : setMasterOwner [x, level] s = (s, refuse .badArgument) := by
  have hfree : ¬ areaInUse s.tables a = true := fun hu => (areaInUse_iff _ _).mp hu h
  simp [setMasterOwner, byteAt, areaIdOf_of_eq ha, hfree]

theorem setMasterOwner_inUse {x : Byte} {a : AreaId} (level : Byte) {s : State} (ha : x.toNat = a.val)
    (h : s.tables.areas[a].kind ≠ 0) :
    setMasterOwner [x, level] s = (s.withLevels { s.levels with masters := putAt s.levels.masters a level }, done) := by
  have huse : areaInUse s.tables a = true := (areaInUse_iff _ _).mpr h
  simp [setMasterOwner, byteAt, areaIdOf_of_eq ha, huse]

/-! ### The command -/

theorem exec_setMaster_of_requested {s : State} {tag : Byte} {args : List Byte} (h : Requested s 5 tag args) :
    exec .setMaster s = .next (replied tag 5 (setMasterOwner args (dropHead .consoleRx s)).2
      (setMasterOwner args (dropHead .consoleRx s)).1) :=
  congrArg _ (handle_of_requested h _)

/-- Settles O20, by the owner's three answers: no such area, an area not in use, and an area in use. -/
theorem setMasterTakes : Obligations.SetMasterTakes := by
  intro s tag x level hreq
  have hexec := exec_setMaster_of_requested hreq
  refine ⟨fun hx => ?noArea, fun a ha => ⟨fun hkind => ?unused, fun hkind => ?inUse⟩⟩
  case noArea => rwa [setMasterOwner_noArea _ _ hx] at hexec
  case unused => rwa [setMasterOwner_unused _ ha (by simpa using hkind)] at hexec
  case inUse =>
    rw [setMasterOwner_inUse _ ha (by simpa using hkind), dropHead_levels] at hexec
    exact ⟨putAt s.levels.masters a level, putAt_same _ _ _, fun b hb => putAt_other _ _ hb, hexec⟩

end Sys2Proof.Machine
end

section
/-! House levels: the target of a channel by its stages, and the scaling of its request (R34 to R42). -/

namespace Sys2Proof.Machine

/-! ### Scaling -/

theorem byte_toNat_le (b : Byte) : b.toNat ≤ 255 := Nat.le_of_lt_succ b.isLt

theorem byte_mul_le (c m : Byte) : c.toNat * m.toNat ≤ 255 * 255 :=
  Nat.mul_le_mul (byte_toNat_le c) (byte_toNat_le m)

theorem scaledLevel_le (c m : Byte) : scaledLevel c.toNat m.toNat ≤ 255 := by
  have hprod := byte_mul_le c m
  unfold scaledLevel
  omega

/-- R35: the scaled request lies within half a level of the exact quotient. -/
theorem scaledLevel_nearest (c m : Nat) :
    255 * scaledLevel c m ≤ c * m + 127 ∧ c * m ≤ 255 * scaledLevel c m + 127 := by
  unfold scaledLevel
  omega

theorem scaledLevel_full (c : Nat) : scaledLevel c 255 = c := by
  unfold scaledLevel
  omega

theorem scaledLevel_zero_master (c : Nat) : scaledLevel c 0 = 0 := by simp [scaledLevel]

theorem scaledLevel_zero_request (m : Nat) : scaledLevel 0 m = 0 := by simp [scaledLevel]

theorem scalingFixedPoints : Parts.ScalingFixedPoints := by
  refine ⟨fun c m => ⟨rfl, scaledLevel_le c m, ?largestSum, scaledLevel_nearest _ _⟩,
    fun c => ⟨scaledLevel_full _, scaledLevel_zero_master _⟩, fun m => scaledLevel_zero_request _, ?listed⟩
  case largestSum => exact Nat.add_le_add_right (byte_mul_le c m) 127
  case listed => decide

/-! ### What a channel reads of its area -/

section
variable {e : ChannelEntry} {a : AreaId}

theorem masterFor_of_area (s : State) (h : e.area.toNat = a.val) : masterFor s e = s.levels.masters[a] := by
  simp [masterFor, areaIdOf_of_eq h]

theorem flashOf_of_area (s : State) (h : e.area.toNat = a.val) : flashOf s e = s.calls.flash[a] := by
  simp [flashOf, areaIdOf_of_eq h]

theorem depthOf_of_area (s : State) (h : e.area.toNat = a.val) : depthOf s e = s.tables.areas[a].depth.toNat := by
  simp [depthOf, areaIdOf_of_eq h]

theorem emergencyFlag_of_area (s : State) (h : e.area.toNat = a.val) :
    emergencyFlag s e = s.effects.set.emergency.getLsbD a.val := by
  simp [emergencyFlag, areaIdOf_of_eq h, hasArea]

end

/-! ### The two conditions on the state -/

theorem baseIsLoss_iff (s : State) (c : Channel) :
    baseIsLoss s c = true ↔ s.phase.phase = .recovery ∨ s.stream.freshness = .lost ∨ c.seen = false := by
  simp [baseIsLoss, or_assoc]

theorem fallingState_iff (st : CurtainState) :
    fallingState st = true ↔ st = .descending ∨ st = .slowing ∨ st = .stalled := by
  cases st <;> simp [fallingState]

theorem curtainContributes_iff (s : State) :
    curtainContributes s = true ↔ (s.curtain.state = .descending ∨ s.curtain.state = .slowing
      ∨ s.curtain.state = .stalled) ∧ audience s.phase.phase = true := by
  simp [curtainContributes, fallingState_iff]

/-! ### Bounds of the stages -/

theorem windowLevel_le_ceiling (aud : Bool) (floor ceiling b2 : Nat) : windowLevel aud floor ceiling b2 ≤ ceiling :=
  Nat.min_le_left _ _

theorem curtainLevel_le {applies : Bool} {e : ChannelEntry} {b3 : Nat} (h : b3 ≤ 255) :
    curtainLevel applies e b3 ≤ 255 := by
  unfold curtainLevel
  split
  · exact Nat.max_le.mpr ⟨h, byte_toNat_le _⟩
  · exact h

/-- R38: a flash only lowers a level. -/
theorem flashLevel_le (low : Bool) (depth b4 : Nat) : flashLevel low depth b4 ≤ b4 := by
  unfold flashLevel
  split
  · calc b4 * (255 - depth) / 255
      _ ≤ b4 * 255 / 255 := Nat.div_le_div_right (Nat.mul_le_mul_left _ (Nat.sub_le _ _))
      _ = b4 := Nat.mul_div_cancel _ (by decide)
  · exact Nat.le_refl _

theorem targetLevel_le (s : State) (e : ChannelEntry) (c : Channel) : targetLevel s e c ≤ 255 := by
  unfold targetLevel
  dsimp only
  split
  · exact byte_toNat_le _
  · exact (flashLevel_le _ _ _).trans
      (curtainLevel_le ((windowLevel_le_ceiling _ _ _ _).trans (byte_toNat_le _)))

/-- R40 to R42: the output moves toward the target and not past it. -/
theorem slew_le_max (snap : Bool) (rise fall target output : Nat) :
    slew snap rise fall target output ≤ max target output := by
  unfold slew
  split_ifs <;> omega

theorem resolveChannel_le (s : State) (e : ChannelEntry) (c : Channel) : resolveChannel s e c ≤ 255 :=
  (slew_le_max _ _ _ _ _).trans (Nat.max_le.mpr ⟨targetLevel_le s e c, byte_toNat_le _⟩)

/-! ### The stages, written out -/

/-- Stage 1 (R34, R35). -/
theorem baseLevel_of_area {e : ChannelEntry} {a : AreaId} (s : State) (c : Channel) (h : e.area.toNat = a.val) :
    baseLevel s e c
      = if s.phase.phase = .recovery ∨ s.stream.freshness = .lost ∨ c.seen = false then e.loss.toNat
        else (c.request.toNat * s.levels.masters[a].toNat + 127) / 255 := by
  simp only [baseLevel, baseIsLoss_iff, masterFor_of_area s h, scaledLevel]

/-- Stage 3 (R37). -/
theorem curtainLevel_of_state (s : State) (e : ChannelEntry) (b3 : Nat) :
    curtainLevel (curtainContributes s) e b3
      = if (s.curtain.state = .descending ∨ s.curtain.state = .slowing ∨ s.curtain.state = .stalled)
            ∧ audience s.phase.phase = true ∧ e.marker = 1
        then max b3 e.curtain.toNat else b3 := by
  simp only [curtainLevel, Bool.and_eq_true, decide_eq_true_eq, curtainContributes_iff, and_assoc]

/-- Stage 4 (R38). -/
theorem flashLevel_of_area {e : ChannelEntry} {a : AreaId} (s : State) (b4 : Nat) (h : e.area.toNat = a.val) :
    flashLevel (flashOf s e = .low) (depthOf s e) b4
      = if s.calls.flash[a] = .low then b4 * (255 - s.tables.areas[a].depth.toNat) / 255 else b4 := by
  simp only [flashLevel, decide_eq_true_eq, flashOf_of_area s h, depthOf_of_area s h]

theorem targetByStages : Parts.TargetByStages := by
  intro s a e c ha
  refine ⟨?stages, targetLevel_le s e c, resolveChannel_le s e c⟩
  case stages =>
    simp only [targetLevel, baseLevel_of_area s c ha, windowLevel, curtainLevel_of_state, flashLevel_of_area s _ ha,
      emergencyFlag_of_area s ha]

/-- Settles O18, by what a channel reads of its area, stage after stage, and the arithmetic of the scaling. -/
theorem targetsAndScaling : Obligations.TargetsAndScaling := ⟨targetByStages, scalingFixedPoints⟩

end Sys2Proof.Machine
end

section
/-! Zone records one operation at a time (R102, R103), and what the effect set and the stage read of them (R128, R129). -/

namespace Sys2Proof.Machine

/-! ### Zones named by a byte -/

theorem zoneIdOf_of_gt {b : Byte} (h : 65 < b.toNat) : zoneIdOf b = none := dif_neg (Nat.not_lt.mpr h)

theorem zoneIdOf_zoneByte (z : ZoneId) : zoneIdOf (zoneByte z) = some z := by
  have hlt : z.val < 256 := z.isLt.trans (by decide)
  simp [zoneIdOf, zoneByte, byteOf, Nat.mod_eq_of_lt hlt]

/-! ### One record changed -/

theorem modAt_same {α : Type} {n : Nat} (v : Vector α n) (i : Fin n) (f : α → α) : (modAt v i f)[i] = f v[i] :=
  putAt_same v i _

theorem modAt_other {α : Type} {n : Nat} (v : Vector α n) {i j : Fin n} (f : α → α) (h : j ≠ i) :
    (modAt v i f)[j] = v[j] :=
  putAt_other v _ h

theorem zoneAt_congr {s t : State} (h : t.monitor = s.monitor) (z : ZoneId) : zoneAt t z = zoneAt s z := by
  rw [zoneAt, h, zoneAt]

@[simp] theorem zoneAt_dropHead (q : QueueId) (s : State) (z : ZoneId) : zoneAt (dropHead q s) z = zoneAt s z :=
  zoneAt_congr (dropHead_monitor q s) z

@[simp] theorem zoneAt_updZone_same (z : ZoneId) (f : Zone → Zone) (s : State) :
    zoneAt (updZone z f s) z = f (zoneAt s z) := modAt_same _ _ _

theorem zoneAt_updZone_other {y z : ZoneId} (f : Zone → Zone) (s : State) (h : y ≠ z) :
    zoneAt (updZone z f s) y = zoneAt s y := modAt_other _ _ h

/-- A zone leaves INVESTIGATING by the exits of R113, its record, and the hand-over. -/
theorem enterState_of_investigating (ho : HandOver) {z : ZoneId} {st : ZoneState} {s : State}
    (h : (zoneAt s z).state = .investigating) (hst : st ≠ .investigating) :
    enterState ho z st s = ho false (writeRecord .zoneState (zoneByte z) ZoneState.investigating.code st.code
      (updZone z (fun r => { leaveInvestigation r with state := st }) s)) := by
  simp [enterState, h, hst, Ne.symm hst]

/-! ### What the stage and the effect set read -/

theorem stageOf_eq_evacuate_iff (zones : Vector Zone 66) (link : PanelLink) :
    stageOf zones link = .evacuate ↔ ∃ y : ZoneId, zones[y].state = .alarm := by
  have hany : anyZone zones (fun r => r.state = .alarm) = true ↔ ∃ y : ZoneId, zones[y].state = .alarm := by
    simp [anyZone, Vector.any_toList, Vector.any_eq_true, Fin.exists_iff]
  rw [← hany, stageOf]
  split_ifs <;> simp_all

theorem effectSetOf_congr (rows : Vector ResponseRow 66) {old new : Vector Zone 66}
    (h : ∀ y : ZoneId, new[y].state = .alarm ↔ old[y].state = .alarm) : effectSetOf rows new = effectSetOf rows old := by
  have hzones : zonesIn new .alarm = zonesIn old .alarm :=
    List.filter_congr fun y _ => decide_eq_decide.mpr (h y)
  rw [effectSetOf, hzones, effectSetOf]

end Sys2Proof.Machine
end

section
/-! A hand-over that finds the effect set as it stands, and no new rise, leaves the Zone Monitor alone (R130, R132,
R134). -/

namespace Sys2Proof.Machine

theorem callsClosed_monitor (m : ZoneMonitor) : CallsClosed fun t => t.monitor = m where
  record k a b c h := (writeRecord_monitor k a b c _).trans h
  offer q f h := (offer_monitor q f _).trans h
  calls _ h := h

theorem followInvestigation_of_callsClosed {P : State → Prop} (hP : CallsClosed P) (entered : Bool) {s : State}
    (h : P s) : P (followInvestigation entered s) := by
  have hasked : P (if entered then askStaff s else s) := ite_keeps (askStaff_keeps hP h) h
  exact ite_keeps (endCall_keeps hP _ _ hasked) hasked

/-- A stage that changes to anything but EVACUATE has its record and nothing else (R130). -/
theorem recomputeStage_monitor {rise : State → State} {s : State}
    (h : stageOf s.monitor.zones s.monitor.link = .evacuate → s.effects.stage = .evacuate) :
    (recomputeStage rise s).monitor = s.monitor := by
  unfold recomputeStage
  dsimp only
  split_ifs with hsame hrise
  · rfl
  · exact absurd (hrise.trans (h hrise).symm) hsame
  · exact writeRecord_monitor _ _ _ _ _

theorem handOverWith_monitor {rise curtain : State → State} (entered : Bool) {s : State}
    (hset : currentSet s = s.effects.set)
    (hstage : stageOf s.monitor.zones s.monitor.link = .evacuate → s.effects.stage = .evacuate) :
    (handOverWith rise curtain entered s).monitor = s.monitor := by
  have hrecomputed : (recomputeStage rise (s.withEffects { s.effects with set := currentSet s })).monitor = s.monitor :=
    recomputeStage_monitor hstage
  simp only [handOverWith, if_pos hset]
  exact followInvestigation_of_callsClosed (callsClosed_monitor _) _ hrecomputed

/-- The law of the effect set and the stage, before a change by which no zone joins ALARM or leaves it, is all that a
hand-over after the change needs. -/
theorem handOver_monitor_of_sameAlarms {s t : State} (entered : Bool) (hlaw : AlarmLaw s)
    (htables : t.tables = s.tables) (heffects : t.effects = s.effects)
    (halarms : ∀ y : ZoneId, (zoneAt t y).state = .alarm ↔ (zoneAt s y).state = .alarm) :
    (handOver entered t).monitor = t.monitor := by
  obtain ⟨hset, hstage⟩ := hlaw
  refine handOverWith_monitor entered ?set ?stage
  case set => rw [heffects, hset, currentSet, htables, effectSetOf_congr _ halarms]
  case stage =>
    intro hrise
    obtain ⟨y, hy⟩ := (stageOf_eq_evacuate_iff _ _).mp hrise
    rw [heffects, hstage]
    exact (stageOf_eq_evacuate_iff _ _).mpr ⟨y, (halarms y).mp hy⟩

end Sys2Proof.Machine
end

section
/-! ALARM joining the drop-demand set (R78, R132) keeps every property that leaves the governor, the Phase Controller and
the notice mark free. CurtainClosed leaves the whole Effect Unit free and so cannot speak of the stage. -/

namespace Sys2Proof.Machine

/-- A property that the governor's state, the Phase Controller and the notice mark do not decide. -/
structure NoticeClosed (P : State → Prop) : Prop extends RecordClosed P where
  curtain : ∀ {s} x, P s → P (s.withCurtain x)
  phase : ∀ {s} x, P s → P (s.withPhase x)
  notice : ∀ {s}, P s → P (noticeIsDue s)

namespace NoticeClosed

variable {P : State → Prop} (hP : NoticeClosed P) {rep : Reporter} (hr : ∀ r {s}, P s → P (rep r s)) {s : State}
include hP

theorem toState (st : CurtainState) (h : P s) : P (toState st s) :=
  ite_keeps h (hP.record _ _ _ _ (hP.notice (hP.curtain _ h)))

theorem closeTest (pass : Bool) (total : Option Nat) (h : P s) : P (closeTest pass total s) := by
  unfold Machine.closeTest
  split
  · exact hP.record _ _ _ _ (hP.phase _ (hP.curtain _ h))
  · exact h
  · exact h

theorem enterSlowing (h : P s) : P (enterSlowing s) := ite_keeps (hP.toState _ (hP.curtain _ h)) h

include hr

theorem recordFault (f : CurtainFault) (h : P s) : P (recordFault rep f s) :=
  ite_keeps h (hr _ (hP.record _ _ _ _ (hP.curtain _ h)))

theorem arriveIn (h : P s) : P (arriveIn rep s) :=
  have hreferenced := hP.curtain _ (ite_keeps (hP.recordFault hr _ h) h)
  hr _ (hP.toState _ (hP.closeTest _ _ (hP.curtain _ hreferenced)))

theorem enterDescending (h : P s) : P (enterDescending rep s) :=
  hP.enterSlowing (hP.toState _ (ite_keeps (hP.recordFault hr _ h) h))

theorem demandTaken (h : P s) : P (demandTaken rep s) := by
  unfold Machine.demandTaken
  split
  · exact hP.enterDescending hr (hP.curtain _ (hP.curtain _ h))
  · exact ite_keeps (hP.arriveIn hr (hP.curtain _ h)) (hP.enterDescending hr (hP.curtain _ (hP.curtain _ h)))
  all_goals exact h

theorem addAlarm (h : P s) : P (addAlarm rep s) := by
  have htest := hP.closeTest false none h
  have hdemand : P (addDemand rep .alarm (Machine.closeTest false none s)) :=
    ite_keeps (hP.curtain _ htest) (hP.demandTaken hr (hP.curtain _ htest))
  exact ite_keeps h (ite_keeps (hr _ hdemand) hdemand)

end NoticeClosed

end Sys2Proof.Machine
end

section
/-! A zone in ALARM under the stage EVACUATE stays so through everything a hand-over brings about: the closings of R131
find no delay to grant, and no report to zone 64 leaves ALARM (R103, R110, R113, R124). -/

namespace Sys2Proof.Machine

/-- A record as the exits of R113 leave it. -/
def InvestigationLeft (r : Zone) : Prop := r.ackTimer = none ∧ r.invTimer = none ∧ r.acked = false ∧ r.starters = []

/-- A record in ALARM with nothing of an investigation left in it. -/
def Alarmed (r : Zone) : Prop := r.state = .alarm ∧ InvestigationLeft r

/-- One zone stands in ALARM, and the stage is EVACUATE. -/
def AlarmStands (z : ZoneId) (s : State) : Prop := Alarmed (zoneAt s z) ∧ s.effects.stage = .evacuate

theorem investigationLeft_leaveInvestigation (r : Zone) (st : ZoneState) :
    InvestigationLeft { leaveInvestigation r with state := st } := ⟨rfl, rfl, rfl, rfl⟩

section
variable {z : ZoneId} {s t : State}

theorem alarmStands_congr (hm : t.monitor = s.monitor) (he : t.effects = s.effects) (h : AlarmStands z s) :
    AlarmStands z t := by
  rwa [AlarmStands, zoneAt_congr hm, he]

theorem recordClosed_alarmStands (z : ZoneId) : RecordClosed (AlarmStands z) where
  record k a b c h := alarmStands_congr (writeRecord_monitor k a b c _) (writeRecord_effects k a b c _) h
  offer q f h := alarmStands_congr (offer_monitor q f _) (offer_effects q f _) h

theorem callsClosed_alarmStands (z : ZoneId) : CallsClosed (AlarmStands z) :=
  { recordClosed_alarmStands z with calls := fun _ h => h }

theorem noticeClosed_alarmStands (z : ZoneId) : NoticeClosed (AlarmStands z) :=
  { recordClosed_alarmStands z with curtain := fun _ h => h, phase := fun _ h => h, notice := fun h => h }

theorem updZone_alarmStands (y : ZoneId) {f : Zone → Zone} (hf : y = z → ∀ r, Alarmed r → Alarmed (f r))
    (h : AlarmStands z s) : AlarmStands z (updZone y f s) := by
  obtain ⟨hzone, hstage⟩ := h
  refine ⟨?_, hstage⟩
  by_cases hy : y = z
  · subst hy
    rw [zoneAt_updZone_same]
    exact hf rfl _ hzone
  · rwa [zoneAt_updZone_other _ _ (Ne.symm hy)]

/-- R110: under EVACUATE no delay is granted. -/
theorem delayGranted_of_evacuate (y : ZoneId) (h : s.effects.stage = .evacuate) : delayGranted s y = false := by
  simp [delayGranted, h]

end

/-! ### The Zone Monitor's operations -/

section
variable {z : ZoneId} {ho : HandOver} (hh : ∀ b {s}, AlarmStands z s → AlarmStands z (ho b s)) {s : State}
include hh

/-- No zone is sent out of ALARM, so a change of state is of another zone or none. -/
theorem enterState_alarmStands (y : ZoneId) (st : ZoneState) (hst : (zoneAt s y).state = .alarm → st = .alarm)
    (h : AlarmStands z s) : AlarmStands z (enterState ho y st s) := by
  by_cases hsame : (zoneAt s y).state = st
  · rwa [enterState, if_pos hsame]
  · rw [enterState, if_neg hsame]
    refine hh _ ((recordClosed_alarmStands z).record _ _ _ _ (updZone_alarmStands y ?_ h))
    rintro rfl
    have hold : (zoneAt s y).state = .alarm := h.1.1
    exact absurd (hold.trans (hst hold).symm) hsame

theorem putMap_alarmStands (y : ZoneId) (ds : List Device) (h : AlarmStands z s) : AlarmStands z (putMap ho y ds s) := by
  have hput : AlarmStands z (updZone y (fun r => { r with devices := ds }) s) :=
    updZone_alarmStands y (fun _ _ hr => hr) h
  exact ite_keeps hput (hh _ hput)

theorem confirm_alarmStands (y : ZoneId) (starters : List Byte) (h : AlarmStands z s) :
    AlarmStands z (confirm ho y starters s) := by
  have hconfirm : confirm ho y starters s = enterState ho y .alarm (clearKnock y s) := by
    simp [confirm, delayGranted_of_evacuate y h.2]
  rw [hconfirm]
  exact enterState_alarmStands hh y .alarm (fun _ => rfl) (updZone_alarmStands y (fun _ _ hr => hr) h)

theorem fireActs_alarmStands (y : ZoneId) (n : Byte) (h : AlarmStands z s) : AlarmStands z (fireActs ho y n s) := by
  have hknock (hy : (zoneAt s y).state ≠ .alarm) : AlarmStands z (if (rowOf s y).coincidence = 1 then
      enterState ho y .firstKnock (updZone y (fun r => { r with knock := some n }) s) else confirm ho y [n] s) :=
    ite_keeps (enterState_alarmStands hh y .firstKnock (fun halarm => absurd (by simpa using halarm) hy)
      (updZone_alarmStands y (fun _ _ hr => hr) h)) (confirm_alarmStands hh y _ h)
  unfold fireActs
  dsimp only
  split
  next hquiet => exact hknock (by simp [hquiet])
  next hpre => exact hknock (by simp [hpre])
  next => exact ite_keeps h (confirm_alarmStands hh y _ h)
  next => exact ite_keeps h (enterState_alarmStands hh y .alarm (fun _ => rfl) h)
  next => exact h

theorem replayDevice_alarmStands (y : ZoneId) (n : Byte) (h : AlarmStands z s) :
    AlarmStands z (replayDevice ho y s n) := by
  unfold replayDevice
  split
  · exact fireActs_alarmStands hh y n (putMap_alarmStands hh y _ h)
  · exact h

theorem closeWindow_alarmStands (cause : CloseCause) (y : ZoneId) (h : AlarmStands z s) :
    AlarmStands z (closeWindow ho cause s y) :=
  ite_keeps h (foldl_keeps (fun _ n hs => replayDevice_alarmStands hh y n hs) _ _
    ((recordClosed_alarmStands z).record _ _ _ _ (updZone_alarmStands y (fun _ _ hr => hr) h)))

theorem report64_alarmStands (r : CurtainReport) (h : AlarmStands z s) : AlarmStands z (report64 ho r s) := by
  unfold report64
  split
  next => exact enterState_alarmStands hh 64 .alarm (fun _ => rfl) h
  next hquiet => exact enterState_alarmStands hh 64 .pre (by simp [hquiet]) h
  next hpre => exact enterState_alarmStands hh 64 .quiet (by simp [hpre]) h
  next => exact h
  next => exact h

end

/-! ### The hand-over -/

section
variable {z : ZoneId} {s : State}

/-- With a zone in ALARM the stage is EVACUATE from here on (R129, R130). -/
theorem recomputeStage_alarmStands {rise : State → State} (hr : ∀ {s}, AlarmStands z s → AlarmStands z (rise s))
    (h : Alarmed (zoneAt s z)) : AlarmStands z (recomputeStage rise s) := by
  have hstage : stageOf s.monitor.zones s.monitor.link = .evacuate := (stageOf_eq_evacuate_iff _ _).mpr ⟨z, h.1⟩
  simp only [recomputeStage, hstage, if_true]
  split_ifs with hsame
  · exact ⟨h, hsame.symm⟩
  · exact hr ((recordClosed_alarmStands z).record _ _ _ _ ⟨h, rfl⟩)

theorem handOverWith_alarmStands {rise curtain : State → State}
    (hr : ∀ {s}, AlarmStands z s → AlarmStands z (rise s))
    (hc : ∀ {s}, AlarmStands z s → AlarmStands z (curtain s)) (entered : Bool) (h : Alarmed (zoneAt s z)) :
    AlarmStands z (handOverWith rise curtain entered s) := by
  have hrecomputed : AlarmStands z (recomputeStage rise (s.withEffects { s.effects with set := currentSet s })) :=
    recomputeStage_alarmStands hr h
  have hdeliver {t : State} (old : EffectSet) (ht : AlarmStands z t) : AlarmStands z (deliver curtain old t) := by
    have hcurtain : AlarmStands z (if t.effects.set.curtain then curtain t else t) := ite_keeps (hc ht) ht
    exact askEvacuation_keeps (callsClosed_alarmStands z) (ite_keeps hcurtain hcurtain)
  exact followInvestigation_of_callsClosed (callsClosed_alarmStands z) _
    (ite_keeps hrecomputed (hdeliver _ hrecomputed))

theorem handOverInDelivery_alarmStands (entered : Bool) (h : AlarmStands z s) :
    AlarmStands z (handOverInDelivery entered s) :=
  handOverWith_alarmStands (fun h => h) (fun h => h) entered h.1

theorem deliverCurtain_alarmStands (h : AlarmStands z s) : AlarmStands z (deliverCurtain s) :=
  (noticeClosed_alarmStands z).addAlarm
    (fun r _ h => report64_alarmStands (fun b _ h => handOverInDelivery_alarmStands b h) r h) h

theorem handOverInRise_alarmStands (entered : Bool) (h : AlarmStands z s) : AlarmStands z (handOverInRise entered s) :=
  handOverWith_alarmStands (fun h => h) deliverCurtain_alarmStands entered h.1

theorem riseToEvacuate_alarmStands (h : AlarmStands z s) : AlarmStands z (riseToEvacuate s) :=
  foldl_keeps (fun _ y hs => closeWindow_alarmStands (fun b _ h => handOverInRise_alarmStands b h) .evacuate y hs) _ _
    (suppressOrdinary_keeps (callsClosed_alarmStands z) (endCall_keeps (callsClosed_alarmStands z) _ _ h))

/-- A hand-over with a zone in ALARM ends with that zone in ALARM and the stage EVACUATE, whatever the stage was. -/
theorem handOver_alarmStands (entered : Bool) (h : Alarmed (zoneAt s z)) : AlarmStands z (handOver entered s) :=
  handOverWith_alarmStands riseToEvacuate_alarmStands deliverCurtain_alarmStands entered h

/-- R103, R113: an investigating zone goes to ALARM. -/
theorem alarm_from_investigating (h : (zoneAt s z).state = .investigating) :
    AlarmStands z (enterState handOver z .alarm s) := by
  rw [enterState_of_investigating handOver h (by decide)]
  refine handOver_alarmStands false ?_
  rw [zoneAt_congr (writeRecord_monitor _ _ _ _ _), zoneAt_updZone_same]
  exact ⟨rfl, investigationLeft_leaveInvestigation _ _⟩

end

end Sys2Proof.Machine
end

section
/-! The fire zones: an investigation acknowledged, confirmed or cancelled by request (R114, R115). -/

namespace Sys2Proof.Machine

/-! ### The zone of a request -/

theorem investigatingZone_noZone (s : State) {b : Byte} (h : 65 < b.toNat) :
    investigatingZone s b = .error .badArgument := by
  simp [investigatingZone, zoneIdOf_of_gt h]

theorem investigatingZone_other {s : State} {z : ZoneId} (h : (zoneAt s z).state ≠ .investigating) :
    investigatingZone s (zoneByte z) = .error .notInvestigating := by
  simp [investigatingZone, zoneIdOf_zoneByte, h]

theorem investigatingZone_ok {s : State} {z : ZoneId} (h : (zoneAt s z).state = .investigating) :
    investigatingZone s (zoneByte z) = .ok z := by
  simp [investigatingZone, zoneIdOf_zoneByte, h]

/-! ### A cancelled investigation -/

/-- R115: the map without its PRE and FIRE entries. -/
def withoutPreAndFire (ds : List Device) : List Device := ds.filter fun d => !(d.condition = .pre || d.condition.isFire)

/-- R113, R115: the record of a zone whose investigation is cancelled, the zone QUIET. -/
def cancelledZone (r : Zone) : Zone :=
  { leaveInvestigation r with devices := withoutPreAndFire r.devices, knock := none, state := .quiet }

/-- No zone joins ALARM or leaves it, so the hand-over moves no zone. -/
theorem zoneAt_cancelInvestigation {s : State} {z : ZoneId} (hlaw : AlarmLaw s)
    (h : (zoneAt s z).state = .investigating) : zoneAt (cancelInvestigation z s) z = cancelledZone (zoneAt s z) := by
  rw [cancelInvestigation, enterState_of_investigating handOver (by simpa using h) (by decide)]
  rw [zoneAt_congr (handOver_monitor_of_sameAlarms false hlaw ?tables ?effects ?alarms),
    zoneAt_congr (writeRecord_monitor _ _ _ _ _), zoneAt_updZone_same, zoneAt_updZone_same]
  · rfl
  case tables => exact writeRecord_tables _ _ _ _ _
  case effects => exact writeRecord_effects _ _ _ _ _
  case alarms =>
    intro y
    rw [zoneAt_congr (writeRecord_monitor _ _ _ _ _)]
    by_cases hy : y = z
    · subst hy
      simp [h]
    · rw [zoneAt_updZone_other _ _ hy, zoneAt_updZone_other _ _ hy]

/-! ### The owners' answers -/

theorem alarmAckOwner_error {s : State} {b : Byte} {why : Reason} (h : investigatingZone s b = .error why) :
    alarmAckOwner [b] s = (s, refuse why) := by
  simp [alarmAckOwner, byteAt, h]

theorem alarmAckOwner_ok {s : State} {b : Byte} {z : ZoneId} (h : investigatingZone s b = .ok z) :
    alarmAckOwner [b] s = (updZone z (fun r => { r with acked := true, ackTimer := none }) s, done) := by
  simp [alarmAckOwner, byteAt, h]

theorem alarmConfirmOwner_error {s : State} {b : Byte} {why : Reason} (h : investigatingZone s b = .error why) :
    alarmConfirmOwner [b] s = (s, refuse why) := by
  simp [alarmConfirmOwner, byteAt, h]

theorem alarmConfirmOwner_ok {s : State} {b : Byte} {z : ZoneId} (h : investigatingZone s b = .ok z) :
    alarmConfirmOwner [b] s = (enterState handOver z .alarm s, done) := by
  simp [alarmConfirmOwner, byteAt, h]

theorem alarmCancelOwner_error {s : State} {b : Byte} {why : Reason} (h : investigatingZone s b = .error why) :
    alarmCancelOwner [b] s = (s, refuse why) := by
  simp [alarmCancelOwner, byteAt, h]

theorem alarmCancelOwner_ok {s : State} {b : Byte} {z : ZoneId} (h : investigatingZone s b = .ok z) :
    alarmCancelOwner [b] s
      = if (zoneAt s z).acked then (cancelInvestigation z s, done) else (s, refuse .notAcknowledged) := by
  simp [alarmCancelOwner, byteAt, h]

/-! ### The commands -/

theorem exec_alarmAck_of_requested {s : State} {tag : Byte} {args : List Byte} (h : Requested s 9 tag args) :
    exec .alarmAck s = .next (replied tag 9 (alarmAckOwner args (dropHead .consoleRx s)).2
      (alarmAckOwner args (dropHead .consoleRx s)).1) :=
  congrArg _ (handle_of_requested h _)

theorem exec_alarmConfirm_of_requested {s : State} {tag : Byte} {args : List Byte} (h : Requested s 10 tag args) :
    exec .alarmConfirm s = .next (replied tag 10 (alarmConfirmOwner args (dropHead .consoleRx s)).2
      (alarmConfirmOwner args (dropHead .consoleRx s)).1) :=
  congrArg _ (handle_of_requested h _)

theorem exec_alarmCancel_of_requested {s : State} {tag : Byte} {args : List Byte} (h : Requested s 11 tag args) :
    exec .alarmCancel s = .next (replied tag 11 (alarmCancelOwner args (dropHead .consoleRx s)).2
      (alarmCancelOwner args (dropHead .consoleRx s)).1) :=
  congrArg _ (handle_of_requested h _)

theorem alarmAcknowledged : Parts.AlarmAcknowledged := by
  intro s tag b hreq
  have hexec := exec_alarmAck_of_requested hreq
  refine ⟨fun hb => ?noZone, ?zone⟩
  case noZone => rwa [alarmAckOwner_error (investigatingZone_noZone _ hb)] at hexec
  case zone =>
    rintro z rfl
    refine ⟨fun hz => ?other, fun hz => ?acked⟩
    case other =>
      rwa [alarmAckOwner_error (investigatingZone_other (by simpa using hz))] at hexec
    case acked =>
      rw [alarmAckOwner_ok (investigatingZone_ok (by simpa using hz))] at hexec
      refine ⟨_, hexec, ?frame, by simp, fun y hy => ?others, ?link, ?heartbeat⟩
      case frame => intro blk hblk; cases blk <;> simp_all [sameBlock, updZone]
      case others => rw [zoneAt_updZone_other _ _ hy, zoneAt_dropHead]
      case link => simp [updZone]
      case heartbeat => simp [updZone]

/-- R115: the tests and the effect of ALARM-CONFIRM. -/
theorem alarmConfirm_tested {s : State} {tag b : Byte} (hreq : Requested s 10 tag [b]) :
    (65 < b.toNat → RefusedWith .alarmConfirm s 10 tag .badArgument)
      ∧ ∀ z : ZoneId, b = zoneByte z →
        ((zoneAt s z).state ≠ .investigating → RefusedWith .alarmConfirm s 10 tag .notInvestigating)
          ∧ ((zoneAt s z).state = .investigating → ∃ u, DoneWith .alarmConfirm s 10 tag [] u ∧ AlarmStands z u) := by
  have hexec := exec_alarmConfirm_of_requested hreq
  refine ⟨fun hb => ?noZone, ?zone⟩
  case noZone => rwa [alarmConfirmOwner_error (investigatingZone_noZone _ hb)] at hexec
  case zone =>
    rintro z rfl
    refine ⟨fun hz => ?other, fun hz => ?confirmed⟩
    case other => rwa [alarmConfirmOwner_error (investigatingZone_other (by simpa using hz))] at hexec
    case confirmed =>
      have hdropped : (zoneAt (dropHead .consoleRx s) z).state = .investigating := by simpa using hz
      rw [alarmConfirmOwner_ok (investigatingZone_ok hdropped)] at hexec
      exact ⟨_, hexec, alarm_from_investigating hdropped⟩

/-- R115: the tests of ALARM-CANCEL in order, and its effect. -/
theorem alarmCancel_tested {s : State} {tag b : Byte} (hlaw : AlarmLaw s) (hreq : Requested s 11 tag [b]) :
    (65 < b.toNat → RefusedWith .alarmCancel s 11 tag .badArgument)
      ∧ ∀ z : ZoneId, b = zoneByte z →
        ((zoneAt s z).state ≠ .investigating → RefusedWith .alarmCancel s 11 tag .notInvestigating)
          ∧ ((zoneAt s z).state = .investigating → (zoneAt s z).acked = false →
              RefusedWith .alarmCancel s 11 tag .notAcknowledged)
          ∧ ((zoneAt s z).state = .investigating → (zoneAt s z).acked = true →
              ∃ u, DoneWith .alarmCancel s 11 tag [] u ∧ zoneAt u z = cancelledZone (zoneAt s z)) := by
  have hexec := exec_alarmCancel_of_requested hreq
  refine ⟨fun hb => ?noZone, ?zone⟩
  case noZone => rwa [alarmCancelOwner_error (investigatingZone_noZone _ hb)] at hexec
  case zone =>
    rintro z rfl
    have hok (hz : (zoneAt s z).state = .investigating) :=
      alarmCancelOwner_ok (investigatingZone_ok (s := dropHead .consoleRx s) (z := z) (by simpa using hz))
    refine ⟨fun hz => ?other, fun hz hacked => ?notAcked, fun hz hacked => ?cancelled⟩
    case other => rwa [alarmCancelOwner_error (investigatingZone_other (by simpa using hz))] at hexec
    case notAcked => rwa [hok hz, if_neg (by simp [hacked])] at hexec
    case cancelled =>
      rw [hok hz, if_pos (by simpa using hacked)] at hexec
      have hrecord := zoneAt_cancelInvestigation (s := dropHead .consoleRx s) (z := z) hlaw (by simpa using hz)
      exact ⟨_, hexec, by rw [hrecord, zoneAt_dropHead]⟩

theorem investigationSettled : Parts.InvestigationSettled := by
  intro s tag b hlaw
  refine ⟨fun hreq => ?confirm, fun hreq => ?cancel⟩
  case confirm =>
    obtain ⟨hbad, hzone⟩ := alarmConfirm_tested hreq
    refine ⟨hbad, fun z hb => ⟨(hzone z hb).1, fun hz => ?_⟩⟩
    obtain ⟨u, hdone, ⟨halarm, hleft⟩, hstage⟩ := (hzone z hb).2 hz
    exact ⟨u, hdone, halarm, hleft, hstage⟩
  case cancel =>
    obtain ⟨hbad, hzone⟩ := alarmCancel_tested hlaw hreq
    refine ⟨hbad, fun z hb => ?_⟩
    obtain ⟨hother, hnotAcked, hcancelled⟩ := hzone z hb
    refine ⟨hother, hnotAcked, fun hz hacked => ?_⟩
    obtain ⟨u, hdone, hrecord⟩ := hcancelled hz hacked
    exact ⟨u, hdone, hrecord ▸ ⟨⟨rfl, rfl, rfl, rfl⟩, rfl, rfl, rfl⟩⟩

/-- Settles O36, by the owners' answers: a zone confirmed stays in ALARM through all its hand-over brings about, and a
zone cancelled neither changes the effect set nor raises the stage, so that its hand-over moves no zone. -/
theorem investigations : Obligations.Investigations := ⟨alarmAcknowledged, investigationSettled⟩

end Sys2Proof.Machine
end

section
/-! A frame read part by part: what is not among the parts touched is as it was. -/

namespace Sys2Proof.Machine.OnlyTouches

variable {bs : List Block} {s t : State} (h : OnlyTouches bs s t)
include h

theorem tables (hb : .tables ∉ bs := by decide) : t.tables = s.tables := h .tables hb
theorem phase (hb : .phase ∉ bs := by decide) : t.phase = s.phase := h .phase hb
theorem stream (hb : .stream ∉ bs := by decide) : t.stream = s.stream := h .stream hb
theorem curtain (hb : .curtain ∉ bs := by decide) : t.curtain = s.curtain := h .curtain hb
theorem monitor (hb : .monitor ∉ bs := by decide) : t.monitor = s.monitor := h .monitor hb
theorem effects (hb : .effects ∉ bs := by decide) : t.effects = s.effects := h .effects hb
theorem calls (hb : .calls ∉ bs := by decide) : t.calls = s.calls := h .calls hb

end Sys2Proof.Machine.OnlyTouches
end

section
/-! A record stays in the ring while fewer than 256 others are written after it (R186): what a record, an offer and a
call's end do to its place. -/

namespace Sys2Proof.Machine

/-- A record stands in the ring with at most so many records after it. -/
def RecordWithin (k : Nat) (r : EventRecord) (s : State) : Prop :=
  ∃ before after, s.log.ring = before ++ r :: after ∧ after.length ≤ k

section
variable {r : EventRecord} {s t : State} {k m : Nat}

theorem RecordWithin.mem (h : RecordWithin k r s) : r ∈ s.log.ring := by
  obtain ⟨before, after, hring, -⟩ := h
  simp [hring]

theorem RecordWithin.mono (hkm : k ≤ m) (h : RecordWithin k r s) : RecordWithin m r s := by
  obtain ⟨before, after, hring, hk⟩ := h
  exact ⟨before, after, hring, hk.trans hkm⟩

theorem recordWithin_congr (hlog : t.log = s.log) (h : RecordWithin k r s) : RecordWithin k r t := by
  rwa [RecordWithin, hlog]

theorem writeRecord_newest (e : EventKind) (a b c : Byte) (s : State) :
    RecordWithin 0 (recordNow s e a b c) (writeRecord e a b c s) := by
  refine ⟨s.log.ring.drop (s.log.ring.length + 1 - 256), [], ?_, Nat.le_refl 0⟩
  rw [writeRecord_log, loggedIn_ring, List.drop_append_of_le_length (by omega)]

theorem writeRecord_within (e : EventKind) (a b c : Byte) (hk : k + 1 < 256) (h : RecordWithin k r s) :
    RecordWithin (k + 1) r (writeRecord e a b c s) := by
  obtain ⟨before, after, hring, hafter⟩ := h
  refine ⟨before.drop (s.log.ring.length + 1 - 256), after ++ [recordNow s e a b c], ?ring, by simpa using hafter⟩
  have hbefore : s.log.ring.length + 1 - 256 ≤ before.length := by
    have hlength : s.log.ring.length = before.length + (after.length + 1) := by simp [hring]
    omega
  rw [writeRecord_log, loggedIn_ring, ← List.cons_append, ← List.drop_append_of_le_length hbefore, hring,
    List.append_assoc]

/-- A frame refused by its queue has at most one record (R170). -/
theorem offer_within (q : QueueId) (f : Frame) (hk : k + 1 < 256) (h : RecordWithin k r s) :
    RecordWithin (k + 1) r (offer q f s) := by
  have hsame : RecordWithin (k + 1) r s := h.mono (Nat.le_succ k)
  unfold offer overflowed
  split
  · exact recordWithin_congr (withLinks_log _ _) hsame
  · exact ite_keeps hsame (recordWithin_congr (withLinks_log _ _) (writeRecord_within _ _ _ _ hk h))

theorem sendToArea_within (cmd x y : Byte) (a : AreaId) (hk : k + 1 < 256) (h : RecordWithin k r s) :
    RecordWithin (k + 1) r (sendToArea cmd x y s a) := by
  unfold sendToArea
  split
  · exact offer_within _ _ hk h
  · exact h.mono (Nat.le_succ k)

theorem foldl_sendToArea_within (cmd x y : Byte) (l : List AreaId) {k : Nat} {s : State} (hk : k + l.length < 256)
    (h : RecordWithin k r s) : RecordWithin (k + l.length) r (l.foldl (sendToArea cmd x y) s) := by
  induction l generalizing k s with
  | nil => exact h
  | cons a l ih =>
    simp only [List.length_cons, List.foldl_cons] at hk ⊢
    rw [Nat.add_comm l.length, ← Nat.add_assoc] at hk ⊢
    exact ih hk (sendToArea_within cmd x y a (by omega) h)

theorem length_areasOf_le (areas : AreaSet) : (areasOf areas).length ≤ 24 := by
  simpa [areasOf] using List.length_filter_le (hasArea areas) (List.finRange 24)

theorem sendToAreas_within (areas : AreaSet) (cmd x y : Byte) (hk : k + 24 < 256) (h : RecordWithin k r s) :
    RecordWithin (k + 24) r (sendToAreas areas cmd x y s) := by
  have hlength := length_areasOf_le areas
  exact (foldl_sendToArea_within cmd x y (areasOf areas) (by omega) h).mono (by omega)

/-- A call's end writes one record, and no more than one for each STOP command (R144, R170). -/
theorem endCall_within (o : CallOutcome) (e : EntryId) (hk : k + 25 < 256) (h : RecordWithin k r s) :
    RecordWithin (k + 25) r (endCall o e s) := by
  unfold endCall
  split
  · exact h.mono (by omega)
  next c _ =>
    have hstops : RecordWithin (k + 24) r
        (if stopsUnits s.tables o c then sendToAreas c.held cmdStop 0 0 s else s) :=
      ite_keeps (sendToAreas_within _ _ _ _ (by omega) h) (h.mono (by omega))
    exact writeRecord_within _ _ _ _ hk (recordWithin_congr rfl hstops)

end

end Sys2Proof.Machine
end

section
/-! A call's end (R144): its entry is free, every other entry is as it was, and its record is the newest. -/

namespace Sys2Proof.Machine

theorem sendToAreas_calls (areas : AreaSet) (cmd x y : Byte) (s : State) :
    (sendToAreas areas cmd x y s).calls = s.calls := by
  refine foldl_keeps (P := fun t => t.calls = s.calls) (fun t a ht => ?_) _ _ rfl
  unfold sendToArea
  split
  · exact (offer_calls _ _ _).trans ht
  · exact ht

theorem endCall_of_none (o : CallOutcome) {e : EntryId} {s : State} (h : callAt s e = none) : endCall o e s = s := by
  simp [endCall, h]

theorem endCall_of_some (o : CallOutcome) {e : EntryId} {s : State} {c : Call} (h : callAt s e = some c) :
    ∃ t, endCall o e s = writeRecord .callEnded (byteOf c.number) o.code (byteOf c.program.val) t
      ∧ t.calls.table = putAt s.calls.table e none := by
  have hstops : (if stopsUnits s.tables o c then sendToAreas c.held cmdStop 0 0 s else s).calls = s.calls :=
    ite_keeps (P := fun t => t.calls = s.calls) (sendToAreas_calls _ _ _ _ _) rfl
  simp only [endCall, h]
  exact ⟨_, rfl, congrArg (fun cs : CallState => putAt cs.table e none) hstops⟩

theorem callAt_congr {s t : State} (h : t.calls = s.calls) (e : EntryId) : callAt t e = callAt s e := by
  rw [callAt, h, callAt]

theorem callAt_endCall_same (o : CallOutcome) (e : EntryId) (s : State) : callAt (endCall o e s) e = none := by
  cases h : callAt s e with
  | none => rwa [endCall_of_none o h]
  | some c =>
    obtain ⟨t, hend, htable⟩ := endCall_of_some o h
    rw [hend, callAt, writeRecord_calls, htable, putAt_same]

theorem callAt_endCall_other (o : CallOutcome) {d e : EntryId} (s : State) (hd : d ≠ e) :
    callAt (endCall o e s) d = callAt s d := by
  cases h : callAt s e with
  | none => rw [endCall_of_none o h]
  | some c =>
    obtain ⟨t, hend, htable⟩ := endCall_of_some o h
    rw [hend, callAt, writeRecord_calls, htable, putAt_other _ _ hd, callAt]

theorem endCall_onlyTouches (o : CallOutcome) (e : EntryId) (s : State) :
    OnlyTouches [.calls, .links, .log] s (endCall o e s) :=
  endCall_keeps (callsClosed_onlyTouches s) o e (onlyTouches_refl _ s)

/-- The record of a call's end, as R144 and note 2 of 11.2 lay it out. -/
def IsCallEnd (o : CallOutcome) (c : Call) (r : EventRecord) : Prop :=
  r.kind = .callEnded ∧ r.subject = byteOf c.number ∧ r.detail0 = o.code ∧ r.detail1 = byteOf c.program.val

theorem endCall_recorded (o : CallOutcome) {e : EntryId} {s : State} {c : Call} (h : callAt s e = some c) :
    ∃ r, IsCallEnd o c r ∧ RecordWithin 0 r (endCall o e s) := by
  obtain ⟨t, hend, -⟩ := endCall_of_some o h
  exact ⟨_, ⟨rfl, rfl, rfl, rfl⟩, hend ▸ writeRecord_newest _ _ _ _ t⟩

end Sys2Proof.Machine
end

section
/-! The guards marked as the stage-safe flag changes (R46). -/

namespace Sys2Proof.Machine

theorem markDirty_getElem (v : Vector Slot 1024) (j : Nat) (i : Fin 1024) :
    (markDirty v j)[i] = if j = i.val then { v[i] with dirty := true } else v[i] := by
  unfold markDirty
  split
  next hj => by_cases hji : j = i.val <;> simp [hji]
  next hj => exact (if_neg fun hji : j = i.val => hj (hji ▸ i.isLt)).symm

/-- One guard's part in the marking of R46. -/
def markGuard (t : Tables) (v : Vector Slot 1024) (g : Fin 32) : Vector Slot 1024 :=
  if guardInUse t.guards[g] && t.guards[g].safe != (slotAt v (guardSlot t g)).shadow
  then markDirty v (guardSlot t g) else v

theorem markGuards_eq (s : State) :
    markGuards s = withSlots s ((List.finRange 32).foldl (markGuard s.tables) s.stream.slots) := rfl

/-- A guard in use stands at a slot, with a safe level that differs from a shadow. -/
def GuardDiffers (t : Tables) (i : Fin 1024) (shadow : Byte) (g : Fin 32) : Prop :=
  t.guards[g].inUse = 1 ∧ guardSlot t g = i.val ∧ t.guards[g].safe ≠ shadow

/-- A slot has become another by its dirty mark alone, set where a condition holds. -/
def MarkedIf (p : Prop) (x y : Slot) : Prop := y = { x with dirty := y.dirty } ∧ (y.dirty = true ↔ x.dirty = true ∨ p)

theorem markedIf_of_not {p : Prop} (hp : ¬p) (x : Slot) : MarkedIf p x x := ⟨rfl, by simp [hp]⟩

theorem markedIf_of_mark {p : Prop} (hp : p) (x : Slot) : MarkedIf p x { x with dirty := true } := ⟨rfl, by simp [hp]⟩

theorem MarkedIf.trans {p q : Prop} {x y z : Slot} (hxy : MarkedIf p x y) (hyz : MarkedIf q y z) :
    MarkedIf (p ∨ q) x z := by
  obtain ⟨hy, hp⟩ := hxy
  obtain ⟨hz, hq⟩ := hyz
  exact ⟨by rw [hz, hy], by rw [hq, hp, or_assoc]⟩

theorem markGuard_marks (t : Tables) (v : Vector Slot 1024) (g : Fin 32) (i : Fin 1024) :
    MarkedIf (GuardDiffers t i v[i].shadow g) v[i] (markGuard t v g)[i] := by
  by_cases hslot : guardSlot t g = i.val
  · have hat : slotAt v (guardSlot t g) = v[i] := by simp [slotAt, hslot, Vector.getD]
    have hcond : (guardInUse t.guards[g] && t.guards[g].safe != (slotAt v (guardSlot t g)).shadow) = true
        ↔ GuardDiffers t i v[i].shadow g := by
      rw [hat]
      simp [guardInUse, GuardDiffers, hslot]
    unfold markGuard
    split
    next hmarks =>
      rw [markDirty_getElem, if_pos hslot]
      exact markedIf_of_mark (hcond.mp hmarks) _
    next hstays => exact markedIf_of_not (fun hdiffers => hstays (hcond.mpr hdiffers)) _
  · have hkept : (markGuard t v g)[i] = v[i] := by
      unfold markGuard
      split
      · rw [markDirty_getElem, if_neg hslot]
      · rfl
    rw [hkept]
    exact markedIf_of_not (fun ⟨_, hat, _⟩ => hslot hat) _

theorem foldl_markGuard_marks (t : Tables) (i : Fin 1024) (l : List (Fin 32)) (v : Vector Slot 1024) :
    MarkedIf (∃ g ∈ l, GuardDiffers t i v[i].shadow g) v[i] (l.foldl (markGuard t) v)[i] := by
  induction l generalizing v with
  | nil => exact ⟨rfl, by simp⟩
  | cons g l ih =>
    have hhead := markGuard_marks t v g i
    have hshadow : (markGuard t v g)[i].shadow = v[i].shadow := by rw [hhead.1]
    have htail := ih (markGuard t v g)
    rw [hshadow] at htail
    simpa using hhead.trans htail

theorem markGuards_marked (s : State) : GuardsMarked s (markGuards s) := by
  rw [markGuards_eq]
  refine ⟨rfl, fun i => ?_⟩
  obtain ⟨hslot, hdirty⟩ := foldl_markGuard_marks s.tables i (List.finRange 32) s.stream.slots
  exact ⟨hslot, by simpa [GuardDiffers, guardSlot, slotIndex, withSlots] using hdirty⟩

theorem markGuards_stream_congr {s t : State} (hstream : t.stream = s.stream) (htables : t.tables = s.tables) :
    (markGuards t).stream = (markGuards s).stream := by
  simp only [markGuards_eq, withSlots, withStream_stream, hstream, htables]

theorem markGuards_onlyTouches (s : State) : OnlyTouches [.stream] s (markGuards s) := by
  intro b hb
  cases b <;> simp_all [sameBlock, markGuards, withSlots]

end Sys2Proof.Machine
end

section
/-! ALARM-RESET (R135, R136): its tests, its act step by step, and what each step leaves as it was. -/

namespace Sys2Proof.Machine

/-! ### The tests -/

theorem holdsFire_iff (r : Zone) :
    holdsFire r = true ↔ ∃ d ∈ r.devices, d.condition.isFire = true ∨ d.condition = .manual := by
  simp [holdsFire]

/-- A panel zone's map holds a FIRE or a MANUAL entry (R135 test 2). -/
def Burning (s : State) : Prop :=
  ∃ z : ZoneId, z.val < 64 ∧ ∃ d ∈ (zoneAt s z).devices, d.condition.isFire = true ∨ d.condition = .manual

theorem anyPanelZoneHoldsFire_iff (s : State) :
    ((List.finRange 66).any fun z => decide (z.val < 64) && holdsFire (zoneAt s z)) = true ↔ Burning s := by
  simp [Burning, holdsFire_iff]

section
variable {s : State}

theorem alarmResetTests_linkNotUp (h : s.monitor.link ≠ .up) : alarmResetTests s = some .panelLink := by
  simp [alarmResetTests, h]

theorem alarmResetTests_active (hlink : s.monitor.link = .up) (h : Burning s ∨ s.lines.panelFire = true) :
    alarmResetTests s = some .alarmActive := by
  rw [← anyPanelZoneHoldsFire_iff] at h
  rw [alarmResetTests, if_neg (by simp [hlink])]
  split_ifs with hburning hline
  · rfl
  · rfl
  all_goals exact absurd h (not_or.mpr ⟨hburning, hline⟩)

theorem alarmResetTests_calm (hlink : s.monitor.link = .up) (hcalm : ¬Burning s) (hline : s.lines.panelFire = false) :
    alarmResetTests s = if fallingState s.curtain.state then some .curtainState else none := by
  rw [← anyPanelZoneHoldsFire_iff] at hcalm
  rw [alarmResetTests, if_neg (by simp [hlink]), if_neg hcalm, if_neg (by simp [hline])]

theorem alarmResetOwner_refused (args : List Byte) {why : Reason} (h : alarmResetTests s = some why) :
    alarmResetOwner args s = (s, refuse why) := by
  simp [alarmResetOwner, h]

theorem alarmResetOwner_accepted (args : List Byte) (h : alarmResetTests s = none) :
    alarmResetOwner args s = (alarmReset s, done) := by
  simp [alarmResetOwner, h]

end

/-! ### Step 1: every zone QUIET -/

/-- R136 step 1: the record of a zone as ALARM-RESET leaves it. -/
def quietedZone (r : Zone) : Zone :=
  if r.state = .quiet then r
  else { leaveInvestigation r with
    devices := r.devices.filter fun d => d.condition != .pre
    knock := none
    state := .quiet }

theorem quietedZone_of_quiet {r : Zone} (h : r.state = .quiet) : quietedZone r = r := if_pos h

theorem quietedZone_state (r : Zone) : (quietedZone r).state = .quiet := by
  unfold quietedZone
  split
  next h => exact h
  next => rfl

theorem quietedZone_of_notQuiet {r : Zone} (h : r.state ≠ .quiet) :
    (quietedZone r).knock = none ∧ (quietedZone r).devices = r.devices.filter fun d => decide (d.condition ≠ .pre) := by
  rw [quietedZone, if_neg h]
  exact ⟨rfl, List.filter_congr fun d _ => by by_cases hd : d.condition = .pre <;> simp [hd]⟩

/-- The reset removes PRE entries alone, so a zone's FAULT entries stand. -/
theorem quietedZone_faulty (r : Zone) : (quietedZone r).faulty = r.faulty := by
  by_cases h : r.state = .quiet
  · rw [quietedZone_of_quiet h]
  · rw [Zone.faulty, (quietedZone_of_notQuiet h).2, List.any_filter, Zone.faulty]
    congr 1
    funext d
    cases d.condition <;> rfl

theorem quietZone_onlyTouches (s : State) (z : ZoneId) : OnlyTouches [.monitor, .links, .log] s (quietZone s z) := by
  refine ite_keeps (onlyTouches_refl _ s) fun b hb => ?_
  cases b <;> simp_all [sameBlock, updZone]

theorem quietZone_link (s : State) (z : ZoneId) : (quietZone s z).monitor.link = s.monitor.link := by
  refine ite_keeps (P := fun t => t.monitor.link = s.monitor.link) rfl ?_
  rw [writeRecord_monitor]
  rfl

theorem zoneAt_quietZone (s : State) (y z : ZoneId) :
    zoneAt (quietZone s z) y = if y = z then quietedZone (zoneAt s y) else zoneAt s y := by
  by_cases hquiet : (zoneAt s z).state = .quiet
  · rw [quietZone, if_pos hquiet]
    split_ifs with hy
    · rw [quietedZone_of_quiet (hy ▸ hquiet)]
    · rfl
  · rw [quietZone, if_neg hquiet, zoneAt_congr (writeRecord_monitor _ _ _ _ _)]
    split_ifs with hy
    · rw [hy, zoneAt_updZone_same, quietedZone, if_neg hquiet]
    · exact zoneAt_updZone_other _ _ hy

/-- The state after step 1 of R136. -/
def zonesQuieted (s : State) : State := (List.finRange 66).foldl quietZone s

theorem zonesQuieted_onlyTouches (s : State) : OnlyTouches [.monitor, .links, .log] s (zonesQuieted s) := by
  unfold zonesQuieted
  exact foldl_keeps (fun t z ht => onlyTouches_trans ht (quietZone_onlyTouches t z)) _ _ (onlyTouches_refl _ s)

theorem zonesQuieted_link (s : State) : (zonesQuieted s).monitor.link = s.monitor.link := by
  unfold zonesQuieted
  exact foldl_keeps (P := fun t => t.monitor.link = s.monitor.link)
    (fun t z ht => (quietZone_link t z).trans ht) _ _ rfl

theorem zoneAt_foldl_quietZone (l : List ZoneId) (s : State) (y : ZoneId) :
    zoneAt (l.foldl quietZone s) y = if y ∈ l then quietedZone (zoneAt s y) else zoneAt s y := by
  induction l generalizing s with
  | nil => rfl
  | cons z l ih =>
    rw [List.foldl_cons, ih, zoneAt_quietZone]
    by_cases hy : y = z
    · simp [hy, quietedZone_of_quiet (quietedZone_state _)]
    · simp [hy]

theorem zoneAt_zonesQuieted (s : State) (y : ZoneId) : zoneAt (zonesQuieted s) y = quietedZone (zoneAt s y) := by
  rw [zonesQuieted, zoneAt_foldl_quietZone, if_pos (List.mem_finRange y)]

/-! ### The stage of quiet zones -/

/-- With every zone QUIET and the link UP, a FAULT entry alone keeps the stage from NORMAL (R129). -/
theorem stageOf_of_quiet {s : State} (hlink : s.monitor.link = .up)
    (hquiet : ∀ z : ZoneId, (zoneAt s z).state = .quiet) :
    stageOf s.monitor.zones s.monitor.link
      = if ∃ z : ZoneId, (zoneAt s z).faulty = true then .attention else .normal := by
  have hany (p : Zone → Bool) : anyZone s.monitor.zones p = true ↔ ∃ z : ZoneId, p (zoneAt s z) = true := by
    simp [anyZone, zoneAt, Vector.any_toList, Vector.any_eq_true, Fin.exists_iff]
  simp only [stageOf, hlink, Bool.or_eq_true, hany, hquiet]
  simp

theorem faulty_iff (r : Zone) : r.faulty = true ↔ ∃ d ∈ r.devices, d.condition = .fault := by simp [Zone.faulty]

/-! ### Steps 2 and 3: the set emptied and delivered -/

/-- R136 step 3: ALARM leaves the drop-demand set, and the curtain stays where it is. -/
def withoutAlarm (c : Curtain) : Curtain := { c with demands := { c.demands with alarm := false } }

theorem deliverEmpty_onlyTouches (old : EffectSet) (s : State) :
    OnlyTouches [.curtain, .stream, .calls, .links, .log] s (deliverEmpty old s) := by
  have hcurtain : OnlyTouches [.curtain, .stream, .calls, .links, .log] s
      (updCurtain withoutAlarm s) := by
    intro b hb
    cases b <;> simp_all [sameBlock, updCurtain]
  have hguards := onlyTouches_trans hcurtain (onlyTouches_mono (by simp) (markGuards_onlyTouches _))
  exact onlyTouches_trans (ite_keeps hguards hcurtain) (onlyTouches_mono (by simp) (endCall_onlyTouches _ _ _))

theorem deliverEmpty_curtain (old : EffectSet) (s : State) :
    (deliverEmpty old s).curtain = withoutAlarm s.curtain :=
  (endCall_onlyTouches _ _ _).curtain.trans (ite_keeps (P := fun t => t.curtain = withoutAlarm s.curtain) rfl rfl)

theorem deliverEmpty_stream_of_safe {old : EffectSet} (h : old.stageSafe = true) (s : State) :
    (deliverEmpty old s).stream = (markGuards s).stream := by
  refine (endCall_onlyTouches _ _ _).stream.trans ?_
  rw [if_pos h]
  rfl

theorem deliverEmpty_stream_of_unsafe {old : EffectSet} (h : old.stageSafe = false) (s : State) :
    (deliverEmpty old s).stream = s.stream := by
  refine (endCall_onlyTouches _ _ _).stream.trans ?_
  rw [if_neg (by simp [h])]
  rfl

theorem callAt_deliverEmpty_evacuation (old : EffectSet) (s : State) : callAt (deliverEmpty old s) 0 = none :=
  callAt_endCall_same _ _ _

theorem deliverEmpty_recorded (old : EffectSet) {s : State} {c : Call} (h : callAt s 0 = some c) :
    ∃ r, IsCallEnd .resetByAlarm c r ∧ RecordWithin 0 r (deliverEmpty old s) :=
  endCall_recorded _ (ite_keeps (P := fun t => callAt t 0 = some c) h h)

/-- The state after steps 1 to 3 of R136. -/
def effectsEmptied (s : State) : State :=
  deliverEmpty s.effects.set ((zonesQuieted s).withEffects { (zonesQuieted s).effects with set := emptyEffects })

/-! ### Steps 4 to 6: the staff call ended, the stage recomputed, the record -/

theorem setStage_onlyTouches (st : Stage) (s : State) : OnlyTouches [.effects, .links, .log] s (setStage st s) := by
  intro b hb
  cases b <;> simp_all [sameBlock, setStage, noticeIsDue]

theorem recomputeStage_onlyTouches (s : State) : OnlyTouches [.effects, .links, .log] s (recomputeStage id s) :=
  ite_keeps (onlyTouches_refl _ s) (ite_keeps (setStage_onlyTouches _ s) (setStage_onlyTouches _ s))

theorem recomputeStage_stage (s : State) :
    (recomputeStage id s).effects.stage = stageOf s.monitor.zones s.monitor.link := by
  unfold recomputeStage
  dsimp only
  split_ifs with hsame hrise
  · exact hsame.symm
  · simp [setStage, noticeIsDue]
  · simp [setStage, noticeIsDue]

theorem recomputeStage_set (s : State) : (recomputeStage id s).effects.set = s.effects.set := by
  unfold recomputeStage
  dsimp only
  split_ifs
  · rfl
  · simp [setStage, noticeIsDue]
  · simp [setStage, noticeIsDue]

theorem recomputeStage_within {k : Nat} {r : EventRecord} {s : State} (hk : k + 1 < 256) (h : RecordWithin k r s) :
    RecordWithin (k + 1) r (recomputeStage id s) := by
  have hset : RecordWithin (k + 1) r (setStage (stageOf s.monitor.zones s.monitor.link) s) :=
    writeRecord_within _ _ _ _ hk (recordWithin_congr rfl h)
  exact ite_keeps (h.mono (Nat.le_succ k)) (ite_keeps hset hset)

/-- What R136 does after the delivery. -/
def resetClosed (s : State) : State := writeRecord .alarmReset 0 0 0 (recomputeStage id (endCall .alertOver 1 s))

theorem alarmReset_eq (s : State) : alarmReset s = resetClosed (effectsEmptied s) := by
  simp only [alarmReset, resetClosed, effectsEmptied, zonesQuieted]

theorem resetClosed_onlyTouches (s : State) : OnlyTouches [.effects, .calls, .links, .log] s (resetClosed s) :=
  onlyTouches_trans (onlyTouches_mono (by simp) (endCall_onlyTouches .alertOver 1 s))
    (onlyTouches_trans (onlyTouches_mono (by simp) (recomputeStage_onlyTouches _))
      (onlyTouches_mono (by simp) (writeRecord_onlyTouches _ _ _ _ _)))

theorem resetClosed_set (s : State) : (resetClosed s).effects.set = s.effects.set := by
  rw [resetClosed, writeRecord_effects, recomputeStage_set, (endCall_onlyTouches .alertOver 1 s).effects]

theorem resetClosed_stage (s : State) : (resetClosed s).effects.stage = stageOf s.monitor.zones s.monitor.link := by
  rw [resetClosed, writeRecord_effects, recomputeStage_stage, (endCall_onlyTouches .alertOver 1 s).monitor]

theorem callAt_resetClosed (e : EntryId) (s : State) : callAt (resetClosed s) e = callAt (endCall .alertOver 1 s) e :=
  callAt_congr ((writeRecord_calls _ _ _ _ _).trans (recomputeStage_onlyTouches _).calls) e

theorem resetClosed_within {r : EventRecord} {s : State} (h : RecordWithin 0 r s) : RecordWithin 27 r (resetClosed s) :=
  writeRecord_within _ _ _ _ (by decide) (recomputeStage_within (by decide) (endCall_within _ _ (by decide) h))

/-! ### The act as a whole -/

section
variable (s : State)

theorem effectsEmptied_monitor : (effectsEmptied s).monitor = (zonesQuieted s).monitor := by
  rw [effectsEmptied, (deliverEmpty_onlyTouches _ _).monitor, withEffects_monitor]

theorem alarmReset_monitor : (alarmReset s).monitor = (zonesQuieted s).monitor := by
  rw [alarmReset_eq, (resetClosed_onlyTouches _).monitor, effectsEmptied_monitor]

theorem alarmReset_link : (alarmReset s).monitor.link = s.monitor.link := by
  rw [alarmReset_monitor, zonesQuieted_link]

theorem zoneAt_alarmReset (z : ZoneId) : zoneAt (alarmReset s) z = quietedZone (zoneAt s z) := by
  rw [zoneAt_congr (alarmReset_monitor s), zoneAt_zonesQuieted]

theorem alarmReset_set : (alarmReset s).effects.set = emptyEffects := by
  rw [alarmReset_eq, resetClosed_set, effectsEmptied, (deliverEmpty_onlyTouches _ _).effects,
    withEffects_effects]

theorem alarmReset_stage (hlink : s.monitor.link = .up) :
    (alarmReset s).effects.stage
      = if ∃ z : ZoneId, ∃ d ∈ (zoneAt s z).devices, d.condition = .fault then .attention else .normal := by
  have hquieted (z : ZoneId) : zoneAt (zonesQuieted s) z = quietedZone (zoneAt s z) := zoneAt_zonesQuieted s z
  rw [alarmReset_eq, resetClosed_stage, effectsEmptied_monitor,
    stageOf_of_quiet ((zonesQuieted_link s).trans hlink) fun z => by rw [hquieted, quietedZone_state]]
  simp only [hquieted, quietedZone_faulty, faulty_iff]

theorem alarmReset_phase : (alarmReset s).phase = s.phase := by
  rw [alarmReset_eq, (resetClosed_onlyTouches _).phase, effectsEmptied, (deliverEmpty_onlyTouches _ _).phase,
    withEffects_phase, (zonesQuieted_onlyTouches s).phase]

theorem alarmReset_curtain : (alarmReset s).curtain = withoutAlarm s.curtain := by
  rw [alarmReset_eq, (resetClosed_onlyTouches _).curtain, effectsEmptied, deliverEmpty_curtain,
    withEffects_curtain, (zonesQuieted_onlyTouches s).curtain]

theorem callAt_alarmReset_evacuation : callAt (alarmReset s) 0 = none := by
  rw [alarmReset_eq, callAt_resetClosed, callAt_endCall_other _ _ (by decide)]
  exact callAt_deliverEmpty_evacuation _ _

theorem callAt_alarmReset_staff : callAt (alarmReset s) 1 = none := by
  rw [alarmReset_eq, callAt_resetClosed, callAt_endCall_same]

theorem effectsEmptied_recorded {c : Call} (h : callAt s 0 = some c) :
    ∃ r, IsCallEnd .resetByAlarm c r ∧ RecordWithin 0 r (effectsEmptied s) := by
  rw [← callAt_congr (zonesQuieted_onlyTouches s).calls, ← callAt_congr (withEffects_calls _ _)] at h
  exact deliverEmpty_recorded _ h

theorem alarmReset_recorded {c : Call} (h : callAt s 0 = some c) :
    ∃ r ∈ (alarmReset s).log.ring, IsCallEnd .resetByAlarm c r := by
  obtain ⟨r, hend, hnewest⟩ := effectsEmptied_recorded s h
  rw [alarmReset_eq]
  exact ⟨r, (resetClosed_within hnewest).mem, hend⟩

theorem alarmReset_guardsMarked (h : s.effects.set.stageSafe = true) : GuardsMarked s (alarmReset s) := by
  have hquieted := zonesQuieted_onlyTouches s
  have hstream : (alarmReset s).stream = (markGuards s).stream := by
    rw [alarmReset_eq, (resetClosed_onlyTouches _).stream, effectsEmptied, deliverEmpty_stream_of_safe h]
    exact markGuards_stream_congr ((withEffects_stream _ _).trans hquieted.stream)
      ((withEffects_tables _ _).trans hquieted.tables)
  rw [GuardsMarked, hstream]
  exact markGuards_marked s

theorem alarmReset_stream_of_unsafe (h : s.effects.set.stageSafe = false) : (alarmReset s).stream = s.stream := by
  rw [alarmReset_eq, (resetClosed_onlyTouches _).stream, effectsEmptied, deliverEmpty_stream_of_unsafe h,
    withEffects_stream, (zonesQuieted_onlyTouches s).stream]

end

/-! ### The command -/

theorem exec_alarmReset_of_requested {s : State} {tag : Byte} {args : List Byte} (h : Requested s 12 tag args) :
    exec .alarmReset s = .next (replied tag 12 (alarmResetOwner args (dropHead .consoleRx s)).2
      (alarmResetOwner args (dropHead .consoleRx s)).1) :=
  congrArg _ (handle_of_requested h _)

theorem falling_iff_mem (st : CurtainState) : fallingState st = true ↔ st ∈ [.descending, .slowing, .stalled] := by
  simp [fallingState_iff]

/-- Settles O42, by the owner's tests in order and by the act of R136 step by step: the zones, the set and its delivery,
the staff call, the stage and the record. -/
theorem alarmResetTested : Obligations.AlarmResetTested := by
  intro s tag hreq
  have hexec := exec_alarmReset_of_requested hreq
  set s' := dropHead .consoleRx s
  have refused {why : Reason} (h : alarmResetTests s' = some why) : RefusedWith .alarmReset s 12 tag why := by
    rwa [alarmResetOwner_refused _ h] at hexec
  refine ⟨fun hlink => ?link, fun hlink hactive => ?active, fun hlink hcalm hline hfalling => ?falling,
    fun hlink hcalm hline hstill => ?accepted⟩
  case link => exact refused (alarmResetTests_linkNotUp hlink)
  case active => exact refused (alarmResetTests_active hlink hactive)
  case falling =>
    exact refused ((alarmResetTests_calm hlink hcalm hline).trans (if_pos ((falling_iff_mem _).mpr hfalling)))
  case accepted =>
    rw [alarmResetOwner_accepted (s := s') _ ((alarmResetTests_calm hlink hcalm hline).trans
      (if_neg fun h => hstill ((falling_iff_mem _).mp h)))] at hexec
    refine ⟨alarmReset s', hexec, fun z => ?zones, alarmReset_set s', alarmReset_stage s' hlink, alarmReset_curtain s',
      callAt_alarmReset_evacuation s', callAt_alarmReset_staff s', fun c hc => alarmReset_recorded s' hc,
      alarmReset_guardsMarked s', alarmReset_stream_of_unsafe s', alarmReset_phase s', (alarmReset_link s').trans hlink⟩
    case zones =>
      rw [zoneAt_alarmReset]
      exact ⟨quietedZone_state _, quietedZone_of_quiet, quietedZone_of_notQuiet⟩

end Sys2Proof.Machine
end

section
/-! The Call Sequencer's calls run, take areas and end without reaching the interval clock: its timer, its remaining time
and the progress of the schedule's entries (R142, R160) stay as they were. CallsClosed leaves the whole Call Sequencer
free and so cannot speak of them. -/

namespace Sys2Proof.Machine

/-- Two states agree on the interval clock, its remaining time and the progress of the schedule's entries. -/
def IntervalKept (s t : State) : Prop :=
  t.calls.clock = s.calls.clock ∧ t.calls.remaining = s.calls.remaining ∧ t.calls.progress = s.calls.progress

theorem intervalKept_refl (s : State) : IntervalKept s s := ⟨rfl, rfl, rfl⟩

theorem intervalKept_congr {s t u : State} (hcalls : u.calls = t.calls) (h : IntervalKept s t) : IntervalKept s u := by
  rwa [IntervalKept, hcalls]

theorem recordClosed_intervalKept (s : State) : RecordClosed (IntervalKept s) where
  record k a b c h := intervalKept_congr (writeRecord_calls k a b c _) h
  offer q f h := intervalKept_congr (offer_calls q f _) h

/-! ### A call's operations -/

section
variable {s t : State}

theorem sendToArea_intervalKept (cmd x y : Byte) (a : AreaId) (h : IntervalKept s t) :
    IntervalKept s (sendToArea cmd x y t a) := by
  unfold sendToArea
  split
  · exact (recordClosed_intervalKept s).offer _ _ h
  · exact h

theorem sendToAreas_intervalKept (areas : AreaSet) (cmd x y : Byte) (h : IntervalKept s t) :
    IntervalKept s (sendToAreas areas cmd x y t) :=
  intervalKept_congr (sendToAreas_calls areas cmd x y t) h

theorem putCall_intervalKept (e : EntryId) (c : Option Call) (h : IntervalKept s t) : IntervalKept s (putCall e c t) := h

theorem setFlash_intervalKept (areas : AreaSet) (f : FlashState) (h : IntervalKept s t) :
    IntervalKept s (setFlash areas f t) := h

theorem endCall_intervalKept (o : CallOutcome) (e : EntryId) (h : IntervalKept s t) :
    IntervalKept s (endCall o e t) := by
  unfold endCall
  split
  · exact h
  next c _ =>
    have hstops : IntervalKept s (if stopsUnits t.tables o c then sendToAreas c.held cmdStop 0 0 t else t) :=
      ite_keeps (sendToAreas_intervalKept _ _ _ _ h) h
    exact (recordClosed_intervalKept s).record _ _ _ _ (setFlash_intervalKept _ _ hstops)

theorem runSteps_intervalKept (n : Nat) (e : EntryId) {t : State} (h : IntervalKept s t) :
    IntervalKept s (runSteps n e t) := by
  induction n generalizing t with
  | zero => exact h
  | succ n ih =>
    unfold runSteps
    split
    · exact h
    · dsimp only
      split
      · exact putCall_intervalKept _ _ (sendToAreas_intervalKept _ _ _ _ h)
      · exact putCall_intervalKept _ _ (sendToAreas_intervalKept _ _ _ _ h)
      · exact putCall_intervalKept _ _ (setFlash_intervalKept _ _ h)
      · exact putCall_intervalKept _ _ h
      · exact ih (putCall_intervalKept _ _ h)
      · exact endCall_intervalKept _ _ h

theorem stepEnds_intervalKept (e : EntryId) (h : IntervalKept s t) : IntervalKept s (stepEnds e t) := by
  unfold stepEnds
  split
  · exact h
  · exact runSteps_intervalKept _ _ (putCall_intervalKept _ _ h)

theorem takeArea_intervalKept (w : EntryId) (a : AreaId) (h : IntervalKept s t) : IntervalKept s (takeArea w a t) := by
  unfold takeArea
  split
  · exact h
  · exact putCall_intervalKept _ _ h

theorem preempt_intervalKept (w : EntryId) (takes : Bool) (a : AreaId) (h : IntervalKept s t) :
    IntervalKept s (preempt w takes t a) := by
  unfold preempt
  split
  · exact h
  next l _ =>
    split
    · exact h
    split
    · exact h
    next c _ =>
      have hlost : IntervalKept s (setFlash (oneArea a) .inactive
          (putCall l (some (loseArea t.tables a c)) (sendToArea cmdStop 0 0 t a))) :=
        setFlash_intervalKept _ _ (putCall_intervalKept _ _ (sendToArea_intervalKept _ _ _ _ h))
      have htaken {u : State} (hu : IntervalKept s u) : IntervalKept s (if takes then takeArea w a u else markFreed u) :=
        ite_keeps (takeArea_intervalKept _ _ hu) hu
      have hstepped (p : Prop) [Decidable p] := htaken (ite_keeps (c := p) (stepEnds_intervalKept l hlost) hlost)
      exact ite_keeps (endCall_intervalKept _ _ (hstepped _)) (hstepped _)

theorem seizeArea_intervalKept (w : EntryId) (a : AreaId) (h : IntervalKept s t) : IntervalKept s (seizeArea w t a) :=
  takeArea_intervalKept _ _ (preempt_intervalKept _ _ _ h)

theorem startRunning_intervalKept (e : EntryId) (h : IntervalKept s t) : IntervalKept s (startRunning e t) := by
  unfold startRunning
  split
  · exact h
  next c _ =>
    have hseized : IntervalKept s ((areasOf c.requested).foldl (seizeArea e) t) :=
      foldl_keeps (fun _ a hu => seizeArea_intervalKept e a hu) _ _ h
    dsimp only
    split
    · exact hseized
    · exact runSteps_intervalKept _ _
        ((recordClosed_intervalKept s).record _ _ _ _ (putCall_intervalKept _ _ hseized))

theorem suppressOrdinary_intervalKept (h : IntervalKept s t) : IntervalKept s (suppressOrdinary t) :=
  foldl_keeps (fun _ _ hu => ite_keeps (endCall_intervalKept _ _ hu) hu) _ _
    (foldl_keeps (fun _ _ hu => endCall_intervalKept _ _ hu) _ _ h)

theorem startAlarmCall_intervalKept (e : EntryId) (p : ProgramId) (o : Origin) (areas : AreaSet)
    (h : IntervalKept s t) : IntervalKept s (startAlarmCall e p o areas t) :=
  startRunning_intervalKept (t := placeCall e p o areas t) e h

theorem growArea_intervalKept (a : AreaId) (h : IntervalKept s t) : IntervalKept s (growArea t a) := by
  unfold growArea
  split
  · exact h
  · exact ite_keeps h (seizeArea_intervalKept _ _ (putCall_intervalKept _ _ h))

theorem askEvacuation_intervalKept (h : IntervalKept s t) : IntervalKept s (askEvacuation t) := by
  unfold askEvacuation
  refine ite_keeps h ?_
  split
  · exact h
  split
  · exact startAlarmCall_intervalKept _ _ _ _ h
  · exact foldl_keeps (fun _ a hu => growArea_intervalKept a hu) _ _ h

theorem askStaff_intervalKept (h : IntervalKept s t) : IntervalKept s (askStaff t) := by
  unfold askStaff
  split
  · exact h
  · exact ite_keeps (startAlarmCall_intervalKept _ _ _ _ h) h

end

/-! ### An alarm's consequences -/

section
variable (s : State)

theorem zonesClosed_intervalKept : ZonesClosed (IntervalKept s) :=
  { recordClosed_intervalKept s with monitor := fun _ h => h }

theorem curtainClosed_intervalKept : CurtainClosed (IntervalKept s) :=
  { recordClosed_intervalKept s with curtain := fun _ h => h, phase := fun _ h => h, effects := fun _ h => h }

theorem effectsClosed_intervalKept : EffectsClosed (IntervalKept s) :=
  { recordClosed_intervalKept s with
    effects := fun _ h => h
    stream := fun _ h => h
    askEvacuation := askEvacuation_intervalKept
    askStaff := askStaff_intervalKept
    endCall := endCall_intervalKept }

end

section
variable {s t : State}

theorem deliverCurtain_intervalKept (h : IntervalKept s t) : IntervalKept s (deliverCurtain t) :=
  addAlarm_keeps (curtainClosed_intervalKept s) (fun r _ hu => report64_keeps (zonesClosed_intervalKept s)
    (fun b _ hv => handOverInDelivery_keeps (effectsClosed_intervalKept s) b hv) r hu) h

theorem riseToEvacuate_intervalKept (h : IntervalKept s t) : IntervalKept s (riseToEvacuate t) :=
  closeWindows_keeps (zonesClosed_intervalKept s)
    (fun b _ hu => handOverWith_keeps (effectsClosed_intervalKept s) (fun hv => hv) deliverCurtain_intervalKept b hu)
    _ (suppressOrdinary_intervalKept (endCall_intervalKept _ _ h))

theorem handOver_intervalKept (entered : Bool) (h : IntervalKept s t) : IntervalKept s (handOver entered t) :=
  handOverWith_keeps (effectsClosed_intervalKept s) riseToEvacuate_intervalKept deliverCurtain_intervalKept entered h

/-! ### A phase changes -/

theorem changePhase_intervalKept (target : Phase) (h : IntervalKept s t) : IntervalKept s (changePhase target t) := by
  have hchanged : IntervalKept s (writeRecord .phaseChanged 0 t.phase.phase.code target.code (noticeIsDue
      (t.withPhase ⟨target, t.phase.testValid && !clearsValidity target, t.phase.staff && !noStaffPhase target⟩))) :=
    (recordClosed_intervalKept s).record _ _ _ _ h
  exact ite_keeps ((recordClosed_intervalKept s).record _ _ _ _ hchanged) hchanged

theorem zonesFollowPhase_intervalKept (target : Phase) (h : IntervalKept s t) :
    IntervalKept s (zonesFollowPhase target t) := by
  have hho (b : Bool) {u : State} (hu : IntervalKept s u) : IntervalKept s (handOver b u) := handOver_intervalKept b hu
  have hsettled : IntervalKept s (if permitsDelay target then t else endInvestigation handOver t) :=
    ite_keeps h (endInvestigation_keeps (zonesClosed_intervalKept s) hho h)
  exact ite_keeps hsettled (closeWindows_keeps (zonesClosed_intervalKept s) hho _ hsettled)

end

end Sys2Proof.Machine
end

section
/-! SET-PHASE accepted, of a transition that is no commit and no entry to MAINTENANCE (R4): what the zones' reactions
leave to the Call Sequencer. -/

namespace Sys2Proof.Machine

theorem exec_setPhase_of_requested {s : State} {tag : Byte} {args : List Byte} (h : Requested s 3 tag args) :
    exec .setPhase s = .next (replied tag 3 (setPhaseOwner args (dropHead .consoleRx s)).2
      (setPhaseOwner args (dropHead .consoleRx s)).1) :=
  congrArg _ (handle_of_requested h _)

theorem phase_ofCode_code (p : Phase) : Phase.ofCode p.code = some p := by cases p <;> rfl

theorem transitionTests_passed {s : State} {target : Phase} (hfree : s.effects.stage ≠ .evacuate ∨ target = .clearing)
    (hrow : isTransition s.phase.phase target = true) (hguard : guardOf s target = none) :
    transitionTests s target = none := by
  rw [transitionTests, if_neg (by simpa [imp_iff_not_or] using hfree), if_neg (by simp [hrow]), hguard]

theorem guardOf_inShow {s : State} {target : Phase} (h : s.phase.phase = .performance ∨ s.phase.phase = .interval) :
    guardOf s target = none := by
  rcases h with h | h <;> simp [guardOf, h]

/-- No row of 1.3 from PERFORMANCE or INTERVAL stays there or leads to MAINTENANCE. -/
theorem isTransition_inShow {p target : Phase} (h : p = .performance ∨ p = .interval)
    (hrow : isTransition p target = true) : target ≠ p ∧ target ≠ .maintenance := by
  revert hrow
  rcases h with rfl | rfl <;> cases target <;> decide

theorem setPhaseOwner_accepted {s : State} {target : Phase} (more : List Byte) (hnew : target ≠ s.phase.phase)
    (h : transitionTests s target = none) :
    setPhaseOwner (target.code :: more) s
      = (carryOut target (intervalLength s (target.code :: more)) s, doneWith [target.code]) := by
  simp [setPhaseOwner, byteAt, phase_ofCode_code, hnew, h]

/-- The state in which an accepted transition reaches the Call Sequencer. -/
def phaseTaken (target : Phase) (s : State) : State := zonesFollowPhase target (changePhase target s)

theorem carryOut_inShow {s : State} {target : Phase} (length : Nat) (hnoCommit : s.phase.phase ≠ .maintenance)
    (hnoLoad : target ≠ .maintenance) :
    carryOut target length s = callsFollowPhase s.phase.phase target length (phaseTaken target s) := by
  simp only [carryOut, phaseTaken, if_neg hnoCommit, if_neg hnoLoad]

theorem intervalLength_dropHead (q : QueueId) (s : State) (args : List Byte) :
    intervalLength (dropHead q s) args = intervalLength s args := by
  rw [intervalLength, dropHead_tables, intervalLength]

/-- A transition of PERFORMANCE or INTERVAL, whose phases have no guard, is carried out (R4, 1.3). -/
theorem setPhase_carriedOut {s : State} {tag : Byte} {target : Phase} {more : List Byte}
    (hreq : Requested s 3 tag (target.code :: more))
    (hold : s.phase.phase = .performance ∨ s.phase.phase = .interval)
    (hfree : s.effects.stage ≠ .evacuate ∨ target = .clearing) (hrow : isTransition s.phase.phase target = true) :
    DoneWith .setPhase s 3 tag [target.code] (callsFollowPhase s.phase.phase target
      (intervalLength s (target.code :: more)) (phaseTaken target (dropHead .consoleRx s))) := by
  have hexec := exec_setPhase_of_requested hreq
  have hphase : (dropHead .consoleRx s).phase = s.phase := dropHead_phase _ _
  have htests : transitionTests (dropHead .consoleRx s) target = none :=
    transitionTests_passed (by rwa [dropHead_effects]) (by rwa [hphase]) (guardOf_inShow (by rwa [hphase]))
  have hnoCommit : s.phase.phase ≠ .maintenance := by rcases hold with h | h <;> simp [h]
  obtain ⟨hnew, hnoLoad⟩ := isTransition_inShow hold hrow
  rwa [setPhaseOwner_accepted more (by rwa [hphase]) htests, carryOut_inShow _ (by rwa [hphase]) hnoLoad,
    intervalLength_dropHead, hphase] at hexec

theorem phaseTaken_onlyTouches (target : Phase) (s : State) : OnlyTouches alarmReach s (phaseTaken target s) :=
  zonesFollowPhase_keeps (alarmClosed_onlyTouches s) target
    (changePhase_keeps (alarmClosed_onlyTouches s) target (onlyTouches_refl _ s))

theorem phaseTaken_intervalKept (target : Phase) (s : State) : IntervalKept s (phaseTaken target s) :=
  zonesFollowPhase_intervalKept target (changePhase_intervalKept target (intervalKept_refl s))

end Sys2Proof.Machine
end

section
/-! The interval clock: started on entry to INTERVAL, stopped as it is left, and extended by request (R9, R160, R162,
R163). -/

namespace Sys2Proof.Machine

/-! ### Arguments and replies of two bytes -/

theorem word16_toNat (hi lo : Byte) : (word16 hi lo).toNat = hi.toNat * 256 + lo.toNat := by
  rw [word16, BitVec.toNat_append, ← Nat.shiftLeft_add_eq_or_of_lt lo.isLt, Nat.shiftLeft_eq]

theorem nat16_eq (n : Nat) : nat16 n = [byteOf (n / 256), byteOf n] := by
  have hhigh : (BitVec.ofNat 16 n).extractLsb' 8 8 = byteOf (n / 256) := by
    apply BitVec.eq_of_toNat_eq
    simp [byteOf, Nat.shiftRight_eq_div_pow]
    omega
  have hlow : (BitVec.ofNat 16 n).extractLsb' 0 8 = byteOf n := by
    apply BitVec.eq_of_toNat_eq
    simp [byteOf]
  rw [nat16, bytes16, hhigh, hlow]

/-! ### The clock starts -/

theorem afterS_one (s : State) : afterS s 1 = some (s.now + 100000) := by rw [afterS, ticksPerS]

/-- R160: the progress of an entry as the clock starts with a length. -/
def startedProgress (t : Tables) (length : Nat) (i : Fin 6) : Progress :=
  if t.schedule.entries[i].enabled ≠ 1 then .discarded
  else if length ≤ t.schedule.entries[i].offset.toNat then .skipped else .unfired

theorem startEntry_calls (length : Nat) (s : State) (i : Fin 6) :
    (startEntry length s i).calls
      = { s.calls with progress := putAt s.calls.progress i (startedProgress s.tables length i) } := by
  unfold startEntry startedProgress
  dsimp only
  split_ifs <;> simp_all [setProgress]

theorem startEntry_tables (length : Nat) (s : State) (i : Fin 6) : (startEntry length s i).tables = s.tables := by
  unfold startEntry
  dsimp only
  split_ifs <;> simp [setProgress]

/-- The entries marked one after the other: each of the list by its own row, and the clock as it was. -/
theorem foldl_startEntry_calls (length : Nat) (l : List (Fin 6)) (s : State) :
    (l.foldl (startEntry length) s).calls.clock = s.calls.clock
      ∧ (l.foldl (startEntry length) s).calls.remaining = s.calls.remaining
      ∧ ∀ j : Fin 6, (l.foldl (startEntry length) s).calls.progress[j]
          = if j ∈ l then startedProgress s.tables length j else s.calls.progress[j] := by
  induction l generalizing s with
  | nil => exact ⟨rfl, rfl, fun j => rfl⟩
  | cons i l ih =>
    obtain ⟨hclock, hremaining, hprogress⟩ := ih (startEntry length s i)
    have hcalls := startEntry_calls length s i
    refine ⟨hclock.trans (by rw [hcalls]), hremaining.trans (by rw [hcalls]), fun j => ?_⟩
    rw [List.foldl_cons, hprogress, startEntry_tables, hcalls]
    by_cases hj : j = i
    · subst hj
      rw [putAt_same, ite_self, if_pos List.mem_cons_self]
    · simp only [putAt_other _ _ hj, List.mem_cons, hj, false_or]

/-- R160: the clock runs with its length, its first tick a second from now, and every entry is marked. -/
theorem startInterval_calls (length : Nat) (s : State) :
    (startInterval length s).calls.clock = some (s.now + 100000)
      ∧ (startInterval length s).calls.remaining = length
      ∧ ∀ i : Fin 6, (startInterval length s).calls.progress[i] = startedProgress s.tables length i := by
  obtain ⟨hclock, hremaining, hprogress⟩ := foldl_startEntry_calls length (List.finRange 6)
    (s.withCalls { s.calls with remaining := length, clock := afterS s 1 })
  rw [startInterval, hclock, hremaining, withCalls_calls]
  refine ⟨afterS_one s, rfl, fun i => ?_⟩
  rw [hprogress, if_pos (List.mem_finRange i), withCalls_tables]

theorem intervalLength_default (s : State) (b : Byte) : intervalLength s [b] = s.tables.schedule.length.toNat := rfl

theorem intervalLength_given (s : State) (b hi lo : Byte) :
    intervalLength s [b, hi, lo] = max 60 (min 3600 (hi.toNat * 256 + lo.toNat)) := by
  rw [← word16_toNat]
  rfl

theorem callsFollowPhase_intoInterval {old : Phase} (length : Nat) (s : State) (h : old ≠ .interval) :
    callsFollowPhase old .interval length s = startInterval length s := by
  simp only [callsFollowPhase, permitsCalls, if_true, if_neg h]

theorem callsFollowPhase_outOfInterval {target : Phase} (length : Nat) (s : State) (h : target ≠ .interval)
    (hcalls : permitsCalls target = true) : callsFollowPhase .interval target length s = stopInterval s := by
  simp only [callsFollowPhase, if_pos hcalls, if_true, if_neg h]

/-- R9, R160: PERFORMANCE to INTERVAL. -/
theorem interval_entered {s : State} {tag : Byte} {more : List Byte} (hphase : s.phase.phase = .performance)
    (hstage : s.effects.stage ≠ .evacuate) (hreq : Requested s 3 tag (Phase.interval.code :: more)) :
    ∃ u, DoneWith .setPhase s 3 tag [Phase.interval.code] u ∧ u.calls.clock = some (s.now + 100000)
      ∧ u.calls.remaining = intervalLength s (Phase.interval.code :: more)
      ∧ ∀ i : Fin 6, u.calls.progress[i] = startedProgress s.tables u.calls.remaining i := by
  have hdone := setPhase_carriedOut hreq (.inl hphase) (.inl hstage) (by rw [hphase]; rfl)
  rw [hphase, callsFollowPhase_intoInterval _ _ (by decide)] at hdone
  have hreach := phaseTaken_onlyTouches .interval (dropHead .consoleRx s)
  obtain ⟨hclock, hremaining, hprogress⟩ := startInterval_calls
    (intervalLength s (Phase.interval.code :: more)) (phaseTaken .interval (dropHead .consoleRx s))
  have hnow : (phaseTaken .interval (dropHead .consoleRx s)).now = s.now := hreach .now (by decide)
  have htables : (phaseTaken .interval (dropHead .consoleRx s)).tables = s.tables := hreach.tables
  rw [hnow] at hclock
  rw [htables] at hprogress
  exact ⟨_, hdone, hclock, hremaining, fun i => by rw [hprogress, hremaining]⟩

/-! ### The clock stops -/

theorem getElem_mapVec {α β : Type} {n : Nat} (f : α → β) (v : Vector α n) (i : Fin n) : (mapVec f v)[i] = f v[i] := by
  simp [mapVec]

/-- R163: INTERVAL to PERFORMANCE or to CLEARING, both of which permit calls. -/
theorem interval_left {s : State} {tag : Byte} {more : List Byte} {target : Phase} (hphase : s.phase.phase = .interval)
    (htarget : target = .performance ∧ s.effects.stage ≠ .evacuate ∨ target = .clearing)
    (hreq : Requested s 3 tag (target.code :: more)) :
    ∃ u, DoneWith .setPhase s 3 tag [target.code] u ∧ u.calls.clock = none ∧ u.calls.remaining = s.calls.remaining
      ∧ ∀ i : Fin 6, u.calls.progress[i]
          = if s.calls.progress[i] = .unfired then .discarded else s.calls.progress[i] := by
  obtain ⟨hrow, hnew, hcalls⟩ : isTransition .interval target = true ∧ target ≠ .interval
      ∧ permitsCalls target = true := by
    rcases htarget.imp_left And.left with rfl | rfl <;> decide
  have hdone := setPhase_carriedOut hreq (.inr hphase) (htarget.imp_left And.right) (by rwa [hphase])
  rw [hphase, callsFollowPhase_outOfInterval _ _ hnew hcalls] at hdone
  obtain ⟨-, hremaining, hprogress⟩ := phaseTaken_intervalKept target (dropHead .consoleRx s)
  refine ⟨_, hdone, rfl, hremaining, fun i => ?_⟩
  rw [stopInterval, withCalls_calls, getElem_mapVec, hprogress, dropHead_calls]

theorem intervalEnteredAndLeft : Parts.IntervalEnteredAndLeft := by
  intro s tag
  refine ⟨fun args hphase hstage hreq hargs => ?entered, fun b more hphase hreq hb => ?left⟩
  case entered =>
    obtain ⟨more, rfl⟩ : ∃ more, args = 5 :: more := by
      rcases hargs with rfl | ⟨hi, lo, rfl⟩
      · exact ⟨[], rfl⟩
      · exact ⟨[hi, lo], rfl⟩
    obtain ⟨u, hdone, hclock, hremaining, hprogress⟩ := interval_entered hphase hstage hreq
    refine ⟨u, hdone, fun hdefault => ?_, fun hi lo hgiven => ?_, hclock, fun i => ?_⟩
    · obtain rfl : more = [] := by simpa using hdefault
      rw [hremaining, intervalLength_default]
    · obtain rfl : more = [hi, lo] := by simpa using hgiven
      rw [hremaining, intervalLength_given]
    · rw [hprogress, startedProgress]
  case left =>
    rcases hb with ⟨rfl, hstage⟩ | rfl
    · exact interval_left (target := .performance) hphase (.inl ⟨rfl, hstage⟩) hreq
    · exact interval_left (target := .clearing) hphase (.inr rfl) hreq

/-! ### The clock extended -/

theorem exec_extendInterval_of_requested {s : State} {tag : Byte} {args : List Byte} (h : Requested s 8 tag args) :
    exec .extendInterval s = .next (replied tag 8 (extendIntervalOwner args (dropHead .consoleRx s)).2
      (extendIntervalOwner args (dropHead .consoleRx s)).1) :=
  congrArg _ (handle_of_requested h _)

theorem extendIntervalOwner_outside (args : List Byte) {s : State} (h : s.phase.phase ≠ .interval) :
    extendIntervalOwner args s = (s, refuse .wrongPhase) := by
  simp [extendIntervalOwner, h]

theorem extendIntervalOwner_inside (hi lo : Byte) {s : State} (h : s.phase.phase = .interval) :
    let n := min 65535 (s.calls.remaining + max 10 (min 900 (hi.toNat * 256 + lo.toNat)))
    extendIntervalOwner [hi, lo] s
      = (s.withCalls { s.calls with
          remaining := n, clock := if s.calls.clock = none then some (s.now + 100000) else s.calls.clock },
        doneWith [byteOf (n / 256), byteOf n]) := by
  have harg : argWord [hi, lo] 0 = hi.toNat * 256 + lo.toNat := word16_toNat hi lo
  simp only [extendIntervalOwner, h, harg, clamp, nat16_eq]
  cases s.calls.clock <;> rfl

theorem extendIntervalTested : Parts.ExtendIntervalTested := by
  intro s tag hi lo hreq
  have hexec := exec_extendInterval_of_requested hreq
  refine ⟨fun hphase => ?outside, fun hphase => ?inside⟩
  case outside => rwa [extendIntervalOwner_outside _ (by simpa using hphase)] at hexec
  case inside =>
    rw [extendIntervalOwner_inside hi lo (by simpa using hphase)] at hexec
    simpa only [DoneWith, dropHead_calls, dropHead_now] using hexec

/-- Settles O53, by what the start of the clock makes of every entry, what an alarm met on the way leaves of the clock,
and the owner's two answers to EXTEND-INTERVAL. -/
theorem intervalStartsAndStops : Obligations.IntervalStartsAndStops := ⟨intervalEnteredAndLeft, extendIntervalTested⟩

end Sys2Proof.Machine
end

section
/-! The tables entry by entry (R15, R180, R181): every entry's layout has its table's width, bytes of that width written
into an entry are laid out again as they came, and a table's bytes are those of its entries back to back. -/

namespace Sys2Proof.Machine

/-! ### Fields of several bytes written and laid out -/

@[simp] theorem bytes16_word16 (a b : Byte) : bytes16 (word16 a b) = [a, b] := by
  rw [bytes16, word16, BitVec.extractLsb'_append_eq_left, BitVec.extractLsb'_append_eq_right]

@[simp] theorem bytes24_word24 (a b c : Byte) : bytes24 (word24 a b c) = [a, b, c] := by
  have ha : (a ++ b ++ c).extractLsb' 16 8 = a := by
    rw [BitVec.extractLsb'_append_eq_of_le (by decide), BitVec.extractLsb'_append_eq_left]
  have hb : (a ++ b ++ c).extractLsb' 8 8 = b := by
    rw [BitVec.extractLsb'_append_eq_of_le (by decide), BitVec.extractLsb'_append_eq_right]
  rw [bytes24, word24, ha, hb, BitVec.extractLsb'_append_eq_right]

@[simp] theorem length_bytes16 (w : Word16) : (bytes16 w).length = 2 := rfl

@[simp] theorem length_bytes24 (w : AreaSet) : (bytes24 w).length = 3 := rfl

theorem length_flatMap_of_width {α : Type} {f : α → List Byte} {w : Nat} (h : ∀ x, (f x).length = w) (l : List α) :
    (l.flatMap f).length = l.length * w := by
  simp [List.length_flatMap, h]

/-! ### The width of every layout (10.4) -/

theorem length_stepBytes (e : StepBytes) : (stepBytes e).length = 4 := rfl

theorem length_programBytes (e : Program) : (programBytes e).length = tableWidth .programs := by
  simp [programBytes, length_flatMap_of_width length_stepBytes, tableWidth]

theorem length_scheduleEntryBytes (e : ScheduleEntry) : (scheduleEntryBytes e).length = 7 := rfl

theorem length_scheduleBytes (e : ScheduleRecord) : (scheduleBytes e).length = tableWidth .schedule := by
  simp [scheduleBytes, length_flatMap_of_width length_scheduleEntryBytes, tableWidth]

theorem length_regionBytes (e : QueueRegion) : (regionBytes e).length = 4 := rfl

theorem length_linkBytes (e : LinkRecord) : (linkBytes e).length = tableWidth .link := by
  simp [linkBytes, length_flatMap_of_width length_regionBytes, tableWidth]

/-! ### Bytes read into an entry are its layout -/

/-- The bytes of a run, one by one. -/
theorem map_byteAt {b : List Byte} {n : Nat} (h : b.length = n) : (List.range n).map (byteAt b) = b := by
  subst h
  exact List.ext_getElem (by simp) fun i _ hi => by simp [byteAt, hi]

section
variable {b : List Byte}

theorem areaBytes_areaOfBytes (h : b.length = 4) : areaBytes (areaOfBytes b) = b := map_byteAt h

theorem channelBytes_channelOfBytes (h : b.length = 12) : channelBytes (channelOfBytes b) = b := map_byteAt h

theorem guardBytes_guardOfBytes (h : b.length = 4) : guardBytes (guardOfBytes b) = b := map_byteAt h

theorem streamBytes_streamOfBytes (h : b.length = 3) : streamBytes (streamOfBytes b) = b := by
  simp only [streamBytes, streamOfBytes, bytes16_word16]
  exact map_byteAt h

theorem curtainBytes_curtainOfBytes (h : b.length = 25) : curtainBytes (curtainOfBytes b) = b := by
  simp only [curtainBytes, curtainOfBytes, bytes16_word16]
  exact map_byteAt h

theorem responseBytes_responseOfBytes (h : b.length = 15) : responseBytes (responseOfBytes b) = b := by
  simp only [responseBytes, responseOfBytes, bytes16_word16, bytes24_word24]
  exact map_byteAt h

theorem alarmBytes_alarmOfBytes (h : b.length = 6) : alarmBytes (alarmOfBytes b) = b := by
  simp only [alarmBytes, alarmOfBytes, bytes24_word24]
  exact map_byteAt h

theorem programBytes_programOfBytes (h : b.length = 50) : programBytes (programOfBytes b) = b := by
  simp only [programBytes, programOfBytes, Vector.toList_ofFn, List.ofFn_succ]
  exact map_byteAt h

theorem scheduleEntryBytes_scheduleEntryOfBytes (k : Nat) :
    scheduleEntryBytes (scheduleEntryOfBytes b k) = (List.range 7).map fun i => byteAt b (k + i) := by
  simp only [scheduleEntryBytes, scheduleEntryOfBytes, bytes16_word16, bytes24_word24]
  rfl

theorem scheduleBytes_scheduleOfBytes (h : b.length = 46) : scheduleBytes (scheduleOfBytes b) = b := by
  simp only [scheduleBytes, scheduleOfBytes, bytes16_word16, Vector.toList_ofFn, List.ofFn_succ, List.flatMap_cons,
    scheduleEntryBytes_scheduleEntryOfBytes]
  exact map_byteAt h

theorem linkBytes_linkOfBytes (h : b.length = 30) : linkBytes (linkOfBytes b) = b := by
  simp only [linkBytes, linkOfBytes, regionBytes, bytes16_word16, Vector.toList_ofFn, List.ofFn_succ, List.flatMap_cons]
  exact map_byteAt h

end

/-! ### A table as its entries -/

/-- The entries of a table, each laid out (10.4). -/
def entryRows (t : Tables) : TableId → List (List Byte)
  | .areas => t.areas.toList.map areaBytes
  | .channels => t.channels.toList.map channelBytes
  | .guards => t.guards.toList.map guardBytes
  | .stream => [streamBytes t.stream]
  | .curtain => [curtainBytes t.curtain]
  | .response => t.response.toList.map responseBytes
  | .alarm => [alarmBytes t.alarm]
  | .programs => t.programs.toList.map programBytes
  | .schedule => [scheduleBytes t.schedule]
  | .link => [linkBytes t.link]

theorem length_entryRows (t : Tables) (id : TableId) : (entryRows t id).length = tableEntries id := by
  cases id <;> simp [entryRows, tableEntries]

theorem flatMap_slice {α : Type} (f : α → List Byte) (l : List α) (first count : Nat) :
    ((l.drop first).take count).flatMap f = (((l.map f).drop first).take count).flatten := by
  rw [List.flatMap_def, List.map_take, List.map_drop]

theorem tableBytes_eq (t : Tables) (id : TableId) (first count : Nat) :
    tableBytes t id first count = (((entryRows t id).drop first).take count).flatten := by
  cases id <;> exact flatMap_slice _ _ _ _

theorem length_of_mem_entryRows {t : Tables} {id : TableId} {row : List Byte} (h : row ∈ entryRows t id) :
    row.length = tableWidth id := by
  cases id
  case programs =>
    obtain ⟨e, -, rfl⟩ := List.mem_map.mp h
    exact length_programBytes e
  case schedule => rw [List.mem_singleton.mp h, length_scheduleBytes]
  case link => rw [List.mem_singleton.mp h, length_linkBytes]
  case areas | channels | guards | response =>
    obtain ⟨e, -, rfl⟩ := List.mem_map.mp h
    rfl
  case stream | curtain | alarm =>
    rw [List.mem_singleton.mp h]
    rfl

theorem length_flatten_of_width {w : Nat} {rows : List (List Byte)} (h : ∀ row ∈ rows, row.length = w) :
    rows.flatten.length = rows.length * w := by
  rw [List.length_flatten, List.map_congr_left h, List.map_const', List.sum_replicate, smul_eq_mul]

theorem length_tableBytes {id : TableId} {first n : Nat} (t : Tables) (h : first + n ≤ tableEntries id) :
    (tableBytes t id first n).length = n * tableWidth id := by
  have hrows : ∀ row ∈ ((entryRows t id).drop first).take n, row.length = tableWidth id := fun row hrow =>
    length_of_mem_entryRows (List.mem_of_mem_drop (List.mem_of_mem_take hrow))
  have hn : (((entryRows t id).drop first).take n).length = n := by
    rw [List.length_take, List.length_drop, length_entryRows]
    omega
  rw [tableBytes_eq, length_flatten_of_width hrows, hn]

theorem tableBytes_one (t : Tables) (id : TableId) (i : Nat) :
    tableBytes t id i 1 = (entryRows t id)[i]?.toList.flatten := by
  rw [tableBytes_eq, List.take_one, List.head?_drop]

/-! ### Entries replaced -/

theorem entryRows_putEntry_same {id : TableId} {bs : List Byte} (t : Tables) (i : Nat) (h : bs.length = tableWidth id) :
    entryRows (putEntry t id i bs) id = (entryRows t id).set i bs := by
  cases id
  case areas => simp [entryRows, putEntry, List.map_set, areaBytes_areaOfBytes h]
  case channels => simp [entryRows, putEntry, List.map_set, channelBytes_channelOfBytes h]
  case guards => simp [entryRows, putEntry, List.map_set, guardBytes_guardOfBytes h]
  case response => simp [entryRows, putEntry, List.map_set, responseBytes_responseOfBytes h]
  case programs => simp [entryRows, putEntry, List.map_set, programBytes_programOfBytes h]
  case stream => cases i <;> simp [entryRows, putEntry, streamBytes_streamOfBytes h]
  case curtain => cases i <;> simp [entryRows, putEntry, curtainBytes_curtainOfBytes h]
  case alarm => cases i <;> simp [entryRows, putEntry, alarmBytes_alarmOfBytes h]
  case schedule => cases i <;> simp [entryRows, putEntry, scheduleBytes_scheduleOfBytes h]
  case link => cases i <;> simp [entryRows, putEntry, linkBytes_linkOfBytes h]

/-- Each table is a field of its own, so the entry put into one is not seen in the rows of the other nine. -/
theorem entryRows_putEntry_other {id other : TableId} (t : Tables) (i : Nat) (bs : List Byte) (h : other ≠ id) :
    entryRows (putEntry t id i bs) other = entryRows t other := by
  cases id <;> cases other <;> simp [entryRows, putEntry, apply_ite] at h ⊢

theorem entryRows_putEntries_other {id other : TableId} (h : other ≠ id) (first n : Nat) (bs : List Byte) (t : Tables) :
    entryRows (putEntries id first n bs t) other = entryRows t other := by
  induction n generalizing first bs t with
  | zero => rfl
  | succ n ih => rw [putEntries, ih, entryRows_putEntry_other _ _ _ h]

theorem getElem?_spliced {rows new : List (List Byte)} {first i : Nat} (hfit : first + new.length ≤ rows.length)
    (hout : i < first ∨ first + new.length ≤ i) :
    (rows.take first ++ new ++ rows.drop (first + new.length))[i]? = rows[i]? := by
  have htake : (rows.take first).length = first := List.length_take_of_le (by omega)
  have hboth : (rows.take first ++ new).length = first + new.length := by rw [List.length_append, htake]
  rcases hout with hbefore | hafter
  · rw [List.append_assoc, List.getElem?_append_left (by omega), List.getElem?_take_of_lt hbefore]
  · rw [List.getElem?_append_right (by omega), List.getElem?_drop, hboth, Nat.add_sub_cancel' hafter]

/-- Whole entries put from `first` on: the rows before and after them stay, and the new rows are the bytes carried. -/
theorem entryRows_putEntries_same {id : TableId} {first n : Nat} {bs : List Byte} {t : Tables}
    (hfit : first + n ≤ tableEntries id) (hlen : bs.length = n * tableWidth id) :
    ∃ rows : List (List Byte), rows.length = n ∧ rows.flatten = bs
      ∧ entryRows (putEntries id first n bs t) id
        = (entryRows t id).take first ++ rows ++ (entryRows t id).drop (first + n) := by
  induction n generalizing first bs t with
  | zero => exact ⟨[], rfl, (List.length_eq_zero_iff.mp (by omega)).symm, by simp [putEntries]⟩
  | succ n ih =>
    have hlen' : bs.length = n * tableWidth id + tableWidth id := by rw [hlen, Nat.succ_mul]
    have hput : entryRows (putEntry t id first (bs.take (tableWidth id))) id
        = (entryRows t id).set first (bs.take (tableWidth id)) :=
      entryRows_putEntry_same t first (by rw [List.length_take]; omega)
    obtain ⟨rows, hn, hflat, hrows⟩ := @ih (first + 1) (bs.drop (tableWidth id))
      (putEntry t id first (bs.take (tableWidth id))) (by omega) (by rw [List.length_drop]; omega)
    have hfirst : first < (entryRows t id).length := by rw [length_entryRows]; omega
    refine ⟨bs.take (tableWidth id) :: rows, by simp [hn], by simp [hflat], ?_⟩
    rw [putEntries, hrows, hput, List.take_add_one, List.take_set_of_le (Nat.le_refl _),
      List.drop_set_of_lt (by omega), List.getElem?_set_self hfirst]
    simp [Nat.add_comm, Nat.add_left_comm]

end Sys2Proof.Machine
end

section
/-! READ-TABLE and WRITE-TABLE (R180, R181): their owners' answers, and what a write leaves in the working copy. -/

namespace Sys2Proof.Machine

theorem tableOf_of_gt {b : Byte} (h : 9 < b.toNat) : tableOf b = none := by
  obtain ⟨k, hk⟩ : ∃ k, b.toNat = k + 10 := ⟨b.toNat - 10, by omega⟩
  simp [tableOf, hk]

/-! ### Reading -/

theorem exec_readTable_of_requested {s : State} {tag : Byte} {args : List Byte} (h : Requested s 1 tag args) :
    exec .readTable s = .next (replied tag 1 (readTableOwner args (dropHead .consoleRx s)).2
      (readTableOwner args (dropHead .consoleRx s)).1) :=
  congrArg _ (handle_of_requested h _)

theorem readTableOwner_noTable {b : Byte} (first count : Byte) (s : State) (h : 9 < b.toNat) :
    readTableOwner [b, first, count] s = (s, refuse .badArgument) := by
  simp [readTableOwner, byteAt, tableOf_of_gt h]

theorem readTableOwner_beyond {b first : Byte} {id : TableId} (count : Byte) (s : State) (hid : tableOf b = some id)
    (h : tableEntries id ≤ first.toNat) : readTableOwner [b, first, count] s = (s, refuse .badArgument) := by
  simp [readTableOwner, byteAt, hid, h]

theorem readTableOwner_within {b first : Byte} {id : TableId} (count : Byte) (s : State) (hid : tableOf b = some id)
    (h : first.toNat < tableEntries id) :
    let n := min (min count.toNat (tableEntries id - first.toNat)) (mostRead id)
    readTableOwner [b, first, count] s
      = (s, doneWith ([b, first, byteOf n] ++ tableBytes (readSource s) id first.toNat n)) := by
  simp [readTableOwner, byteAt, hid, h]

theorem readSource_dropHead (q : QueueId) (s : State) : readSource (dropHead q s) = readSource s := by
  simp only [readSource, dropHead_phase, dropHead_working, dropHead_tables]

/-- Settles O55, by the owner's three answers; the count keeps within the table, so each entry read has its width, and
within what fits, so the reply does. -/
theorem tableRead : Obligations.TableRead := by
  intro s tag b first count hreq
  have hexec := exec_readTable_of_requested hreq
  refine ⟨fun hb => ?noTable, fun id hid => ?table⟩
  case noTable => rwa [readTableOwner_noTable _ _ _ hb] at hexec
  case table =>
    intro n source data
    refine ⟨fun hfirst => ?beyond, fun hfirst => ?within⟩
    case beyond => rwa [readTableOwner_beyond _ _ hid hfirst] at hexec
    case within =>
      have hlength : data.length = 3 + n * tableWidth id := by
        rw [List.length_append, length_tableBytes _ (by omega)]
        rfl
      have hcount : n * tableWidth id ≤ 193 := calc
        n * tableWidth id ≤ 193 / tableWidth id * tableWidth id := Nat.mul_le_mul_right _ (Nat.min_le_right _ _)
        _ ≤ 193 := Nat.div_mul_le_self _ _
      rw [readTableOwner_within _ _ hid hfirst, readSource_dropHead] at hexec
      exact ⟨hexec, hlength, by omega⟩

/-! ### Writing -/

theorem exec_writeTable_of_requested {s : State} {tag : Byte} {args : List Byte} (h : Requested s 2 tag args) :
    exec .writeTable s = .next (replied tag 2 (writeTableOwner args (dropHead .consoleRx s)).2
      (writeTableOwner args (dropHead .consoleRx s)).1) :=
  congrArg _ (handle_of_requested h _)

theorem writeTableOwner_short {args : List Byte} (s : State) (h : args.length < 2) :
    writeTableOwner args s = (s, refuse .badFormat) := by
  simp [writeTableOwner, h]

section
variable {b : Byte} {bytes : List Byte} {id : TableId}

theorem writeTableOwner_noTable (first : Byte) (bytes : List Byte) (s : State) (h : 9 < b.toNat) :
    writeTableOwner (b :: first :: bytes) s = (s, refuse .badArgument) := by
  simp [writeTableOwner, byteAt, tableOf_of_gt h]

theorem writeTableOwner_notWhole (first : Byte) (s : State) (hid : tableOf b = some id)
    (h : ¬(bytes ≠ [] ∧ bytes.length % tableWidth id = 0)) :
    writeTableOwner (b :: first :: bytes) s = (s, refuse .badFormat) := by
  have hbad : bytes = [] ∨ bytes.length % tableWidth id ≠ 0 := by tauto
  simp [writeTableOwner, byteAt, hid, hbad]

theorem writeTableOwner_whole (first : Byte) (s : State) (hid : tableOf b = some id)
    (h : bytes ≠ [] ∧ bytes.length % tableWidth id = 0) :
    let n := bytes.length / tableWidth id
    writeTableOwner (b :: first :: bytes) s
      = if s.phase.phase ≠ .maintenance then (s, refuse .wrongPhase)
        else if tableEntries id < first.toNat + n then (s, refuse .badArgument)
        else (s.withWorking (putEntries id first.toNat n bytes s.working), doneWith [b, first, byteOf n]) := by
  simp [writeTableOwner, byteAt, hid, h]

end

/-- What an accepted WRITE-TABLE leaves in a working copy: the bytes carried stand from `first` on, and every entry
outside them is as it was. -/
theorem putEntries_reads_back {id : TableId} {first n : Nat} {bytes : List Byte} {t : Tables}
    (hfit : first + n ≤ tableEntries id) (hlen : bytes.length = n * tableWidth id) :
    tableBytes (putEntries id first n bytes t) id first n = bytes
      ∧ ∀ (other : TableId) (i : Nat), (other ≠ id ∨ i < first ∨ first + n ≤ i) →
          tableBytes (putEntries id first n bytes t) other i 1 = tableBytes t other i 1 := by
  obtain ⟨rows, hn, hflat, hrows⟩ := entryRows_putEntries_same (t := t) hfit hlen
  have htake : ((entryRows t id).take first).length = first :=
    List.length_take_of_le (by rw [length_entryRows]; omega)
  refine ⟨?carried, fun other i hout => ?kept⟩
  case carried =>
    rw [tableBytes_eq, hrows, List.append_assoc, List.drop_left' htake, List.take_left' hn, hflat]
  case kept =>
    rw [tableBytes_one, tableBytes_one]
    by_cases hother : other = id
    · subst hother hn
      rw [hrows, getElem?_spliced (by rwa [length_entryRows]) (by simpa using hout)]
    · rw [entryRows_putEntries_other hother]

/-- Settles O56, by the owner's tests in order and what the accepted write leaves of every entry. -/
theorem tableWritten : Obligations.TableWritten := by
  intro s tag args hreq
  have hexec := exec_writeTable_of_requested hreq
  refine ⟨fun hargs => ?short, ?carrying⟩
  case short => rwa [writeTableOwner_short _ hargs] at hexec
  case carrying =>
    rintro b first bytes rfl
    refine ⟨fun hb => ?noTable, fun id hid => ⟨fun hpart => ?notWhole, fun hwhole hphase => ?phase,
      fun hwhole hphase hover => ?beyond, fun hwhole hphase hfit => ?written⟩⟩
    case noTable => rwa [writeTableOwner_noTable _ _ _ hb] at hexec
    case notWhole => rwa [writeTableOwner_notWhole _ _ hid hpart] at hexec
    case phase =>
      rwa [writeTableOwner_whole _ _ hid hwhole, if_pos (by simpa using hphase)] at hexec
    case beyond =>
      rwa [writeTableOwner_whole _ _ hid hwhole, if_neg (by simpa using hphase), if_pos hover] at hexec
    case written =>
      rw [writeTableOwner_whole _ _ hid hwhole, if_neg (by simpa using hphase), if_neg (Nat.not_lt.mpr hfit),
        dropHead_working] at hexec
      exact ⟨_, hexec, putEntries_reads_back hfit (Nat.div_mul_cancel (Nat.dvd_of_mod_eq_zero hwhole.2)).symm⟩

end Sys2Proof.Machine
end

section
/-! READ-STATUS, READ-ZONE and READ-CALLS (R182, R183, R184): each reply laid out field by field. -/

namespace Sys2Proof.Machine

/-! ### READ-STATUS -/

theorem statusBody_eq_statusFields (s : State) : statusBody s = statusFields s := by
  simp only [statusBody, statusFields, boolByte, runningCalls, allQueues, newestSeq, nat16_eq]
  cases s.log.ring.getLast? <;> rfl

theorem length_statusBody (s : State) : (statusBody s).length = 31 := rfl

theorem exec_readStatus_of_requested {s : State} {tag : Byte} {args : List Byte} (h : Requested s 18 tag args) :
    exec .readStatus s = .next (replied tag 18 (readStatusOwner args (dropHead .consoleRx s)).2
      (readStatusOwner args (dropHead .consoleRx s)).1) :=
  congrArg _ (handle_of_requested h _)

theorem testField_eq (o : Option Nat) : testField o = [byteOf (o.getD 65535 / 256), byteOf (o.getD 65535)] := nat16_eq _

theorem length_testBytes (c : Curtain) : (testBytes c).length = 14 := by
  simp only [testBytes]
  cases c.test.status <;> rfl

theorem statusRead : Parts.StatusRead := by
  intro s tag hreq
  have hexec := exec_readStatus_of_requested hreq
  rw [readStatusOwner, dropHead_curtain] at hexec
  intro t field status faults data
  have hdata : statusBody (dropHead .consoleRx s) ++ testBytes s.curtain = data := by
    simp only [statusBody_eq_statusFields, testBytes, testField_eq, data, List.append_assoc]
    rfl
  have hlength : data.length = 45 := by
    rw [← hdata, List.length_append, length_statusBody, length_testBytes]
  exact ⟨hdata ▸ hexec, hlength⟩

/-! ### READ-ZONE -/

theorem exec_readZone_of_requested {s : State} {tag : Byte} {args : List Byte} (h : Requested s 19 tag args) :
    exec .readZone s = .next (replied tag 19 (readZoneOwner args (dropHead .consoleRx s)).2
      (readZoneOwner args (dropHead .consoleRx s)).1) :=
  congrArg _ (handle_of_requested h _)

theorem readZoneOwner_noZone {b : Byte} (s : State) (h : 65 < b.toNat) :
    readZoneOwner [b] s = (s, refuse .badArgument) := by
  simp [readZoneOwner, byteAt, zoneIdOf_of_gt h]

theorem readZoneOwner_zone (z : ZoneId) (s : State) :
    readZoneOwner [zoneByte z] s = (s, doneWith (zoneBytes s z)) := by
  simp [readZoneOwner, byteAt, zoneIdOf_zoneByte]

theorem zoneBytes_dropHead (q : QueueId) (s : State) (z : ZoneId) : zoneBytes (dropHead q s) z = zoneBytes s z := by
  simp only [zoneBytes, zoneAt_dropHead, dropHead_now]

/-! ### READ-CALLS -/

theorem exec_readCalls_of_requested {s : State} {tag : Byte} {args : List Byte} (h : Requested s 20 tag args) :
    exec .readCalls s = .next (replied tag 20 (readCallsOwner args (dropHead .consoleRx s)).2
      (readCallsOwner args (dropHead .consoleRx s)).1) :=
  congrArg _ (handle_of_requested h _)

theorem callsBytes_dropHead (q : QueueId) (s : State) : callsBytes (dropHead q s) = callsBytes s := by
  simp only [callsBytes, dropHead_calls, dropHead_now]

theorem length_callBytes (now : Nat) (c : Option Call) : (callBytes now c).length = 13 := by
  cases c <;> rfl

/-- The ten call entries of the reply (R183). -/
def callEntryBytes (s : State) : List Byte := s.calls.table.toList.flatMap (callBytes s.now)

/-- The eight places of the pending list in the reply (R183). -/
def pendingPlaces (cs : CallState) : List Byte := (pendingNumbers cs ++ List.replicate 8 0).take 8

/-- What follows the pending list in the reply: the interval clock (R183). -/
def clockBytes (cs : CallState) : List Byte :=
  [boolByte cs.clock.isSome] ++ nat16 cs.remaining ++ cs.progress.toList.map Progress.code

theorem callsBytes_eq (s : State) : callsBytes s
    = callEntryBytes s ++ ([byteOf s.calls.pendingList.length] ++ (pendingPlaces s.calls ++ clockBytes s.calls)) := by
  simp only [callsBytes, callEntryBytes, pendingPlaces, clockBytes, List.append_assoc]

theorem length_callEntryBytes (s : State) : (callEntryBytes s).length = 130 := by
  rw [callEntryBytes, length_flatMap_of_width (length_callBytes s.now), Vector.length_toList]

theorem length_pendingPlaces (cs : CallState) : (pendingPlaces cs).length = 8 := by
  simp [pendingPlaces]

theorem length_callsBytes (s : State) : (callsBytes s).length = 148 := by
  simp [callsBytes_eq, length_callEntryBytes, length_pendingPlaces, clockBytes, nat16]

theorem slice_flatMap_of_width {α : Type} {f : α → List Byte} {w : Nat} (h : ∀ x, (f x).length = w) {l : List α} {i : Nat}
    (hi : i < l.length) (rest : List Byte) : ((l.flatMap f ++ rest).drop (w * i)).take w = f l[i] := by
  have hsplit : l.flatMap f = (l.take i).flatMap f ++ (f l[i] ++ (l.drop (i + 1)).flatMap f) := by
    conv_lhs => rw [← List.take_append_drop i l, List.drop_eq_getElem_cons hi, List.flatMap_append, List.flatMap_cons]
  have hbefore : ((l.take i).flatMap f).length = w * i := by
    rw [length_flatMap_of_width h, List.length_take_of_le (Nat.le_of_lt hi), Nat.mul_comm]
  rw [hsplit, List.append_assoc, List.append_assoc, List.drop_left' hbefore, List.take_left' (h _)]

theorem callsBytes_entry (s : State) (e : EntryId) :
    ((callsBytes s).drop (13 * e.val)).take 13 = callBytes s.now (callAt s e) := by
  rw [callsBytes_eq, callEntryBytes, slice_flatMap_of_width (length_callBytes s.now) (by simp)]
  rfl

theorem byteAt_append_right {xs : List Byte} {k : Nat} (h : xs.length = k) (ys : List Byte) (i : Nat) :
    byteAt (xs ++ ys) (k + i) = byteAt ys i := by
  rw [byteAt, List.getD_append_right _ _ _ _ (by omega), h, Nat.add_sub_cancel_left, byteAt]

theorem byteAt_append_left {xs : List Byte} {i : Nat} (h : i < xs.length) (ys : List Byte) :
    byteAt (xs ++ ys) i = byteAt xs i := List.getD_append _ _ _ _ h

theorem byteAt_append_zeros (xs : List Byte) (n i : Nat) : byteAt (xs ++ List.replicate n 0) i = byteAt xs i := by
  rcases Nat.lt_or_ge i xs.length with hin | hpast
  · exact byteAt_append_left hin _
  · obtain ⟨j, rfl⟩ := Nat.exists_eq_add_of_le hpast
    rw [byteAt_append_right rfl, byteAt, byteAt, List.getD_eq_default _ _ hpast, List.getD_eq_getElem?_getD,
      List.getElem?_getD_replicate_default_eq]

theorem byteAt_take {xs : List Byte} {n i : Nat} (h : i < n) : byteAt (xs.take n) i = byteAt xs i := by
  simp [byteAt, List.getElem?_take_of_lt h]

/-- R183: place i of the pending list carries the number of the call pending there, or 0. -/
theorem byteAt_pendingPlaces (s : State) {i : Nat} (hi : i < 8) :
    byteAt (pendingPlaces s.calls) i
      = ((s.calls.pendingList[i]?.bind (callAt s ·)).map fun c => byteOf c.number).getD 0 := by
  rw [pendingPlaces, byteAt_take hi, byteAt_append_zeros, byteAt, pendingNumbers, List.getD_eq_getElem?_getD,
    List.getElem?_map]
  cases s.calls.pendingList[i]? with
  | none => rfl
  | some e =>
    simp only [Option.map_some, Option.bind_some, Option.getD_some, callAt]
    cases s.calls.table[e] <;> rfl

theorem byteAt_callsBytes_count (s : State) : byteAt (callsBytes s) 130 = byteOf s.calls.pendingList.length := by
  rw [callsBytes_eq]
  exact byteAt_append_right (length_callEntryBytes s) _ 0

theorem byteAt_callsBytes_pending (s : State) {i : Nat} (hi : i < 8) :
    byteAt (callsBytes s) (131 + i) = byteAt (pendingPlaces s.calls) i := by
  rw [callsBytes_eq, show 131 + i = 130 + (1 + i) by omega, byteAt_append_right (length_callEntryBytes s),
    byteAt_append_right (k := 1) rfl, byteAt_append_left (by rwa [length_pendingPlaces])]

theorem drop_callsBytes_clock (s : State) : (callsBytes s).drop 139 = clockBytes s.calls := by
  have hbefore : (callEntryBytes s ++ ([byteOf s.calls.pendingList.length] ++ pendingPlaces s.calls)).length = 139 := by
    simp [length_callEntryBytes, length_pendingPlaces]
  rw [callsBytes_eq, ← List.append_assoc [_], ← List.append_assoc, List.drop_left' hbefore]

theorem zonesAndCallsRead : Parts.ZonesAndCallsRead := by
  intro s tag left
  have hleft : ∀ t : Timer, left t = secondsLeft s.now t := fun t => by cases t <;> rfl
  refine ⟨fun b hreq => ?zone, fun hreq => ?calls⟩
  case zone =>
    have hexec := exec_readZone_of_requested hreq
    refine ⟨fun hb => ?noZone, ?record⟩
    case noZone => rwa [readZoneOwner_noZone _ hb] at hexec
    case record =>
      rintro z rfl
      rw [readZoneOwner_zone, zoneBytes_dropHead] at hexec
      intro r entries
      have hentries : (r.devices.flatMap fun d => [d.number, conditionCode d.condition]) = entries :=
        List.flatMap_congr fun d _ => by rcases d with ⟨_, _ | ⟨_ | _⟩ | _ | _⟩ <;> rfl
      refine ⟨?reply, (length_flatMap_of_width (w := 2) (fun _ => rfl) _).trans (Nat.mul_comm _ _)⟩
      case reply =>
        simp only [zoneBytes, nat16_eq, ← hleft, List.append_assoc] at hexec
        simp only [DoneWith, ← hentries, List.append_assoc]
        exact hexec
  case calls =>
    have hexec := exec_readCalls_of_requested hreq
    rw [readCallsOwner, callsBytes_dropHead] at hexec
    refine ⟨callsBytes s, hexec, length_callsBytes s, fun e he => ?free, fun e c he => ?held, ?count, fun i hi => ?place,
      ?clock⟩
    case free => rw [callsBytes_entry, he, callBytes]
    case held => rw [callsBytes_entry, he, callBytes, hleft]
    case count => exact byteAt_callsBytes_count s
    case place =>
      rw [byteAt_callsBytes_pending s hi, byteAt_pendingPlaces s hi]
      cases s.calls.pendingList[i]?.bind (callAt s ·) <;> rfl
    case clock =>
      rw [drop_callsBytes_clock, clockBytes, nat16_eq]
      rfl

/-- Settles O58, by each owner's bytes laid out as the statement says. -/
theorem statusZonesCallsRead : Obligations.StatusZonesCallsRead := ⟨statusRead, zonesAndCallsRead⟩

end Sys2Proof.Machine
end

section
/-! A record joins the log (R186) and its EVENT frame is filed in CONSOLE-TX or dropped without a trace (R187). -/

namespace Sys2Proof.Machine

/-! ### The ring -/

theorem loggedIn_below_limit {g : LogState} (r : EventRecord) (h : g.ring.length < 256) :
    (loggedIn g r).ring = g.ring ++ [r] ∧ (loggedIn g r).removed = g.removed := by
  have hnone : g.ring.length + 1 - 256 = 0 := by omega
  refine ⟨?ring, ?removed⟩
  case ring => rw [loggedIn_ring, hnone, List.drop_zero]
  case removed => simp [loggedIn, h]

theorem loggedIn_at_limit {g : LogState} (r : EventRecord) (h : g.ring.length = 256) :
    (loggedIn g r).ring = g.ring.tail ++ [r] ∧ (loggedIn g r).removed = true := by
  have hone : g.ring.length + 1 - 256 = 1 := by omega
  refine ⟨?ring, ?removed⟩
  case ring => rw [loggedIn_ring, hone, List.drop_append_of_le_length (by omega), List.drop_one]
  case removed => simp [loggedIn, h]

/-! ### The EVENT frame -/

theorem storedSize_mkFrame (kind station : Byte) (body : List Byte) :
    storedSize (mkFrame kind station body) = body.length + 9 := by
  simp [storedSize, mkFrame]

theorem length_recordBytes (r : EventRecord) : (recordBytes r).length = 12 := rfl

theorem hasRoom_eventFrame {t : Tables} {l : LinkState} {q : QueueId} (r : EventRecord) :
    hasRoom t l q (eventFrame t r) = true ↔ 21 ≤ freeBytes t l q := by
  simp only [hasRoom, eventFrame, storedSize_mkFrame, length_recordBytes, decide_eq_true_eq]

theorem eventOffered_room {s : State} (r : EventRecord) (h : 21 ≤ freeBytes s.tables s.links .consoleTx) :
    (eventOffered s r).queues[QueueId.consoleTx.ix] =
      { s.links.queues[QueueId.consoleTx.ix] with
        frames := s.links.queues[QueueId.consoleTx.ix].frames ++ [eventFrame s.tables r] } := by
  have hroom := (hasRoom_eventFrame r).mpr h
  rw [eventOffered]
  cases hfile : tryFile s.tables s.now .consoleTx (eventFrame s.tables r) s.links with
  | none => simp [tryFile_none.mp hfile] at hroom
  | some l =>
    obtain ⟨-, hqueue, -⟩ := tryFile_some hfile
    exact hqueue

theorem eventOffered_no_room {s : State} (r : EventRecord) (h : freeBytes s.tables s.links .consoleTx < 21) :
    eventOffered s r = s.links := by
  have hroom : hasRoom s.tables s.links .consoleTx (eventFrame s.tables r) = false :=
    Bool.eq_false_iff.mpr fun hr => Nat.not_le.mpr h ((hasRoom_eventFrame r).mp hr)
  rw [eventOffered, tryFile_none.mpr hroom, Option.getD_none]

/-- Settles O11, by the ring below its limit and at it, and by CONSOLE-TX with room for the 21 bytes an EVENT frame
occupies and without. -/
theorem recordWritten : Obligations.RecordWritten := by
  intro k subject d0 d1 s r t q
  have hlog : t.log = loggedIn s.log r := writeRecord_log k subject d0 d1 s
  have hlinks : t.links = eventOffered s r := writeRecord_links k subject d0 d1 s
  rw [hlog, hlinks]
  refine ⟨writeRecord_onlyTouches k subject d0 d1 s, ?next, ?below, ?full, ?filed, ?dropped⟩
  case next => rw [loggedIn_next, nextSeq]
  case below => exact loggedIn_below_limit r
  case full => exact loggedIn_at_limit r
  case filed => exact eventOffered_room r
  case dropped => exact eventOffered_no_room r

end Sys2Proof.Machine
end


section
/-! The moves the Safety Curtain Governor is made of, more finely than `CurtainClosed`: no operation but the acceptance of
CURTAIN-RAISE energises a line (R72), the position stays within 0–N (R76), ALARM joins the drop-demand set in `addAlarm`
alone (R78), of the Phase Controller only curtain-test validity is changed (R98), and of the Effect Unit only the mark of a
notice due. -/

namespace Sys2Proof.Machine

/-- What every change of the governor's state keeps, under tables `T`: no line is energised, the position stays within
0–N, and ALARM is a demand as it was. -/
structure GovernorMove (T : Tables) (old new : Curtain) : Prop where
  hold : new.holdDrive = true → old.holdDrive = true
  permit : new.raisePermit = true → old.raisePermit = true
  position : old.position ≤ T.curtain.travel.toNat → new.position ≤ T.curtain.travel.toNat
  alarm : new.demands.alarm = old.demands.alarm

/-- A property kept by the moves of the governor under tables `T`; by those it does not speak of it is kept as it stands. -/
structure GovernorClosed (T : Tables) (P : State → Prop) : Prop extends RecordClosed P where
  tables : ∀ {s}, P s → s.tables = T
  curtain : ∀ {s} x, GovernorMove T s.curtain x → P s → P (s.withCurtain x) := by exact fun _ _ h => h
  testValid : ∀ {s} b, P s → P (s.withPhase { s.phase with testValid := b }) := by exact fun _ h => h
  notice : ∀ {s}, P s → P (noticeIsDue s) := by exact fun h => h

namespace GovernorClosed

variable {T : Tables} {P : State → Prop} (hP : GovernorClosed T P) {rep : Reporter} (hr : ∀ r {s}, P s → P (rep r s))
  {s : State}
include hP

theorem updCurtain {f : Curtain → Curtain} (hf : GovernorMove T s.curtain (f s.curtain)) (h : P s) : P (updCurtain f s) :=
  hP.curtain _ hf h

theorem toState (st : CurtainState) (h : P s) : P (toState st s) :=
  ite_keeps h (hP.record _ _ _ _ (hP.notice (hP.curtain _ ⟨id, id, id, rfl⟩ h)))

theorem closeTest (pass : Bool) (total : Option Nat) (h : P s) : P (closeTest pass total s) := by
  unfold Machine.closeTest
  split
  · exact hP.record _ _ _ _ (hP.testValid _ (hP.curtain _ ⟨id, id, id, rfl⟩ h))
  · exact h
  · exact h

theorem closeTestAtIn (h : P s) : P (closeTestAtIn s) := hP.closeTest _ _ h

theorem updTest (f : TestRecord → TestRecord) (h : P s) : P (updTest f s) := by
  unfold Machine.updTest
  split
  · exact hP.curtain _ ⟨id, id, id, rfl⟩ h
  · exact h
  · exact h

theorem noteFirstMove (h : P s) : P (noteFirstMove s) := hP.updTest _ h

theorem fallBegins (h : P s) : P (fallBegins s) := hP.curtain _ ⟨id, id, id, rfl⟩ h

theorem becomeSlowing (h : P s) : P (becomeSlowing s) := hP.toState _ (hP.curtain _ ⟨id, id, id, rfl⟩ h)

theorem enterSlowing (h : P s) : P (enterSlowing s) := ite_keeps (hP.becomeSlowing h) h

theorem takeReference (h : P s) : P (takeReference s) := hP.curtain _ ⟨id, id, id, rfl⟩ h

include hr

theorem recordFault (f : CurtainFault) (h : P s) : P (recordFault rep f s) :=
  ite_keeps h (hr _ (hP.record _ _ _ _ (hP.curtain _ ⟨id, id, id, rfl⟩ h)))

theorem referenceAt {p : Nat} (hp : p ≤ T.curtain.travel.toNat) (h : P s) : P (referenceAt rep p s) :=
  hP.curtain _ ⟨id, id, fun _ => hp, rfl⟩ (ite_keeps (hP.recordFault hr _ h) h)

theorem referenceAtTravel (h : P s) : P (Machine.referenceAt rep s.tables.curtain.travel.toNat s) :=
  hP.referenceAt hr (by rw [hP.tables h]) h

theorem arriveIn (h : P s) : P (arriveIn rep s) :=
  hr _ (hP.toState _ (hP.closeTestAtIn (hP.curtain _ ⟨nofun, nofun, id, rfl⟩ (hP.referenceAt hr (Nat.zero_le _) h))))

theorem arriveOut (h : P s) : P (arriveOut rep s) :=
  hr _ (hP.toState _ (hP.curtain _ ⟨id, nofun, id, rfl⟩ (hP.referenceAtTravel hr h)))

theorem compareSwitch (asserts : Bool) (h : P s) : P (compareSwitch rep asserts s) := ite_keeps (hP.recordFault hr _ h) h

theorem slowZoneTest (asserts : Bool) (h : P s) : P (slowZoneTest rep asserts s) :=
  hP.enterSlowing (hP.compareSwitch hr _ h)

theorem enterDescending (h : P s) : P (enterDescending rep s) :=
  hP.enterSlowing (hP.toState _ (hP.compareSwitch hr _ h))

theorem releaseFromOut (h : P s) : P (releaseFromOut rep s) :=
  hP.enterDescending hr (hP.fallBegins (hP.curtain _ ⟨nofun, id, id, rfl⟩ h))

theorem abortRaise (h : P s) : P (abortRaise rep s) := by
  have hoff : P (Machine.updCurtain (fun c => { c with raisePermit := false, holdDrive := false, raiseTimer := none }) s) :=
    hP.curtain _ ⟨nofun, nofun, id, rfl⟩ h
  exact ite_keeps (hP.arriveIn hr hoff) (hP.enterDescending hr (hP.fallBegins hoff))

theorem demandTaken (h : P s) : P (demandTaken rep s) := by
  unfold Machine.demandTaken
  split
  · exact hP.releaseFromOut hr h
  · exact hP.abortRaise hr h
  all_goals exact h

theorem demandJoins {d : Demand} (hd : P (Machine.updCurtain (fun c => { c with demands := c.demands.insert d }) s)) :
    P (addDemand rep d s) :=
  ite_keeps hd (hP.demandTaken hr hd)

omit hP hr in
theorem insert_move (T : Tables) {d : Demand} (hd : d ≠ .alarm) (c : Curtain) :
    GovernorMove T c { c with demands := c.demands.insert d } :=
  ⟨id, id, id, by cases d <;> first | rfl | exact absurd rfl hd⟩

theorem addDemand {d : Demand} (hd : d ≠ .alarm) (h : P s) : P (addDemand rep d s) :=
  hP.demandJoins hr (hP.curtain _ (insert_move T hd _) h)

/-- ALARM joins the set: the one move of the governor's that changes it. -/
theorem addAlarm (ha : ∀ {s}, P s → P (Machine.updCurtain (fun c => { c with demands := c.demands.insert .alarm }) s))
    (h : P s) : P (addAlarm rep s) := by
  have hjoined := hP.demandJoins hr (ha (hP.closeTest false none h))
  exact ite_keeps h (ite_keeps (hr _ hjoined) hjoined)

theorem limitsConflict (h : P s) : P (limitsConflict rep s) :=
  hP.toState _ (hP.curtain _ ⟨nofun, nofun, id, rfl⟩ (hP.recordFault hr _ h))

theorem raiseFails (h : P s) : P (raiseFails rep s) :=
  hP.abortRaise hr (hP.curtain _ (insert_move T (by decide) _) (hP.recordFault hr _ h))

theorem limitInTaken (h : P s) : P (limitInTaken rep s) :=
  ite_keeps (hP.referenceAt hr (Nat.zero_le _) h) (hP.arriveIn hr h)

theorem releaseThroughOut (h : P s) : P (releaseThroughOut rep s) :=
  hP.releaseFromOut hr (hP.toState _ (hP.referenceAtTravel hr h))

theorem limitOutTaken (h : P s) : P (limitOutTaken rep s) := by
  have hreferenced := hP.referenceAtTravel hr h
  have hwindow : P (Machine.updCurtain (fun c => { c with window := freshWindow })
      (Machine.referenceAt rep s.tables.curtain.travel.toNat s)) := hP.curtain _ ⟨id, id, id, rfl⟩ hreferenced
  unfold Machine.limitOutTaken
  split
  next => exact hP.arriveOut hr h
  next => exact hreferenced
  next => exact hwindow
  next => exact hwindow
  next => exact hwindow
  next => exact hP.releaseThroughOut hr h
  next => exact hP.releaseThroughOut hr h

theorem judgeMain (v : Nat) (h : P s) : P (judgeMain rep v s) := by
  have hnoted (f g : TestRecord → TestRecord) := hP.updTest g (hP.updTest f h)
  have hover (f g : TestRecord → TestRecord) :=
    ite_keeps (c := s.tables.curtain.vmax.toNat < v) (hP.recordFault hr .overspeed (hnoted f g)) (hnoted f g)
  exact ite_keeps (hP.updTest _ h) (ite_keeps (hP.recordFault hr _ (hover _ _)) (hover _ _))

theorem judgeSlow (v : Nat) (h : P s) : P (judgeSlow rep v s) := by
  unfold Machine.judgeSlow
  split
  · exact h
  · exact ite_keeps (ite_keeps (hP.recordFault hr _ (hP.updTest _ h)) (hP.updTest _ h)) h

theorem windowEnd (reference wraps : Nat) (h : P s) : P (windowEnd rep reference wraps s) := by
  have hended := hP.curtain { s.curtain with
    window := ⟨0, some (s.curtain.capture, 0), min 3 (s.curtain.window.completed + 1)⟩
    stallTimer := afterMs s s.tables.curtain.stallLimit.toNat } ⟨id, id, id, rfl⟩ h
  exact ite_keeps (hP.judgeSlow hr _ hended) (hP.judgeMain hr _ hended)

theorem countWindow (h : P s) : P (countWindow rep s) := by
  unfold Machine.countWindow
  split
  · exact hP.takeReference h
  · exact ite_keeps (hP.curtain _ ⟨id, id, id, rfl⟩ h) (hP.windowEnd hr _ _ h)

theorem driftTest (h : P s) : P (driftTest rep s) := ite_keeps (hP.recordFault hr _ h) h

theorem leaveStalled (h : P s) : P (leaveStalled rep s) := by
  have hcompared := hP.compareSwitch hr false h
  exact ite_keeps (hP.toState _ hcompared) (ite_keeps (hP.becomeSlowing hcompared) (hP.toState _ hcompared))

theorem downCount (h : P s) : P (downCount rep s) := by
  have hdown := hP.curtain { s.curtain with position := s.curtain.position - 1 }
    ⟨id, id, (Nat.sub_le _ _).trans, rfl⟩ h
  have hmoving := hP.curtain { { s.curtain with position := s.curtain.position - 1 } with startTimer := none }
    ⟨id, id, id, rfl⟩ hdown
  refine ite_keeps hdown ?_
  split
  · exact hP.enterDescending hr (hP.takeReference (hP.curtain _ ⟨id, id, id, rfl⟩ hdown))
  · exact hP.slowZoneTest hr _ (hP.countWindow hr (hP.noteFirstMove hmoving))
  · exact hP.slowZoneTest hr _ (hP.countWindow hr (hP.noteFirstMove hmoving))
  · exact hP.leaveStalled hr (hP.takeReference (hP.noteFirstMove hmoving))
  · exact hP.driftTest hr hdown
  · exact hdown
  · exact hdown

theorem upCount (h : P s) : P (upCount rep s) := by
  have hup := hP.curtain { s.curtain with position := if s.curtain.position < s.tables.curtain.travel.toNat
    then s.curtain.position + 1 else s.curtain.position }
    ⟨id, id, fun hpos => by rw [hP.tables h]; dsimp only; split <;> omega, rfl⟩ h
  refine ite_keeps hup ?_
  split
  · exact hP.curtain _ ⟨id, id, id, rfl⟩ hup
  · exact hP.curtain _ ⟨id, id, id, rfl⟩ hup
  · exact hP.curtain _ ⟨id, id, id, rfl⟩ hup
  · exact hP.curtain _ ⟨id, id, id, rfl⟩ hup
  · exact hP.driftTest hr hup
  · exact hup
  · exact hup

theorem illegalCount (h : P s) : P (illegalCount rep s) := hP.recordFault hr _ (hP.curtain _ ⟨id, id, id, rfl⟩ h)

end GovernorClosed

end Sys2Proof.Machine
end


section
/-! What the commands can do, said once: a property kept by the operations of the governor, of the Call Sequencer and of
the Zone Monitor, and by the few moves of the queues, the levels and the timers, is kept by every command but the ten that
own a piece of state (R4, R14, R22, R25, R28, R29, R72, R136, R181). -/

namespace Sys2Proof.Machine

/-! ### The hand-over -/

/-- A property kept by the moves an alarm's consequences are made of, with the delivery to the governor as one
operation. -/
structure ReachClosed (P : State → Prop) : Prop extends CallsClosed P where
  stream : ∀ {s} x, P s → P (s.withStream x)
  monitor : ∀ {s} x, P s → P (s.withMonitor x)
  effects : ∀ {s} x, P s → P (s.withEffects x)
  alarmLeaves : ∀ {s}, P s → P (s.withCurtain { s.curtain with demands := { s.curtain.demands with alarm := false } })
  deliverCurtain : ∀ {s}, P s → P (deliverCurtain s)

theorem effectsClosed_of_calls {P : State → Prop} (hP : CallsClosed P) (heffects : ∀ {s} x, P s → P (s.withEffects x))
    (hstream : ∀ {s} x, P s → P (s.withStream x)) : EffectsClosed P :=
  { hP.toRecordClosed with
    effects := heffects
    stream := hstream
    askEvacuation := askEvacuation_keeps hP
    askStaff := askStaff_keeps hP
    endCall := endCall_keeps hP }

/-- The reporter inside a delivery to the governor. -/
theorem reportInDelivery_keeps {P : State → Prop} (hz : ZonesClosed P) (he : EffectsClosed P) (r : CurtainReport)
    {s : State} (h : P s) : P (report64 handOverInDelivery r s) :=
  report64_keeps hz (fun b _ h => handOverInDelivery_keeps he b h) r h

namespace ReachClosed

variable {P : State → Prop} (hP : ReachClosed P) {s : State}
include hP

theorem toZones : ZonesClosed P := { hP.toRecordClosed with monitor := hP.monitor }

theorem toEffects : EffectsClosed P := effectsClosed_of_calls hP.toCallsClosed hP.effects hP.stream

theorem handOverInRise (b : Bool) (h : P s) : P (handOverInRise b s) :=
  handOverWith_keeps hP.toEffects (fun h => h) hP.deliverCurtain b h

theorem riseToEvacuate (h : P s) : P (riseToEvacuate s) :=
  closeWindows_keeps hP.toZones (fun b _ h => hP.handOverInRise b h) _
    (suppressOrdinary_keeps hP.toCallsClosed (endCall_keeps hP.toCallsClosed _ _ h))

theorem handOver (b : Bool) (h : P s) : P (handOver b s) :=
  handOverWith_keeps hP.toEffects hP.riseToEvacuate hP.deliverCurtain b h

theorem reportCurtain (r : CurtainReport) (h : P s) : P (reportCurtain r s) :=
  report64_keeps hP.toZones (fun b _ h => hP.handOver b h) r h

theorem endAct (h : P s) : P (endAct s) :=
  have hsettled := settle_keeps hP.toCallsClosed h
  ite_keeps (hP.offer _ _ (hP.effects _ hsettled)) hsettled

theorem enterState (z : ZoneId) (st : ZoneState) (h : P s) : P (enterState Machine.handOver z st s) :=
  enterState_keeps hP.toZones (fun b _ h => hP.handOver b h) z st h

theorem endInvestigation (h : P s) : P (endInvestigation Machine.handOver s) :=
  endInvestigation_keeps hP.toZones (fun b _ h => hP.handOver b h) h

theorem closeWindow (cause : CloseCause) (z : ZoneId) (h : P s) : P (closeWindow Machine.handOver cause s z) :=
  closeWindow_keeps hP.toZones (fun b _ h => hP.handOver b h) cause z h

/-! ### Alarm reset -/

theorem quietZone (z : ZoneId) (h : P s) : P (quietZone s z) := ite_keeps h (hP.record _ _ _ _ (hP.monitor _ h))

theorem deliverEmpty (old : EffectSet) (h : P s) : P (deliverEmpty old s) := by
  have hcleared : P (updCurtain (fun c => { c with demands := { c.demands with alarm := false } }) s) :=
    hP.alarmLeaves h
  exact endCall_keeps hP.toCallsClosed _ _ (ite_keeps (markGuards_keeps hP.toEffects hcleared) hcleared)

theorem alarmReset (h : P s) : P (alarmReset s) :=
  hP.record _ _ _ _ (recomputeStage_keeps hP.toEffects (fun h => h) (endCall_keeps hP.toCallsClosed _ _
    (hP.deliverEmpty _ (hP.effects _ (foldl_keeps (fun _ z hx => hP.quietZone z hx) _ _ h)))))

/-! ### Phase reactions -/

theorem zoneTakesTables (z : ZoneId) (h : P s) : P (zoneTakesTables s z) := by
  have hquiet := updZone_keeps hP.toZones z (fun r => { leaveInvestigation r with
    state := .quiet, devices := [], knock := none }) h
  have hhanded := hP.handOver false
    (hP.record .zoneState (zoneByte z) (zoneAt s z).state.code ZoneState.quiet.code hquiet)
  exact ite_keeps h (ite_keeps (hP.handOver _ (ite_keeps hquiet hhanded)) (ite_keeps hquiet hhanded))

theorem zonesFollowPhase (target : Phase) (h : P s) : P (zonesFollowPhase target s) := by
  have hended : P (if permitsDelay target then s else Machine.endInvestigation Machine.handOver s) :=
    ite_keeps h (hP.endInvestigation h)
  exact ite_keeps hended (closeWindows_keeps hP.toZones (fun b _ h => hP.handOver b h) _ hended)

theorem callsFollowPhase (old target : Phase) (length : Nat) (h : P s) : P (callsFollowPhase old target length s) := by
  have hsuppressed : P (if permitsCalls target then s else suppressOrdinary s) :=
    ite_keeps h (suppressOrdinary_keeps hP.toCallsClosed h)
  have hstopped := ite_keeps (c := old = .interval) (stopInterval_keeps hP.toCallsClosed hsuppressed) hsuppressed
  exact ite_keeps (startInterval_keeps hP.toCallsClosed _ hstopped) hstopped

/-! ### The panel link -/

theorem setLink (l : PanelLink) (h : P s) : P (setLink l s) := hP.handOver _ (hP.record _ _ _ _ (hP.monitor _ h))

theorem panelBeat (h : P s) : P (panelBeat s) := ite_keeps (hP.monitor _ h) (hP.setLink _ (hP.monitor _ h))

theorem heartbeatOut (h : P s) : P (heartbeatOut s) :=
  hP.endAct (hP.endInvestigation (hP.setLink _ (hP.monitor _ h)))

end ReachClosed

/-! ### The operations of the commands, block by block -/

/-- A property kept by the queues, the level stream, the levels and the timers of the link. -/
structure PlainClosed (P : State → Prop) : Prop extends RecordClosed P where
  dropHead : ∀ {s} q, P s → P (dropHead q s) := by exact fun _ h => h
  badLatch : ∀ {s} v, P s → P (s.withLinks { s.links with badLatch := v }) := by exact fun _ h => h
  tx : ∀ {s} v, P s → P (s.withLinks { s.links with tx := v }) := by exact fun _ h => h
  lines : ∀ {s} x, P s → P (s.withLines x) := by exact fun _ h => h
  stream : ∀ {s} x, P s → P (s.withStream x) := by exact fun _ h => h
  channels : ∀ {s} c t, P s → P (s.withLevels { s.levels with channels := c, stepTimer := t }) := by exact fun _ _ h => h
  restart : ∀ {s} x, P s → P (s.withRestart x) := by exact fun _ h => h
  noticeTimer : ∀ {s} t, P s → P (s.withEffects { s.effects with noticeTimer := t }) := by exact fun _ h => h
  statusTimer : ∀ {s} t, P s → P (s.withLog { s.log with statusTimer := t }) := by exact fun _ h => h

/-- A property kept by the governor's commands. -/
structure GovernorOps (P : State → Prop) : Prop where
  encoderSample : ∀ {s} a b, P s → P (encoderSample a b s)
  limitInAsserts : ∀ {s}, P s → P (limitInAsserts s)
  limitOutAsserts : ∀ {s}, P s → P (limitOutAsserts s)
  limitReleases : ∀ {s} l, P s → P (limitReleases l s)
  slowSwAsserts : ∀ {s}, P s → P (slowSwAsserts s)
  stageReleaseAsserts : ∀ {s}, P s → P (stageReleaseAsserts s)
  takeLimits : ∀ {s}, P s → P (takeLimits s)
  captureWraps : ∀ {s}, P s → P (captureWraps s)
  startWindowOut : ∀ {s}, P s → P (startWindowOut s)
  stallOut : ∀ {s}, P s → P (stallOut s)
  dropOut : ∀ {s}, P s → P (dropOut s)
  raiseOut : ∀ {s}, P s → P (raiseOut s)
  curtainReleaseOwner : ∀ {s} args, P s → P (curtainReleaseOwner args s).1
  curtainTestOwner : ∀ {s} args, P s → P (curtainTestOwner args s).1

/-- A property kept by the Call Sequencer's commands. -/
structure SequencerOps (P : State → Prop) : Prop where
  takeCallDone : ∀ {s} f, P s → P (takeCallDone f s)
  startCallOwner : ∀ {s} args, P s → P (startCallOwner args s).1
  cancelCallOwner : ∀ {s} args, P s → P (cancelCallOwner args s).1
  extendIntervalOwner : ∀ {s} args, P s → P (extendIntervalOwner args s).1
  timedStepEnds : ∀ {s} kind e, P s → P (timedStepEnds kind e s)
  messageLimit : ∀ {s} e, P s → P (messageLimit e s)
  flashTurn : ∀ {s} e, P s → P (flashTurn e s)
  deadlineOut : ∀ {s} e, P s → P (deadlineOut e s)
  clockTick : ∀ {s}, P s → P (clockTick s)

/-- A property kept by the Zone Monitor's commands, but for ALARM-RESET. -/
structure MonitorOps (P : State → Prop) : Prop where
  takeReport : ∀ {s} body, P s → P (takeReport handOver body s)
  panelBeat : ∀ {s}, P s → P (panelBeat s)
  heartbeatLost : ∀ {s}, P s →
    P (endInvestigation handOver (setLink .lost (s.withMonitor { s.monitor with heartbeat := none })))
  panelFire : ∀ {s}, P s → P (panelFire handOver s)
  investigationFails : ∀ {s} z, (zoneAt s z).state = .investigating → P s → P (enterState handOver z .alarm s)
  windowCloses : ∀ {s} z cause, P s → P (closeWindow handOver cause s z)
  alarmAckOwner : ∀ {s} args, P s → P (alarmAckOwner args s).1
  alarmCancelOwner : ∀ {s} args, P s → P (alarmCancelOwner args s).1
  isolateZoneOwner : ∀ {s} args, P s → P (isolateZoneOwner args s).1

/-- A property kept by the commands that own no piece of state, operation by operation, and by the end of an act. -/
structure CommandClosed (P : State → Prop) : Prop extends PlainClosed P, GovernorOps P, SequencerOps P, MonitorOps P where
  endAct : ∀ {s}, P s → P (endAct s)

theorem GovernorOps.and {P Q : State → Prop} (hP : GovernorOps P) (hQ : GovernorOps Q) :
    GovernorOps fun s => P s ∧ Q s where
  encoderSample a b h := ⟨hP.encoderSample a b h.1, hQ.encoderSample a b h.2⟩
  limitInAsserts h := ⟨hP.limitInAsserts h.1, hQ.limitInAsserts h.2⟩
  limitOutAsserts h := ⟨hP.limitOutAsserts h.1, hQ.limitOutAsserts h.2⟩
  limitReleases l h := ⟨hP.limitReleases l h.1, hQ.limitReleases l h.2⟩
  slowSwAsserts h := ⟨hP.slowSwAsserts h.1, hQ.slowSwAsserts h.2⟩
  stageReleaseAsserts h := ⟨hP.stageReleaseAsserts h.1, hQ.stageReleaseAsserts h.2⟩
  takeLimits h := ⟨hP.takeLimits h.1, hQ.takeLimits h.2⟩
  captureWraps h := ⟨hP.captureWraps h.1, hQ.captureWraps h.2⟩
  startWindowOut h := ⟨hP.startWindowOut h.1, hQ.startWindowOut h.2⟩
  stallOut h := ⟨hP.stallOut h.1, hQ.stallOut h.2⟩
  dropOut h := ⟨hP.dropOut h.1, hQ.dropOut h.2⟩
  raiseOut h := ⟨hP.raiseOut h.1, hQ.raiseOut h.2⟩
  curtainReleaseOwner args h := ⟨hP.curtainReleaseOwner args h.1, hQ.curtainReleaseOwner args h.2⟩
  curtainTestOwner args h := ⟨hP.curtainTestOwner args h.1, hQ.curtainTestOwner args h.2⟩

theorem ReachClosed.and {P Q : State → Prop} (hP : ReachClosed P) (hQ : ReachClosed Q) :
    ReachClosed fun s => P s ∧ Q s where
  record k a b c h := ⟨hP.record k a b c h.1, hQ.record k a b c h.2⟩
  offer q f h := ⟨hP.offer q f h.1, hQ.offer q f h.2⟩
  calls x h := ⟨hP.calls x h.1, hQ.calls x h.2⟩
  stream x h := ⟨hP.stream x h.1, hQ.stream x h.2⟩
  monitor x h := ⟨hP.monitor x h.1, hQ.monitor x h.2⟩
  effects x h := ⟨hP.effects x h.1, hQ.effects x h.2⟩
  alarmLeaves h := ⟨hP.alarmLeaves h.1, hQ.alarmLeaves h.2⟩
  deliverCurtain h := ⟨hP.deliverCurtain h.1, hQ.deliverCurtain h.2⟩

/-! ### From moves to operations -/

namespace GovernorClosed

variable {T : Tables} {P : State → Prop} (hP : GovernorClosed T P) (hr : ∀ r {s}, P s → P (reportCurtain r s))
  (hl : ∀ {s} x, P s → P (s.withLines x)) {s : State}
include hP

theorem captureWraps (h : P s) : P (captureWraps s) := hP.curtain _ ⟨id, id, id, rfl⟩ h

include hr

theorem startWindowOut (h : P s) : P (startWindowOut s) := by
  have hstopped : P (Machine.updCurtain (fun c => { c with startTimer := none }) s) := hP.curtain _ ⟨id, id, id, rfl⟩ h
  have hstalled := hP.toState .stalled (hP.recordFault hr .startFail hstopped)
  unfold Machine.startWindowOut
  split
  · exact hP.raiseFails hr hstopped
  · exact hstalled
  · exact hstalled
  · exact hstalled
  all_goals exact hstopped

theorem stallOut (h : P s) : P (stallOut s) := by
  have hstalled : P (Machine.toState .stalled (Machine.updCurtain (fun c => { c with window := freshWindow, stallTimer := none })
      (Machine.recordFault Machine.reportCurtain .stall s))) :=
    hP.toState _ (hP.curtain _ ⟨id, id, id, rfl⟩ (hP.recordFault hr _ h))
  unfold Machine.stallOut
  split
  · exact hstalled
  · exact hstalled
  all_goals exact hP.curtain _ ⟨id, id, id, rfl⟩ h

theorem dropOut (h : P s) : P (dropOut s) :=
  hP.closeTest _ _ (hP.recordFault hr _ (hP.curtain _ ⟨id, id, id, rfl⟩ h))

theorem raiseOut (h : P s) : P (raiseOut s) := by
  have hstopped : P (Machine.updCurtain (fun c => { c with raiseTimer := none }) s) := hP.curtain _ ⟨id, id, id, rfl⟩ h
  exact ite_keeps (hP.raiseFails hr hstopped) hstopped

theorem curtainReleaseOwner (args : List Byte) (h : P s) : P (curtainReleaseOwner args s).1 := by
  unfold Machine.curtainReleaseOwner
  split
  · exact hP.addDemand hr (by decide) h
  · exact hP.addDemand hr (by decide) h
  all_goals exact h

theorem curtainTestOwner (args : List Byte) (h : P s) : P (curtainTestOwner args s).1 := by
  have hopened : P (openTest (Machine.addDemand Machine.reportCurtain .test s)) :=
    hP.curtain _ ⟨id, id, id, rfl⟩ (hP.addDemand hr (by decide) h)
  unfold Machine.curtainTestOwner
  split
  · exact h
  · split
    · exact h
    · exact hopened

theorem takeLimits (h : P s) : P (takeLimits s) :=
  ite_keeps (hP.limitsConflict hr h) (ite_keeps (hP.limitInTaken hr h) (ite_keeps (hP.limitOutTaken hr h) h))

include hl

theorem encoderSample (a b : Bool) (h : P s) : P (encoderSample a b s) := by
  have hlines := hl { s.lines with encA := a, encB := b } h
  exact ite_keeps (hP.illegalCount hr hlines)
    (ite_keeps (ite_keeps (hP.downCount hr hlines) (hP.upCount hr hlines)) hlines)

theorem limitInAsserts (h : P s) : P (limitInAsserts s) := by
  have hlines := hl { s.lines with limitIn := true } h
  exact ite_keeps (hP.limitsConflict hr hlines) (hP.limitInTaken hr hlines)

theorem limitOutAsserts (h : P s) : P (limitOutAsserts s) := by
  have hlines := hl { s.lines with limitOut := true } h
  exact ite_keeps (hP.limitsConflict hr hlines) (hP.limitOutTaken hr hlines)

theorem limitReleases (l : Limit) (h : P s) : P (limitReleases l s) := by
  have hdrop {s : State} (h : P s) : P (dropConflict s) := hP.curtain _ ⟨id, id, id, rfl⟩ h
  cases l
  · exact ite_keeps (hP.limitOutTaken hr (hdrop (hl _ h))) (hl _ h)
  · exact ite_keeps (hP.limitInTaken hr (hdrop (hl _ h))) (hl _ h)

theorem slowSwAsserts (h : P s) : P (slowSwAsserts s) := by
  have hlines := hl { s.lines with slowSw := true } h
  unfold Machine.slowSwAsserts
  split
  · exact hP.slowZoneTest hr _ hlines
  · exact hP.slowZoneTest hr _ hlines
  all_goals exact hlines

theorem stageReleaseAsserts (h : P s) : P (stageReleaseAsserts s) := by
  have hlines := hl { s.lines with stageRelease := true } h
  exact ite_keeps hlines (hP.addDemand hr (by decide) hlines)

theorem toOps : GovernorOps P where
  encoderSample a b h := hP.encoderSample hr hl a b h
  limitInAsserts h := hP.limitInAsserts hr hl h
  limitOutAsserts h := hP.limitOutAsserts hr hl h
  limitReleases l h := hP.limitReleases hr hl l h
  slowSwAsserts h := hP.slowSwAsserts hr hl h
  stageReleaseAsserts h := hP.stageReleaseAsserts hr hl h
  takeLimits h := hP.takeLimits hr h
  captureWraps h := hP.captureWraps h
  startWindowOut h := hP.startWindowOut hr h
  stallOut h := hP.stallOut hr h
  dropOut h := hP.dropOut hr h
  raiseOut h := hP.raiseOut hr h
  curtainReleaseOwner args h := hP.curtainReleaseOwner hr args h
  curtainTestOwner args h := hP.curtainTestOwner hr args h

end GovernorClosed

/-- What the Call Sequencer's own moves keep is kept by its commands. -/
theorem callsClosed_toOps {P : State → Prop} (hP : CallsClosed P) : SequencerOps P where
  takeCallDone f h := takeCallDone_keeps hP f h
  startCallOwner args h := startCallOwner_keeps hP args h
  cancelCallOwner args h := cancelCallOwner_keeps hP args h
  extendIntervalOwner args h := extendIntervalOwner_keeps hP args h
  timedStepEnds kind e h := timedStepEnds_keeps hP kind e h
  messageLimit e h := messageLimit_keeps hP e h
  flashTurn e h := flashTurn_keeps hP e h
  deadlineOut e h := deadlineOut_keeps hP e h
  clockTick h := clockTick_keeps hP h

namespace ReachClosed

variable {P : State → Prop} (hP : ReachClosed P) {s : State}
include hP

theorem alarmAckOwner (args : List Byte) (h : P s) : P (alarmAckOwner args s).1 := by
  unfold Machine.alarmAckOwner
  split
  · exact h
  · exact hP.monitor _ h

theorem alarmCancelOwner (args : List Byte) (h : P s) : P (alarmCancelOwner args s).1 := by
  unfold Machine.alarmCancelOwner
  split
  · exact h
  · split
    · exact hP.enterState _ _ (hP.monitor _ h)
    · exact h

theorem alarmResetOwner (args : List Byte) (h : P s) : P (alarmResetOwner args s).1 := by
  unfold Machine.alarmResetOwner
  split
  · exact h
  · exact hP.alarmReset h

theorem isolateZoneOwner (args : List Byte) (h : P s) : P (isolateZoneOwner args s).1 := by
  unfold Machine.isolateZoneOwner
  split
  · exact h
  · exact hP.record _ _ _ _ (hP.monitor _ h)

theorem toMonitorOps : MonitorOps P where
  takeReport body h := takeReport_keeps hP.toZones (fun b _ h => hP.handOver b h) body h
  panelBeat h := hP.panelBeat h
  heartbeatLost h := hP.endInvestigation (hP.setLink _ (hP.monitor _ h))
  panelFire h := hP.enterState _ _ h
  investigationFails z _ h := hP.enterState z _ h
  windowCloses z cause h := hP.closeWindow cause z h
  alarmAckOwner args h := hP.alarmAckOwner args h
  alarmCancelOwner args h := hP.alarmCancelOwner args h
  isolateZoneOwner args h := hP.isolateZoneOwner args h

/-- What the moves of the hand-over, the plain moves and the governor's commands keep is kept by every command that owns no
piece of state. -/
theorem toCommand (hplain : PlainClosed P) (hgovernor : GovernorOps P) : CommandClosed P :=
  { hplain, hgovernor, callsClosed_toOps hP.toCallsClosed, hP.toMonitorOps with endAct := hP.endAct }

end ReachClosed

/-- A property kept by the moves of the governor, and by every move of the other blocks that an alarm can reach, under
tables `T`. -/
structure MoveClosed (T : Tables) (P : State → Prop) : Prop extends GovernorClosed T P, CallsClosed P where
  stream : ∀ {s} x, P s → P (s.withStream x) := by exact fun _ h => h
  monitor : ∀ {s} x, P s → P (s.withMonitor x) := by exact fun _ h => h
  effects : ∀ {s} x, P s → P (s.withEffects x) := by exact fun _ h => h
  alarmDemand : ∀ {s} b, P s →
    P (s.withCurtain { s.curtain with demands := { s.curtain.demands with alarm := b } }) := by exact fun _ h => h

namespace MoveClosed

variable {T : Tables} {P : State → Prop} (hP : MoveClosed T P)
include hP

theorem toReach : ReachClosed P :=
  { hP.toCallsClosed with
    stream := hP.stream
    monitor := hP.monitor
    effects := hP.effects
    alarmLeaves := hP.alarmDemand false
    deliverCurtain := fun h => hP.toGovernorClosed.addAlarm
      (fun r _ h => reportInDelivery_keeps { hP.toRecordClosed with monitor := hP.monitor }
        (effectsClosed_of_calls hP.toCallsClosed hP.effects hP.stream) r h) (hP.alarmDemand true) h }

theorem toOps (hl : ∀ {s} x, P s → P (s.withLines x)) : GovernorOps P :=
  hP.toGovernorClosed.toOps (fun r _ h => hP.toReach.reportCurtain r h) hl

end MoveClosed

/-! ### The commands -/

/-- The ten commands that own a piece of state: the tables, the working copy, the store, the masters, the phase, staff
presence, the two lines' energising, and the leaving of ALARM. -/
def ownsState : Instr → Bool
  | .resetAsserted | .powerOn | .restartPowerOnSequence | .writeTable | .setPhase | .staffPresent | .setMaster
  | .alarmReset | .curtainRaise | .storeWriteEnd _ => true
  | _ => false

/-- Both branches answer a next state with a property. -/
theorem answers_ite {P : State → Prop} {p : Prop} [Decidable p] {a b : State} (ha : P a) (hb : P b) :
    ∃ t, (if p then (.next a : Host.Outcome State Fault Refusal) else .next b) = .next t ∧ P t := by
  split
  · exact ⟨_, rfl, ha⟩
  · exact ⟨_, rfl, hb⟩

theorem offer_of_some {s : State} {q : QueueId} {f : Frame} {l : LinkState}
    (hl : tryFile s.tables s.now q f s.links = some l) : offer q f s = s.withLinks l := by
  simp only [offer, hl]

theorem offer_of_none {s : State} {q : QueueId} {f : Frame} (hl : tryFile s.tables s.now q f s.links = none) :
    offer q f s = overflowed q f s := by
  simp only [offer, hl]

theorem readTableOwner_state (args : List Byte) (s : State) : (readTableOwner args s).1 = s := by
  unfold readTableOwner
  split
  · rfl
  · dsimp only
    split <;> rfl

theorem readZoneOwner_state (args : List Byte) (s : State) : (readZoneOwner args s).1 = s := by
  unfold readZoneOwner
  split <;> rfl

namespace PlainClosed

variable {P : State → Prop} (hP : PlainClosed P) {s : State}
include hP

theorem sendReply (tag code : Byte) (r : Reply) (h : P s) : P (sendReply tag code r s) := hP.offer _ _ h

/-- A request is taken, acted on by an owner that keeps the property, the act ended and the reply sent. -/
theorem handle (hact : ∀ {s}, P s → P (Machine.endAct s)) (code : Byte) {owner : List Byte → State → State × Reply}
    (ho : ∀ args {s}, P s → P (owner args s).1) (h : P s) : P (handle code owner s) := by
  unfold Machine.handle
  split
  · exact h
  · exact hP.sendReply _ _ _ (hact (ho _ (hP.dropHead _ h)))

theorem restartRequest (r : Request) (h : P s) : P (restartRequest r s) := by
  unfold Machine.restartRequest
  split
  · exact hP.sendReply _ _ _ h
  · exact hP.restart _ (hP.sendReply _ _ _ h)

theorem receive (p : Port) (bytes : List Byte) (h : P s) : P (receive p bytes s) := by
  have hbad (cause : Byte) : P (badFrame p cause bytes s) :=
    ite_keeps h (hP.badLatch _ (hP.record _ _ _ _ h))
  unfold Machine.receive
  split
  · exact hbad 0
  · exact hbad 1
  · exact hP.offer _ _ (hP.badLatch _ h)

theorem frameSent (p : Port) (h : P s) : P (frameSent p s) := by
  unfold Machine.frameSent
  split
  · exact hP.restart _ (hP.tx _ (hP.dropHead _ h))
  · exact h
  · exact h

theorem transmitterFree (p : Port) (h : P s) : P (transmitterFree p s) := by
  unfold Machine.transmitterFree
  split
  · exact h
  · exact hP.tx _ h
  · exact hP.tx _ h

theorem refreshUniverse (u : Nat) {s : State} (h : P s) : P (refreshUniverse s u) := by
  unfold Machine.refreshUniverse
  split
  · exact h
  · dsimp only
    split
    next hl => exact hP.stream _ (offer_of_some hl ▸ hP.offer _ _ h)
    next hl => exact offer_of_none hl ▸ hP.offer _ _ h

theorem levelStep (h : P s) : P (refreshAll (resolveAll s)) :=
  foldl_keeps (fun _ u hs => hP.refreshUniverse u hs) _ _ (hP.stream _ (hP.channels _ _ h))

theorem setFreshness (f : Freshness) (h : P s) : P (setFreshness f s) := hP.record _ _ _ _ (hP.stream _ h)

theorem consoleTimerOut (h : P s) : P (consoleTimerOut s) :=
  ite_keeps (hP.setFreshness _ (hP.stream _ h)) (hP.setFreshness _ (hP.stream _ (hP.stream _ h)))

theorem malformedLevels (body : List Byte) (h : P s) : P (malformedLevels body s) :=
  ite_keeps h (hP.record _ _ _ _ (hP.stream _ h))

theorem passRewritten (f : Frame) (first count : Nat) (h : P s) : P (passRewritten f first count s) := by
  unfold Machine.passRewritten
  split
  next hl => exact hP.stream _ (offer_of_some hl ▸ hP.offer _ _ h)
  next hl =>
    have hrefused : tryFile s.tables s.now .rackPass f s.links = none := hl
    exact offer_of_none (s := withSlots s (mapRangeVec markHeld first count s.stream.slots)) hrefused
      ▸ hP.offer _ _ (hP.stream _ h)

theorem takeWellFormed (f : Frame) (h : P s) : P (takeWellFormed f s) := by
  have hfresh {s : State} (h : P s) : P (refreshConsole s) :=
    ite_keeps (hP.stream _ h) (hP.setFreshness _ (hP.stream _ h))
  have hrun (first : Nat) (levels : List Byte) {s : State} (h : P s) : P (takeRun first levels s) :=
    hP.channels _ s.levels.stepTimer (hP.stream _ h)
  exact hP.passRewritten _ _ _ (hrun _ _ (hfresh (hP.stream _ h)))

theorem takeLevelsFrame (f : Frame) (h : P s) : P (takeLevelsFrame f s) :=
  ite_keeps (hP.malformedLevels _ h) (ite_keeps (hP.offer _ _ h) (ite_keeps (hP.takeWellFormed _ h)
    (hP.malformedLevels _ h)))

end PlainClosed

namespace CommandClosed

variable {P : State → Prop} (hP : CommandClosed P) {s : State}
include hP

theorem handle (code : Byte) {owner : List Byte → State → State × Reply} (ho : ∀ args {s}, P s → P (owner args s).1)
    (h : P s) : P (handle code owner s) := hP.toPlainClosed.handle hP.endAct code ho h

theorem alarmConfirmOwner (args : List Byte) (h : P s) : P (alarmConfirmOwner args s).1 := by
  unfold Machine.alarmConfirmOwner investigatingZone
  split
  · exact h
  next hz =>
    split at hz
    · cases hz
    · split at hz
      next hstate => exact Except.ok.inj hz ▸ hP.investigationFails _ hstate h
      next => cases hz

theorem endIsolationOwner (args : List Byte) (h : P s) : P (endIsolationOwner args s).1 := by
  unfold Machine.endIsolationOwner
  split
  · exact h
  · split
    · exact h
    · exact hP.windowCloses _ _ h

theorem ackOut (z : ZoneId) (h : P s) : P (ackOut z s) := by
  unfold Machine.ackOut
  split
  next hz =>
    simp only [Bool.and_eq_true, decide_eq_true_eq] at hz
    obtain ⟨⟨-, hstate⟩, -⟩ := hz
    exact hP.endAct (hP.investigationFails z hstate h)
  next => exact h

theorem investigationOut (z : ZoneId) (h : P s) : P (investigationOut z s) := by
  unfold Machine.investigationOut
  split
  next hz =>
    simp only [Bool.and_eq_true, decide_eq_true_eq] at hz
    exact hP.endAct (hP.investigationFails z hz.2 h)
  next => exact h

theorem windowOut (z : ZoneId) (h : P s) : P (windowOut z s) := ite_keeps (hP.endAct (hP.windowCloses _ _ h)) h

/-- Every command that owns no piece of state answers a next state and keeps the property. -/
theorem answers {c : Instr} (hc : ownsState c = false) (h : P s) : Answers c s P := by
  have hact {s : State} (h : P s) : P (Machine.endAct s) := hP.endAct h
  cases c with
  | resetAsserted | powerOn | restartPowerOnSequence | writeTable | setPhase | staffPresent | setMaster | alarmReset
  | curtainRaise | storeWriteEnd => cases hc
  | encoderTransition a b => exact ⟨_, rfl, hact (hP.encoderSample a b h)⟩
  | captureTimerWrap => exact ⟨_, rfl, hP.captureWraps h⟩
  | limitInAsserted => exact answers_ite h (hact (hP.limitInAsserts h))
  | limitOutAsserted => exact answers_ite h (hact (hP.limitOutAsserts h))
  | limitReleased l => exact ⟨_, rfl, hact (hP.limitReleases l h)⟩
  | slowSwAsserted => exact answers_ite h (hact (hP.slowSwAsserts h))
  | stageReleaseAsserted => exact answers_ite h (hact (hP.stageReleaseAsserts h))
  | panelFireAsserted => exact answers_ite h (hact (hP.panelFire (hP.lines _ h)))
  | frameArrival p bytes => exact answers_ite h (hP.toPlainClosed.receive p bytes h)
  | takeLevels =>
    simp only [Answers, exec, execTakeLevels]
    split
    · exact answers_ite (hP.toPlainClosed.takeLevelsFrame _ (hP.dropHead _ h)) h
    · exact ⟨_, rfl, h⟩
  | takeConsolePass =>
    simp only [Answers, exec, execTakeConsolePass]
    split
    · exact answers_ite h (hP.offer _ _ (hP.dropHead _ h))
    · exact ⟨_, rfl, h⟩
  | takeCallDone =>
    simp only [Answers, exec, execTakeCallDone]
    split
    · exact answers_ite (hP.takeCallDone _ (hP.dropHead _ h)) h
    · exact ⟨_, rfl, h⟩
  | takeRackReturn =>
    simp only [Answers, exec, execTakeRackReturn]
    split
    · exact answers_ite h (hP.offer _ _ (hP.dropHead _ h))
    · exact ⟨_, rfl, h⟩
  | takeZoneReport =>
    simp only [Answers, exec, execTakeZoneReport]
    split
    · exact answers_ite (hact (hP.takeReport _ (hP.dropHead _ h))) h
    · exact ⟨_, rfl, h⟩
  | takePanelBeat =>
    simp only [Answers, exec, execTakePanelBeat]
    split
    · exact answers_ite (hact (hP.panelBeat (hP.dropHead _ h))) h
    · exact ⟨_, rfl, h⟩
  | takePanelOther =>
    simp only [Answers, exec, execTakePanelOther]
    split
    · exact answers_ite h (hP.dropHead _ h)
    · exact ⟨_, rfl, h⟩
  | unknownRequest =>
    simp only [Answers, exec, execUnknownRequest]
    split
    · exact ⟨_, rfl, hP.toPlainClosed.sendReply _ _ _ (hP.dropHead _ h)⟩
    · exact ⟨_, rfl, h⟩
    · exact ⟨_, rfl, h⟩
  | readTable => exact ⟨_, rfl, hP.handle 1 (fun args s h => (readTableOwner_state args s).symm ▸ h) h⟩
  | startCall => exact ⟨_, rfl, hP.handle 6 (fun _ _ h => hP.startCallOwner _ h) h⟩
  | cancelCall => exact ⟨_, rfl, hP.handle 7 (fun _ _ h => hP.cancelCallOwner _ h) h⟩
  | extendInterval => exact ⟨_, rfl, hP.handle 8 (fun _ _ h => hP.extendIntervalOwner _ h) h⟩
  | alarmAck => exact ⟨_, rfl, hP.handle 9 (fun args _ h => hP.alarmAckOwner args h) h⟩
  | alarmConfirm => exact ⟨_, rfl, hP.handle 10 (fun args _ h => hP.alarmConfirmOwner args h) h⟩
  | alarmCancel => exact ⟨_, rfl, hP.handle 11 (fun args _ h => hP.alarmCancelOwner args h) h⟩
  | isolateZone => exact ⟨_, rfl, hP.handle 13 (fun args _ h => hP.isolateZoneOwner args h) h⟩
  | endIsolation => exact ⟨_, rfl, hP.handle 14 (fun args _ h => hP.endIsolationOwner args h) h⟩
  | curtainRelease => exact ⟨_, rfl, hP.handle 15 (fun args _ h => hP.curtainReleaseOwner args h) h⟩
  | curtainTest => exact ⟨_, rfl, hP.handle 17 (fun args _ h => hP.curtainTestOwner args h) h⟩
  | readStatus => exact ⟨_, rfl, hP.handle 18 (fun _ _ h => h) h⟩
  | readZone => exact ⟨_, rfl, hP.handle 19 (fun args s h => (readZoneOwner_state args s).symm ▸ h) h⟩
  | readCalls => exact ⟨_, rfl, hP.handle 20 (fun _ _ h => h) h⟩
  | readEvents => exact ⟨_, rfl, hP.handle 21 (fun _ _ h => h) h⟩
  | restart =>
    simp only [Answers, exec, execRestart]
    split
    · exact ⟨_, rfl, hP.toPlainClosed.restartRequest _ (hP.dropHead _ h)⟩
    · exact ⟨_, rfl, h⟩
  | levelStep => exact ⟨_, rfl, hP.toPlainClosed.levelStep h⟩
  | periodicRefresh => exact ⟨_, rfl, hP.stream _ h⟩
  | consoleTimerExpiry => exact answers_ite (hP.toPlainClosed.consoleTimerOut h) h
  | holdTimerExpiry => exact answers_ite (hP.toPlainClosed.setFreshness _ (hP.stream _ h)) h
  | heartbeatTimerExpiry => exact answers_ite (hact (hP.heartbeatLost h)) h
  | noticeTimerExpiry => exact ⟨_, rfl, hP.offer _ _ (hP.noticeTimer _ h)⟩
  | statusTimerExpiry => exact ⟨_, rfl, hP.offer _ _ (hP.statusTimer _ h)⟩
  | startWindowExpiry => exact answers_ite (hact (hP.startWindowOut h)) h
  | stallTimerExpiry => exact answers_ite (hact (hP.stallOut h)) h
  | dropTimerExpiry => exact answers_ite (hact (hP.dropOut h)) h
  | raiseTimerExpiry => exact answers_ite (hact (hP.raiseOut h)) h
  | ackTimerExpiry z => exact ⟨_, rfl, hP.ackOut z h⟩
  | investigationTimerExpiry z => exact ⟨_, rfl, hP.investigationOut z h⟩
  | isolationWindowExpiry z => exact ⟨_, rfl, hP.windowOut z h⟩
  | chimeStepExpiry e => exact ⟨_, rfl, hP.timedStepEnds _ e h⟩
  | waitStepExpiry e => exact ⟨_, rfl, hP.timedStepEnds _ e h⟩
  | messageLimitExpiry e => exact ⟨_, rfl, hP.messageLimit e h⟩
  | flashTimerExpiry e => exact ⟨_, rfl, hP.flashTurn e h⟩
  | deadlineTimerExpiry e => exact ⟨_, rfl, hP.deadlineOut e h⟩
  | intervalClockTick => exact answers_ite (hP.clockTick h) h
  | frameSent p => exact ⟨_, rfl, hP.toPlainClosed.frameSent p h⟩
  | transmitterFree p => exact ⟨_, rfl, hP.toPlainClosed.transmitterFree p h⟩
  | panelFireReleased => exact ⟨_, rfl, hP.lines _ h⟩
  | slowSwReleased => exact ⟨_, rfl, hP.lines _ h⟩
  | stageReleaseReleased => exact ⟨_, rfl, hP.lines _ h⟩

end CommandClosed

end Sys2Proof.Machine
end


section
/-! A step keeps what every command keeps (95_what_each_step_holds): the ten commands that own a piece of state, and the
part's going on of itself, for a property kept by each of their own moves. -/

namespace Sys2Proof.Machine

/-- A property under tables `T`. -/
def On (T : Tables) (Q : State → Prop) (s : State) : Prop := s.tables = T ∧ Q s

theorem recordClosed_on {T : Tables} {Q : State → Prop} (hQ : RecordClosed Q) : RecordClosed (On T Q) where
  record k a b c h := ⟨(writeRecord_tables k a b c _).trans h.1, hQ.record k a b c h.2⟩
  offer q f h := ⟨(offer_tables q f _).trans h.1, hQ.offer q f h.2⟩

theorem moveClosed_tables (T : Tables) : MoveClosed T fun s => s.tables = T where
  record k a b c h := (writeRecord_tables k a b c _).trans h
  offer q f h := (offer_tables q f _).trans h
  calls _ h := h
  tables h := h

theorem governorOps_on {T : Tables} {Q : State → Prop} (hQ : GovernorOps Q) : GovernorOps (On T Q) :=
  ((moveClosed_tables T).toOps fun _ h => h).and hQ

theorem reachClosed_on {T : Tables} {Q : State → Prop} (hQ : ReachClosed Q) : ReachClosed (On T Q) :=
  (moveClosed_tables T).toReach.and hQ

/-- A property kept by a command: under any tables by the moves of the hand-over, the governor's commands and the plain
moves, and by those moves of the commands that own a piece of state which are the command's. -/
structure KeptBy (c : Instr) (Q : State → Prop) : Prop where
  reach : ∀ T, ReachClosed (On T Q)
  governor : ∀ T, GovernorOps (On T Q)
  plain : ∀ T, PlainClosed (On T Q)
  store : (c = .resetAsserted ∨ ∃ back, c = .storeWriteEnd back) → ∀ s x, Q s → Q (s.withStore x) := by exact fun _ _ _ h => h
  working : (c = .writeTable ∨ c = .setPhase) → ∀ s x, Q s → Q (s.withWorking x) := by exact fun _ _ _ h => h
  masters : c = .setMaster → ∀ s v, Q s → Q (s.withLevels { s.levels with masters := v }) := by exact fun _ _ _ h => h
  staff : c = .staffPresent → ∀ s b, Q s → Q (s.withPhase { s.phase with staff := b }) := by exact fun _ _ _ h => h
  raise : c = .curtainRaise → ∀ s, raiseTests s = none → Q s → Q (beginRaise s)
  phase : c = .setPhase → ∀ s x, Q s → Q (s.withPhase x) := by exact fun _ _ _ h => h
  commit : c = .setPhase → ∀ s, Q s → Q (commitTables s)
  reset : (c = .powerOn ∨ c = .restartPowerOnSequence) → ∀ cause s, Q s →
    Q (resetBlocks cause s.pending { s.lines with reset := false } (abandonWrite s.store))

/-! ### The owners, one by one -/

section
variable {P : State → Prop} (hP : CommandClosed P) {s : State}

theorem answers_resetAsserted (hP : PlainClosed P) (hstore : ∀ {s} x, P s → P (s.withStore x)) (h : P s) :
    Answers .resetAsserted s P := ⟨_, rfl, hstore _ (hP.lines _ h)⟩

theorem answers_storeWriteEnd (hP : RecordClosed P) (hstore : ∀ {s} x, P s → P (s.withStore x)) (back : StoreImage)
    (h : P s) : Answers (.storeWriteEnd back) s P := by
  simp only [Answers, exec, execStoreWriteEnd]
  split
  · exact ⟨_, rfl, ite_keeps (hP.record _ _ _ _ (hstore _ h)) (hP.record _ _ _ _ (hstore _ h))⟩
  · exact ⟨_, rfl, h⟩

include hP

theorem answers_writeTable (hworking : ∀ {s} x, P s → P (s.withWorking x)) (h : P s) : Answers .writeTable s P := by
  refine ⟨_, rfl, hP.handle 2 (fun args s h => ?_) h⟩
  unfold writeTableOwner
  split
  · exact h
  · split
    · exact h
    · dsimp only
      split_ifs
      exacts [h, h, h, hworking _ h]

theorem answers_setMaster (hmasters : ∀ {s} v, P s → P (s.withLevels { s.levels with masters := v })) (h : P s) :
    Answers .setMaster s P := by
  refine ⟨_, rfl, hP.handle 5 (fun args s h => ?_) h⟩
  unfold setMasterOwner
  split
  · exact h
  · split
    · exact hmasters _ h
    · exact h

theorem answers_curtainRaise (hraise : ∀ {s}, raiseTests s = none → P s → P (beginRaise s)) (h : P s) :
    Answers .curtainRaise s P := by
  refine ⟨_, rfl, hP.handle 16 (fun args s h => ?_) h⟩
  unfold curtainRaiseOwner
  split
  next => exact h
  next htests => exact hraise htests h

theorem answers_alarmReset (hreset : ∀ {s}, alarmResetTests s = none → P s → P (alarmReset s)) (h : P s) :
    Answers .alarmReset s P := by
  refine ⟨_, rfl, hP.handle 12 (fun args s h => ?_) h⟩
  unfold alarmResetOwner
  split
  next => exact h
  next htests => exact hreset htests h

theorem answers_staffPresent (hstaff : ∀ {s} on, P s → P (changeStaff on s)) (h : P s) : Answers .staffPresent s P := by
  refine ⟨_, rfl, hP.handle 4 (fun args s h => ?_) h⟩
  unfold staffPresentOwner
  split_ifs
  exacts [h, h, h, hstaff _ h]

omit hP

theorem answers_setPhase (hdrop : ∀ {s}, P s → P (dropHead .consoleRx s)) (hact : ∀ {s}, P s → P (endAct s))
    (hoffer : ∀ {s} q f, P s → P (offer q f s))
    (hcarry : ∀ {s} target length, target ≠ s.phase.phase → transitionTests s target = none → P s →
      P (carryOut target length s)) (h : P s) : Answers .setPhase s P := by
  have howner (args : List Byte) {s : State} (h : P s) : P (setPhaseOwner args s).1 := by
    unfold setPhaseOwner
    split
    · exact h
    · split
      next => exact h
      next hnew =>
        split
        next => exact h
        next htests => exact hcarry _ _ hnew htests h
  refine ⟨_, rfl, ?_⟩
  unfold handle
  split
  · exact h
  · exact hoffer _ _ (hact (howner _ (hdrop h)))

theorem answers_powerOn (hpower : ∀ {s} cause, P s → P (powerOnSequence cause s)) (h : P s) : Answers .powerOn s P :=
  ⟨_, rfl, hpower _ h⟩

theorem answers_restartPowerOnSequence (hpower : ∀ {s} cause, P s → P (powerOnSequence cause s)) (h : P s) :
    Answers .restartPowerOnSequence s P := answers_ite (hpower _ h) h

end

/-! ### The lines taken as the tables take force -/

theorem takeLines_keeps {P : State → Prop} (hP : CommandClosed P) {s : State} (h : P s) : P (takeLines s) := by
  have hslow {s : State} (h : P s) : P (takeSlowSw s) := ite_keeps (hP.slowSwAsserts h) h
  have htravel {s : State} (h : P s) : P (takeTravel s) :=
    ite_keeps (hP.takeLimits (hslow h)) (hslow (hP.takeLimits h))
  have hfire : P (if s.lines.panelFire then panelFire handOver s else s) := ite_keeps (hP.panelFire h) h
  exact hP.endAct (ite_keeps (hP.stageReleaseAsserts (htravel hfire)) (htravel hfire))

namespace KeptBy

variable {c : Instr} {Q : State → Prop} (hQ : KeptBy c Q) {s : State}
include hQ

theorem command (T : Tables) : CommandClosed (On T Q) := (hQ.reach T).toCommand (hQ.plain T) (hQ.governor T)

theorem record (k : EventKind) (a b d : Byte) (h : Q s) : Q (writeRecord k a b d s) :=
  ((hQ.reach s.tables).record k a b d ⟨rfl, h⟩).2

theorem changePhase (hc : c = .setPhase) (target : Phase) (h : Q s) : Q (changePhase target s) := by
  have hphased (x : PhaseState) : On s.tables Q (noticeIsDue (s.withPhase x)) :=
    (hQ.reach s.tables).effects (s := s.withPhase x) _ ⟨rfl, hQ.phase hc s x h⟩
  exact ite_keeps (hQ.record _ _ _ _ (hQ.record _ _ _ _ (hphased _).2)) (hQ.record _ _ _ _ (hphased _).2)

theorem carryOut (hc : c = .setPhase) (target : Phase) (length : Nat) (h : Q s) : Q (carryOut target length s) := by
  have hcommitted : Q (if s.phase.phase = .maintenance then commitTables s else s) := ite_keeps (hQ.commit hc s h) h
  have hchanged := hQ.changePhase hc target hcommitted
  generalize hu : Machine.changePhase target (if s.phase.phase = .maintenance then commitTables s else s) = u at hchanged
  have hreach := hQ.reach u.tables
  have hzones : On u.tables Q
      (if s.phase.phase = .maintenance then (List.finRange 66).foldl zoneTakesTables u else u) :=
    ite_keeps (foldl_keeps (fun _ z hx => hreach.zoneTakesTables z hx) _ _ ⟨rfl, hchanged⟩) ⟨rfl, hchanged⟩
  generalize hv : (if s.phase.phase = .maintenance then (List.finRange 66).foldl zoneTakesTables u else u) = v at hzones
  have hworking : On u.tables Q (if target = .maintenance then v.withWorking v.tables else v) :=
    ite_keeps ⟨hzones.1, hQ.working (.inr hc) _ _ hzones.2⟩ hzones
  have hdone := (hreach.callsFollowPhase s.phase.phase target length (hreach.zonesFollowPhase target hworking)).2
  rw [← hv, ← hu] at hdone
  exact hdone

theorem raiseOn {T : Tables} (hc : c = .curtainRaise) (htests : raiseTests s = none) (h : On T Q s) :
    On T Q (beginRaise s) := by
  have htables : (beginRaise s).tables = s.tables :=
    ite_keeps (P := fun t => t.tables = s.tables) rfl (writeRecord_tables _ _ _ _ _)
  exact ⟨htables.trans h.1, hQ.raise hc s htests h.2⟩

theorem changeStaff {T : Tables} (hc : c = .staffPresent) (on : Bool) (h : On T Q s) : On T Q (changeStaff on s) := by
  have hset : On T Q (writeRecord .staffPresence 0 (boolByte on) 0 (s.withPhase { s.phase with staff := on })) :=
    (hQ.reach T).record _ _ _ _ ⟨h.1, hQ.staff hc s on h.2⟩
  exact ite_keeps hset ((hQ.reach T).endInvestigation hset)

theorem powerOnSequence (hc : c = .powerOn ∨ c = .restartPowerOnSequence) (cause : ResetCause) (h : Q s) :
    Q (powerOnSequence cause s) :=
  (takeLines_keeps (hQ.command _) ⟨rfl, hQ.reset hc cause s h⟩).2

/-- The command answers a next state and keeps the property. -/
theorem answers (h : Q s) : Answers c s Q := by
  have hP := hQ.command s.tables
  have hon : On s.tables Q s := ⟨rfl, h⟩
  have hforget {c : Instr} : Answers c s (On s.tables Q) → Answers c s Q := fun ⟨t, ht, hq⟩ => ⟨t, ht, hq.2⟩
  cases hc : ownsState c with
  | false => exact hforget (hP.answers hc hon)
  | true =>
    cases c <;> simp only [ownsState, Bool.false_eq_true] at hc
    case resetAsserted =>
      exact hforget (answers_resetAsserted hP.toPlainClosed (fun x h => ⟨h.1, hQ.store (.inl rfl) _ x h.2⟩) hon)
    case storeWriteEnd back =>
      exact hforget (answers_storeWriteEnd hP.toRecordClosed
        (fun x h => ⟨h.1, hQ.store (.inr ⟨back, rfl⟩) _ x h.2⟩) back hon)
    case writeTable => exact hforget (answers_writeTable hP (fun x h => ⟨h.1, hQ.working (.inl rfl) _ x h.2⟩) hon)
    case setMaster => exact hforget (answers_setMaster hP (fun x h => ⟨h.1, hQ.masters rfl _ x h.2⟩) hon)
    case alarmReset => exact hforget (answers_alarmReset hP (fun _ h => (hQ.reach _).alarmReset h) hon)
    case curtainRaise => exact hforget (answers_curtainRaise hP (fun htests h => hQ.raiseOn rfl htests h) hon)
    case staffPresent => exact hforget (answers_staffPresent hP (fun on h => hQ.changeStaff rfl on h) hon)
    case setPhase =>
      exact answers_setPhase (fun h => ((hQ.plain _).dropHead _ ⟨rfl, h⟩).2) (fun h => ((hQ.reach _).endAct ⟨rfl, h⟩).2)
        (fun q f h => ((hQ.reach _).offer q f ⟨rfl, h⟩).2) (fun target length _ _ h => hQ.carryOut rfl target length h) h
    case powerOn => exact answers_powerOn (fun cause h => hQ.powerOnSequence (.inl rfl) cause h) h
    case restartPowerOnSequence =>
      exact answers_restartPowerOnSequence (fun cause h => hQ.powerOnSequence (.inr rfl) cause h) h

end KeptBy

/-- A property kept by every command, by taking a command from the queue, and by the passing of time. -/
structure StepClosed (Q : State → Prop) : Prop where
  kept : ∀ c, KeptBy c Q
  pending : ∀ {s} x, Q s → Q (s.withPending x) := by exact fun _ h => h
  now : ∀ {s} x, Q s → Q (s.withNow x) := by exact fun _ h => h
  capture : ∀ {s} n, Q s → Q (s.withCurtain { s.curtain with capture := n }) := by exact fun _ h => h

namespace StepClosed

variable {Q : State → Prop} {s : State}

/-- A step keeps what every command keeps, what taking a command from the queue keeps, and what the passing of time
keeps. -/
theorem of_answers (hanswers : ∀ c {s}, Q s → Answers c s Q) (hpending : ∀ {s} x, Q s → Q (s.withPending x))
    (hnow : ∀ {s} x, Q s → Q (s.withNow x)) (hcapture : ∀ {s} n, Q s → Q (s.withCurtain { s.curtain with capture := n }))
    {t : State} (h : Q s) (hstep : step s = .next t) : Q t := by
  have hpassed : Q (passTick s) := ite_keeps (hpending _ (hnow _ h)) (hcapture (s := s.withNow (s.now + 1)) _ (hnow _ h))
  have htick : Q (tick s) := by
    unfold tick
    split
    · exact h
    · split
      · exact hpending _ h
      · exact hpassed
  unfold Machine.step at hstep
  split at hstep
  · exact Host.Outcome.next.inj hstep ▸ htick
  · obtain ⟨u, hu, hq⟩ := hanswers _ (hpending _ h)
    exact Host.Outcome.next.inj (hu.symm.trans hstep) ▸ hq

theorem step (hQ : StepClosed Q) {t : State} (h : Q s) (hstep : step s = .next t) : Q t :=
  of_answers (fun c _ h => (hQ.kept c).answers h) hQ.pending hQ.now hQ.capture h hstep

end StepClosed

end Sys2Proof.Machine
end


section
/-! The laws of the queues, of the log (R170, R186) and of the position (R76): each is kept by every move of the part. -/

namespace Sys2Proof.Machine

/-! ### The queues -/

theorem recordClosed_queuesFit : RecordClosed QueuesFit where
  record k a b c h := writeRecord_queuesFit k a b c h
  offer q f h := offer_queuesFit q f h

theorem moveClosed_queuesFit (T : Tables) : MoveClosed T (On T QueuesFit) :=
  { recordClosed_on recordClosed_queuesFit with
    tables := fun h => h.1
    calls := fun _ h => h }

theorem plainClosed_queuesFit (T : Tables) : PlainClosed (On T QueuesFit) :=
  { recordClosed_on recordClosed_queuesFit with
    dropHead := fun q h => ⟨(dropHead_tables q _).trans h.1, dropHead_queuesFit q h.2⟩ }

/-- Empty queues fit any plan. -/
theorem fits_of_empty {t : Tables} {l : LinkState} (h : l.queues = Vector.replicate 7 ⟨[], false⟩) : Fits t l := fun q => by
  simp [h, occupied]

theorem freshLinks_fits (t : Tables) (cause : ResetCause) (loaded : Bool) : Fits t (freshLinks t cause loaded) := by
  unfold freshLinks
  dsimp only
  generalize hfile : tryFile t 0 _ _ _ = filed
  cases filed with
  | none => exact fits_of_empty rfl
  | some m => exact tryFile_fits (fits_of_empty rfl) hfile

theorem emptyQueues_fits (t : Tables) (l : LinkState) : Fits t (emptyQueues l) := fits_of_empty rfl

theorem commitTables_links (s : State) : (commitTables s).links = emptyQueues s.links := rfl

theorem keptBy_queuesFit (c : Instr) : KeptBy c QueuesFit where
  reach T := (moveClosed_queuesFit T).toReach
  governor T := (moveClosed_queuesFit T).toOps (plainClosed_queuesFit T).lines
  plain := plainClosed_queuesFit
  raise _ _ _ h := ite_keeps h (writeRecord_queuesFit _ _ _ _ h)
  commit _ s _ := show Fits (commitTables s).tables (commitTables s).links from
    commitTables_links s ▸ emptyQueues_fits _ _
  reset _ cause _ _ := freshLinks_fits _ cause _

theorem stepClosed_queuesFit : StepClosed QueuesFit where kept := keptBy_queuesFit

/-! ### The log -/

theorem recordClosed_logLaw : RecordClosed fun s => LogLaw s.log where
  record k a b c h := writeRecord_logLaw k a b c h
  offer q f {s} h := by
    unfold offer overflowed
    split
    · exact h
    · refine ite_keeps (P := fun t => LogLaw t.log) h ?_
      rw [withLinks_log]
      exact writeRecord_logLaw _ _ _ _ h

/-- The log after a reset: the RESET record is number 1, and 2 follows. -/
theorem freshLog_law (cause : ResetCause) (loaded : Bool) : LogLaw (freshLog cause loaded) := by
  have hone : (1 : Word32) ≠ 0 := by decide
  have htwo : (2 : Word32) ≠ 0 := by decide
  refine ⟨Nat.le_of_ble_eq_true rfl, trivial, ?newest, htwo, ?numbers⟩
  case newest =>
    rintro r hr
    rw [← Option.some.inj hr]
    exact (by decide : (2 : Word32) = nextSeq 1)
  case numbers =>
    intro r hr
    rwa [List.mem_singleton.mp hr]

theorem moveClosed_logLaw (T : Tables) : MoveClosed T (On T fun s => LogLaw s.log) :=
  { recordClosed_on recordClosed_logLaw with tables := fun h => h.1, calls := fun _ h => h }

theorem keptBy_logLaw (c : Instr) : KeptBy c fun s => LogLaw s.log where
  reach T := (moveClosed_logLaw T).toReach
  governor T := (moveClosed_logLaw T).toOps fun _ h => h
  plain T := { recordClosed_on recordClosed_logLaw with }
  raise _ _ _ h := ite_keeps (P := fun t => LogLaw t.log) h (recordClosed_logLaw.record _ _ _ _ h)
  commit _ _ h := h
  reset _ cause _ _ := freshLog_law cause _

theorem stepClosed_logLaw : StepClosed fun s => LogLaw s.log where kept := keptBy_logLaw

/-- Settles O12: filing and taking keep every queue within its size, a record keeps the log's law, a commit and a power-on
sequence leave empty queues and a fresh log, and nothing else touches either. -/
theorem queueAndLogLawsKept : Obligations.QueueAndLogLawsKept :=
  ⟨fun _ _ h hstep => stepClosed_queuesFit.step h hstep, fun _ _ h hstep => stepClosed_logLaw.step h hstep⟩

end Sys2Proof.Machine
end


section
/-! The laws of the curtain: the position within 0–N (R76), and the two lines (R72). A curtain with both lines off keeps
them off under every move but the acceptance of CURTAIN-RAISE; the other cases are those of RAISING and OUT. -/

namespace Sys2Proof.Machine

/-! ### The position -/

theorem recordClosed_of_curtain {R : Curtain → Prop} : RecordClosed fun s => R s.curtain where
  record k a b c h := by rwa [writeRecord_curtain]
  offer q f h := by rwa [offer_curtain]

theorem toState_curtain (st : CurtainState) (s : State) : (toState st s).curtain = { s.curtain with state := st } := by
  unfold toState
  dsimp only
  split
  next h => exact h ▸ rfl
  next => exact writeRecord_curtain _ _ _ _ _

theorem beginRaise_position (s : State) : (beginRaise s).curtain.position = s.curtain.position := by
  rw [beginRaise, toState_curtain]
  rfl

theorem beginRaise_tables (s : State) : (beginRaise s).tables = s.tables :=
  ite_keeps (P := fun t => t.tables = s.tables) rfl (writeRecord_tables _ _ _ _ _)

theorem recordClosed_positionLaw : RecordClosed PositionLaw where
  record k a b c {s} h := by rwa [PositionLaw, writeRecord_curtain, writeRecord_tables]
  offer q f {s} h := by rwa [PositionLaw, offer_curtain, offer_tables]

theorem moveClosed_positionLaw (T : Tables) : MoveClosed T (On T PositionLaw) :=
  { recordClosed_on recordClosed_positionLaw with
    tables := fun h => h.1
    calls := fun _ h => h
    curtain := fun {s} x hx h => by
      obtain ⟨rfl, hpos⟩ := h
      exact ⟨rfl, hx.position hpos⟩ }

theorem keptBy_positionLaw (c : Instr) : KeptBy c PositionLaw where
  reach T := (moveClosed_positionLaw T).toReach
  governor T := (moveClosed_positionLaw T).toOps fun _ h => h
  plain T := { recordClosed_on recordClosed_positionLaw with }
  raise _ s _ h := by rwa [PositionLaw, beginRaise_position, beginRaise_tables]
  commit _ _ _ := Nat.min_le_right _ _
  reset _ _ _ _ := Nat.zero_le _

theorem stepClosed_positionLaw : StepClosed PositionLaw where kept := keptBy_positionLaw

/-! ### The lines off -/

/-- Neither line is energised. -/
def LinesOff (s : State) : Prop := s.curtain.holdDrive = false ∧ s.curtain.raisePermit = false

theorem curtainLaw_of_off {c : Curtain} (hhold : c.holdDrive = false) (hpermit : c.raisePermit = false) : CurtainLaw c :=
  ⟨by simp [hhold], by simp [hpermit]⟩

theorem linesOff_law {s : State} (h : LinesOff s) : CurtainLaw s.curtain := curtainLaw_of_off h.1 h.2

theorem linesOff_move {T : Tables} {s : State} {x : Curtain} (hx : GovernorMove T s.curtain x) (h : LinesOff s) :
    LinesOff (s.withCurtain x) := by
  refine ⟨Bool.eq_false_iff.mpr fun hhold => ?_, Bool.eq_false_iff.mpr fun hpermit => ?_⟩
  · simpa [h.1] using hx.hold hhold
  · simpa [h.2] using hx.permit hpermit

theorem moveClosed_linesOff (T : Tables) : MoveClosed T (On T LinesOff) :=
  { recordClosed_on (recordClosed_of_curtain (R := fun c => c.holdDrive = false ∧ c.raisePermit = false)) with
    tables := fun h => h.1
    calls := fun _ h => h
    curtain := fun _ hx h => ⟨h.1, linesOff_move hx h.2⟩ }

/-! ### The law of the lines under the governor's operations -/

/-- The law of the two lines, of a state. -/
def LinesLaw (s : State) : Prop := CurtainLaw s.curtain

section
variable {s : State}

theorem linesLaw_congr {x : Curtain} (hhold : x.holdDrive = s.curtain.holdDrive)
    (hpermit : x.raisePermit = s.curtain.raisePermit) (hstate : x.state = s.curtain.state)
    (hdemands : x.demands = s.curtain.demands) (h : LinesLaw s) : LinesLaw (s.withCurtain x) := by
  simpa only [LinesLaw, CurtainLaw, withCurtain_curtain, hhold, hpermit, hstate, hdemands] using h

/-- Where neither RAISING nor OUT stands, both lines are off. -/
theorem linesOff_of_state (h : LinesLaw s) (hraising : s.curtain.state ≠ .raising) (hout : s.curtain.state ≠ .out) :
    LinesOff s := by
  obtain ⟨hhold, hpermit⟩ := h
  exact ⟨Bool.eq_false_iff.mpr fun hon => (hhold hon).1.elim hraising hout,
    Bool.eq_false_iff.mpr fun hon => hraising (hpermit hon)⟩

end

theorem linesLaw_cases {s : State} (h : LinesLaw s) :
    LinesOff s ∨ s.curtain.state = .raising ∨ s.curtain.state = .out := by
  by_cases hraising : s.curtain.state = .raising
  · exact .inr (.inl hraising)
  · by_cases hout : s.curtain.state = .out
    · exact .inr (.inr hout)
    · exact .inl (linesOff_of_state h hraising hout)

theorem recordClosed_linesLaw : RecordClosed LinesLaw := recordClosed_of_curtain

theorem closeTest_linesLaw (pass : Bool) (total : Option Nat) {s : State} (h : LinesLaw s) :
    LinesLaw (closeTest pass total s) := by
  unfold closeTest
  split
  · exact recordClosed_linesLaw.record _ _ _ _ (linesLaw_congr (s := s) rfl rfl rfl rfl h)
  · exact h
  · exact h

section
variable {rep : Reporter} (hr : ∀ r {s}, LinesLaw s → LinesLaw (rep r s))
  (hoff : ∀ {T} r {s}, On T LinesOff s → On T LinesOff (rep r s)) {s : State}

include hr in
theorem recordFault_linesLaw (f : CurtainFault) (h : LinesLaw s) : LinesLaw (recordFault rep f s) :=
  ite_keeps h (hr _ (recordClosed_linesLaw.record _ _ _ _ (linesLaw_congr (s := s) rfl rfl rfl rfl h)))

include hr in
theorem referenceAt_linesLaw (p : Nat) (h : LinesLaw s) : LinesLaw (referenceAt rep p s) :=
  linesLaw_congr rfl rfl rfl rfl (ite_keeps (P := LinesLaw) (recordFault_linesLaw hr _ h) h)

include hr in
theorem driftTest_linesLaw (h : LinesLaw s) : LinesLaw (driftTest rep s) := ite_keeps (recordFault_linesLaw hr _ h) h

/-- What the governor does with both lines off keeps the law. -/
theorem linesLaw_of_off (f : State → State) (hf : ∀ {T : Tables}, On T LinesOff s → On T LinesOff (f s)) (h : LinesOff s) :
    LinesLaw (f s) :=
  linesOff_law (hf ⟨rfl, h⟩).2

theorem governor_off (T : Tables) : GovernorClosed T (On T LinesOff) := (moveClosed_linesOff T).toGovernorClosed

include hoff

theorem abortRaise_linesLaw : LinesLaw (abortRaise rep s) := by
  have hoffNow (u : State) : On u.tables LinesOff
      (updCurtain (fun c => { c with raisePermit := false, holdDrive := false, raiseTimer := none }) u) :=
    ⟨rfl, rfl, rfl⟩
  exact linesOff_law (ite_keeps ((governor_off _).arriveIn hoff (hoffNow s))
    ((governor_off _).enterDescending hoff ((governor_off _).fallBegins (hoffNow s)))).2

theorem arriveIn_linesLaw : LinesLaw (arriveIn rep s) := by
  have hoffNow (u : State) : On u.tables LinesOff (updCurtain (fun c => { c with
      raisePermit := false, holdDrive := false, startTimer := none, stallTimer := none, dropTimer := none
      raiseTimer := none, demands := c.demands.atIn, slowEntry := none }) u) := ⟨rfl, rfl, rfl⟩
  exact linesOff_law (hoff _ ((governor_off _).toState _ ((governor_off _).closeTestAtIn (hoffNow _)))).2

/-- With RAISE-PERMIT off, a release from OUT takes HOLD-DRIVE off too. -/
theorem releaseFromOut_linesLaw (h : s.curtain.raisePermit = false) : LinesLaw (releaseFromOut rep s) := by
  have hoffNow : On s.tables LinesOff (updCurtain (fun c => { c with holdDrive := false, faults := 0 }) s) :=
    ⟨rfl, rfl, h⟩
  exact linesOff_law ((governor_off _).enterDescending hoff ((governor_off _).fallBegins hoffNow)).2

omit hoff in
theorem limitsConflict_linesLaw : LinesLaw (limitsConflict rep s) := by
  have hoffNow (u : State) : On u.tables LinesOff (updCurtain (fun c => { c with
      referenced := false, demands := c.demands.insert .conflict, raisePermit := false, holdDrive := false
      startTimer := none, stallTimer := none, raiseTimer := none }) u) := ⟨rfl, rfl, rfl⟩
  exact linesOff_law ((governor_off _).toState _ (hoffNow _)).2

omit hoff in
/-- A member joins while another stands: HOLD-DRIVE is off already. -/
theorem demandInserted_linesLaw {d : Demand} (hany : s.curtain.demands.any = true) (h : LinesLaw s) :
    LinesLaw (updCurtain (fun c => { c with demands := c.demands.insert d }) s) := by
  obtain ⟨hhold, hpermit⟩ := h
  exact ⟨fun hon => absurd hany (by simp [(hhold hon).2]), hpermit⟩

theorem addDemand_linesLaw (d : Demand) (h : LinesLaw s) : LinesLaw (addDemand rep d s) := by
  by_cases hany : s.curtain.demands.any = true
  · rw [addDemand, if_pos hany]
    exact demandInserted_linesLaw hany h
  · rw [addDemand, if_neg hany]
    generalize hu : updCurtain (fun c => { c with demands := c.demands.insert d }) s = u
    have hstate : u.curtain.state = s.curtain.state := hu ▸ rfl
    have hpermit : u.curtain.raisePermit = s.curtain.raisePermit := hu ▸ rfl
    have hhold : u.curtain.holdDrive = s.curtain.holdDrive := hu ▸ rfl
    have hother (hraising : u.curtain.state ≠ .raising) (hout : u.curtain.state ≠ .out) : LinesLaw u := by
      have hs := linesOff_of_state h (hstate ▸ hraising) (hstate ▸ hout)
      exact curtainLaw_of_off (hhold.trans hs.1) (hpermit.trans hs.2)
    unfold demandTaken
    split
    next hout =>
      refine releaseFromOut_linesLaw hoff (Bool.eq_false_iff.mpr fun hon => ?_)
      have hraising := h.2 (hpermit ▸ hon)
      rw [← hstate, hout] at hraising
      cases hraising
    next => exact abortRaise_linesLaw hoff
    all_goals rename_i hst; exact hother (by simp [hst]) (by simp [hst])

include hr

theorem addAlarm_linesLaw (h : LinesLaw s) : LinesLaw (addAlarm rep s) := by
  have hjoined := addDemand_linesLaw hoff .alarm (closeTest_linesLaw false none h)
  exact ite_keeps h (ite_keeps (hr _ hjoined) hjoined)

omit hoff in
theorem arriveOut_linesLaw (h : LinesLaw s) : LinesLaw (arriveOut rep s) := by
  refine hr _ ?_
  obtain ⟨hhold, -⟩ := referenceAt_linesLaw hr s.tables.curtain.travel.toNat h
  rw [LinesLaw, toState_curtain]
  exact ⟨fun hon => ⟨.inr rfl, (hhold hon).2⟩, nofun⟩

theorem limitInTaken_linesLaw (h : LinesLaw s) : LinesLaw (limitInTaken rep s) :=
  ite_keeps (referenceAt_linesLaw hr 0 h) (arriveIn_linesLaw hoff)

theorem limitOutTaken_linesLaw (h : LinesLaw s) : LinesLaw (limitOutTaken rep s) := by
  have hwindow : LinesLaw (updCurtain (fun c => { c with window := freshWindow })
      (referenceAt rep s.tables.curtain.travel.toNat s)) :=
    linesLaw_congr rfl rfl rfl rfl (referenceAt_linesLaw hr _ h)
  have hthrough (hraising : s.curtain.state ≠ .raising) (hout : s.curtain.state ≠ .out) :
      LinesLaw (releaseThroughOut rep s) :=
    linesLaw_of_off _ (fun h => (governor_off _).releaseThroughOut hoff h) (linesOff_of_state h hraising hout)
  unfold limitOutTaken
  split
  next => exact arriveOut_linesLaw hr h
  next => exact referenceAt_linesLaw hr _ h
  next => exact hwindow
  next => exact hwindow
  next => exact hwindow
  next hst => exact hthrough (by simp [hst]) (by simp [hst])
  next hst => exact hthrough (by simp [hst]) (by simp [hst])

theorem downCount_linesLaw (h : LinesLaw s) : LinesLaw (downCount rep s) := by
  have hdown : LinesLaw (updCurtain (fun c => { c with position := c.position - 1 }) s) :=
    linesLaw_congr rfl rfl rfl rfl h
  rcases linesLaw_cases h with hs | hst | hst
  · exact linesLaw_of_off _ (fun h => (governor_off _).downCount hoff h) hs
  · have hcount : downCount rep s = updCurtain (fun c => { c with position := c.position - 1 }) s := by
      simp [downCount, updCurtain, hst]
    rwa [hcount]
  · have hcount : downCount rep s = if inConflict s
        then updCurtain (fun c => { c with position := c.position - 1 }) s
        else driftTest rep (updCurtain (fun c => { c with position := c.position - 1 }) s) := by
      simp [downCount, updCurtain, inConflict, hst]
    rw [hcount]
    exact ite_keeps hdown (driftTest_linesLaw hr hdown)

omit hoff in
theorem upCount_linesLaw (h : LinesLaw s) : LinesLaw (upCount rep s) := by
  have hup : LinesLaw (updCurtain (fun c => { c with position := if c.position < s.tables.curtain.travel.toNat
      then c.position + 1 else c.position }) s) := linesLaw_congr rfl rfl rfl rfl h
  refine ite_keeps hup ?_
  split
  next => exact linesLaw_congr rfl rfl rfl rfl hup
  next => exact linesLaw_congr rfl rfl rfl rfl hup
  next => exact linesLaw_congr rfl rfl rfl rfl hup
  next => exact linesLaw_congr rfl rfl rfl rfl hup
  next => exact driftTest_linesLaw hr hup
  next => exact hup
  next => exact hup

omit hoff in
theorem illegalCount_linesLaw (h : LinesLaw s) : LinesLaw (illegalCount rep s) :=
  recordFault_linesLaw hr _ (linesLaw_congr (s := s) rfl rfl rfl rfl h)

end

/-! ### The governor's commands -/

theorem reachClosed_linesLaw : ReachClosed LinesLaw :=
  have hcalls : CallsClosed LinesLaw := { recordClosed_linesLaw with calls := fun _ h => h }
  have hzones : ZonesClosed LinesLaw := { recordClosed_linesLaw with monitor := fun _ h => h }
  { hcalls with
    stream := fun _ h => h
    monitor := fun _ h => h
    effects := fun _ h => h
    alarmLeaves := fun {s} h => by
      obtain ⟨hhold, hpermit⟩ := h
      refine ⟨fun hon => ⟨(hhold hon).1, ?_⟩, hpermit⟩
      have hnone := (hhold hon).2
      simp only [Demands.any, Bool.or_eq_false_iff] at hnone ⊢
      simp [hnone]
    deliverCurtain := fun h => addAlarm_linesLaw
      (fun r _ h => reportInDelivery_keeps hzones (effectsClosed_of_calls hcalls (fun _ h => h) (fun _ h => h)) r h)
      (fun {T} r _ h => reportInDelivery_keeps (moveClosed_linesOff T).toReach.toZones
        (moveClosed_linesOff T).toReach.toEffects r h) h }

theorem report_linesLaw (r : CurtainReport) {s : State} (h : LinesLaw s) : LinesLaw (reportCurtain r s) :=
  reachClosed_linesLaw.reportCurtain r h

theorem report_linesOff {T : Tables} (r : CurtainReport) {s : State} (h : On T LinesOff s) :
    On T LinesOff (reportCurtain r s) := (moveClosed_linesOff T).toReach.reportCurtain r h

theorem offOps (T : Tables) : GovernorOps (On T LinesOff) := (moveClosed_linesOff T).toOps fun _ h => h

theorem raiseFails_linesLaw (s : State) : LinesLaw (raiseFails reportCurtain s) := abortRaise_linesLaw report_linesOff

section
variable {s : State} (h : LinesLaw s)
include h

theorem encoderSample_linesLaw (a b : Bool) : LinesLaw (encoderSample a b s) :=
  ite_keeps (illegalCount_linesLaw report_linesLaw h)
    (ite_keeps (ite_keeps (downCount_linesLaw report_linesLaw report_linesOff h) (upCount_linesLaw report_linesLaw h)) h)

theorem dropConflict_linesLaw : LinesLaw (dropConflict s) := by
  obtain ⟨hhold, hpermit⟩ := h
  refine ⟨fun hon => ⟨(hhold hon).1, ?_⟩, hpermit⟩
  have hnone := (hhold hon).2
  simp only [Demands.any, Bool.or_eq_false_iff] at hnone ⊢
  simp [dropConflict, updCurtain, hnone]

theorem limitReleases_linesLaw (l : Limit) : LinesLaw (limitReleases l s) := by
  cases l
  · exact ite_keeps (limitOutTaken_linesLaw report_linesLaw report_linesOff (dropConflict_linesLaw (s := s.withLines _) h)) h
  · exact ite_keeps (limitInTaken_linesLaw report_linesLaw report_linesOff (dropConflict_linesLaw (s := s.withLines _) h)) h

theorem slowSwAsserts_linesLaw : LinesLaw (slowSwAsserts s) := by
  rcases linesLaw_cases h with hs | hst | hst
  · exact linesLaw_of_off _ (fun h => (offOps _).slowSwAsserts h) hs
  · simp only [slowSwAsserts, hst]
    exact h
  · simp only [slowSwAsserts, hst]
    exact h

theorem startWindowOut_linesLaw : LinesLaw (startWindowOut s) := by
  rcases linesLaw_cases h with hs | hst | hst
  · exact linesLaw_of_off _ (fun h => (offOps _).startWindowOut h) hs
  · simpa only [startWindowOut, hst] using raiseFails_linesLaw _
  · simp only [startWindowOut, hst]
    exact h

theorem stallOut_linesLaw : LinesLaw (stallOut s) := by
  rcases linesLaw_cases h with hs | hst | hst
  · exact linesLaw_of_off _ (fun h => (offOps _).stallOut h) hs
  · simp only [stallOut, hst]
    exact h
  · simp only [stallOut, hst]
    exact h

theorem curtainReleaseOwner_linesLaw (args : List Byte) : LinesLaw (curtainReleaseOwner args s).1 := by
  unfold curtainReleaseOwner
  split
  · exact addDemand_linesLaw report_linesOff .request h
  · exact addDemand_linesLaw report_linesOff .request h
  all_goals exact h

theorem curtainTestOwner_linesLaw (args : List Byte) : LinesLaw (curtainTestOwner args s).1 := by
  unfold curtainTestOwner
  split_ifs
  exacts [h, h, addDemand_linesLaw report_linesOff .test h]

omit h in
/-- R93: HOLD-DRIVE and RAISE-PERMIT are energised in IN alone, with no demand in the set. -/
theorem beginRaise_linesLaw (htests : raiseTests s = none) : LinesLaw (beginRaise s) := by
  have hnone : s.curtain.demands.any = false := by
    refine Bool.eq_false_iff.mpr fun hany => ?_
    simp only [raiseTests, hany, if_true] at htests
    split at htests <;> cases htests
  rw [LinesLaw, beginRaise, toState_curtain]
  exact ⟨fun _ => ⟨.inl rfl, hnone⟩, fun _ => rfl⟩

end

theorem governorOps_linesLaw : GovernorOps LinesLaw where
  encoderSample a b h := encoderSample_linesLaw h a b
  limitInAsserts h := ite_keeps limitsConflict_linesLaw (limitInTaken_linesLaw report_linesLaw report_linesOff h)
  limitOutAsserts h := ite_keeps limitsConflict_linesLaw (limitOutTaken_linesLaw report_linesLaw report_linesOff h)
  limitReleases l h := limitReleases_linesLaw h l
  slowSwAsserts h := slowSwAsserts_linesLaw h
  stageReleaseAsserts {s} h := ite_keeps h (addDemand_linesLaw (s := s.withLines _) report_linesOff .stageRelease h)
  takeLimits h := ite_keeps limitsConflict_linesLaw (ite_keeps (limitInTaken_linesLaw report_linesLaw report_linesOff h)
    (ite_keeps (limitOutTaken_linesLaw report_linesLaw report_linesOff h) h))
  captureWraps h := linesLaw_congr rfl rfl rfl rfl h
  startWindowOut h := startWindowOut_linesLaw h
  stallOut h := stallOut_linesLaw h
  dropOut h := closeTest_linesLaw _ _ (recordFault_linesLaw report_linesLaw _ (linesLaw_congr rfl rfl rfl rfl h))
  raiseOut h := ite_keeps (raiseFails_linesLaw _) (linesLaw_congr rfl rfl rfl rfl h)
  curtainReleaseOwner args h := curtainReleaseOwner_linesLaw h args
  curtainTestOwner args h := curtainTestOwner_linesLaw h args

theorem keptBy_linesLaw (c : Instr) : KeptBy c LinesLaw where
  reach _ := reachClosed_on reachClosed_linesLaw
  governor _ := governorOps_on governorOps_linesLaw
  plain _ := { recordClosed_on recordClosed_linesLaw with }
  raise _ _ htests _ := beginRaise_linesLaw htests
  commit _ _ h := linesLaw_congr rfl rfl rfl rfl h
  reset _ _ _ _ := curtainLaw_of_off rfl rfl

theorem stepClosed_linesLaw : StepClosed LinesLaw where kept := keptBy_linesLaw

/-- Settles O21: the lines by the cases of a curtain with both lines off, in RAISING and in OUT; the position by the bounds
of each move of it, and of the tables that take force. -/
theorem curtainLawsKept : Obligations.CurtainLawsKept :=
  ⟨fun _ _ h hstep => stepClosed_linesLaw.step h hstep, fun _ _ h hstep => stepClosed_positionLaw.step h hstep⟩

end Sys2Proof.Machine
end


section
/-! Each piece of state with one owner changes by that owner's commands alone (R4, R14, R22, R25, R28, R29, R181), and the
two lines are energised by CURTAIN-RAISE alone (R72): every other command keeps the piece at its value. -/

namespace Sys2Proof.Machine

theorem recordClosed_field {α : Type} {f : State → α} {x : α} (hr : ∀ k a b c s, f (writeRecord k a b c s) = f s)
    (ho : ∀ q g s, f (offer q g s) = f s) : RecordClosed fun s => f s = x where
  record k a b c h := (hr k a b c _).trans h
  offer q g h := (ho q g _).trans h

theorem kept_of_keptBy {c : Instr} {Q : State → Prop} {s t : State} (hc : KeptBy c Q) (hs : Q s)
    (h : exec c s = .next t) : Q t := by
  obtain ⟨u, hu, hq⟩ := hc.answers hs
  exact Host.Outcome.next.inj (hu.symm.trans h) ▸ hq

/-- What a command keeps at every value it leaves unchanged. -/
theorem unchanged_of_keptBy {α : Type} {f : State → α} {c : Instr} {s t : State} (hc : KeptBy c fun u => f u = f s)
    (h : exec c s = .next t) : f t = f s := kept_of_keptBy hc rfl h

/-- Both commands that run the power-on sequence. -/
def PowersOn (c : Instr) : Prop := c = .powerOn ∨ c = .restartPowerOnSequence

section
variable {c : Instr} (hset : c ≠ .setPhase) (hpower : ¬PowersOn c)
include hset hpower

theorem keptBy_tables (x : Tables) : KeptBy c fun s => s.tables = x := by
  have hclosed : RecordClosed fun s => s.tables = x := recordClosed_field writeRecord_tables offer_tables
  have hmove (T : Tables) : MoveClosed T (On T fun s => s.tables = x) :=
    { recordClosed_on hclosed with
      tables := And.left
      calls := fun _ h => h }
  exact {
    reach := fun T => (hmove T).toReach
    governor := fun T => (hmove T).toOps fun _ h => h
    plain := fun T => { recordClosed_on hclosed with }
    raise := fun _ s _ h => (beginRaise_tables s).trans h
    commit := fun h => absurd h hset
    reset := fun h => absurd h hpower }

theorem keptBy_working (hwrite : c ≠ .writeTable) (x : Tables) : KeptBy c fun s => s.working = x := by
  have hclosed : RecordClosed fun s => s.working = x := recordClosed_field writeRecord_working offer_working
  have hmove (T : Tables) : MoveClosed T (On T fun s => s.working = x) :=
    { recordClosed_on hclosed with
      tables := And.left
      calls := fun _ h => h }
  exact {
    reach := fun T => (hmove T).toReach
    governor := fun T => (hmove T).toOps fun _ h => h
    plain := fun T => { recordClosed_on hclosed with }
    working := fun h => (h.elim hwrite hset).elim
    raise := fun _ _ _ h => ite_keeps (P := fun s => s.working = x) h ((writeRecord_working _ _ _ _ _).trans h)
    commit := fun h => absurd h hset
    reset := fun h => absurd h hpower }

theorem keptBy_store (hreset : c ≠ .resetAsserted) (hend : ∀ back, c ≠ .storeWriteEnd back) (x : Store) :
    KeptBy c fun s => s.store = x := by
  have hclosed : RecordClosed fun s => s.store = x := recordClosed_field writeRecord_store offer_store
  have hmove (T : Tables) : MoveClosed T (On T fun s => s.store = x) :=
    { recordClosed_on hclosed with
      tables := And.left
      calls := fun _ h => h }
  exact {
    reach := fun T => (hmove T).toReach
    governor := fun T => (hmove T).toOps fun _ h => h
    plain := fun T => { recordClosed_on hclosed with }
    store := fun h => (h.elim hreset fun ⟨back, hback⟩ => hend back hback).elim
    raise := fun _ _ _ h => ite_keeps (P := fun s => s.store = x) h ((writeRecord_store _ _ _ _ _).trans h)
    commit := fun h => absurd h hset
    reset := fun h => absurd h hpower }

theorem keptBy_masters (hmaster : c ≠ .setMaster) (x : Vector Byte 24) : KeptBy c fun s => s.levels.masters = x := by
  have hclosed : RecordClosed fun s => s.levels.masters = x :=
    recordClosed_field (fun k a b c s => by rw [writeRecord_levels]) (fun q g s => by rw [offer_levels])
  have hmove (T : Tables) : MoveClosed T (On T fun s => s.levels.masters = x) :=
    { recordClosed_on hclosed with
      tables := And.left
      calls := fun _ h => h }
  exact {
    reach := fun T => (hmove T).toReach
    governor := fun T => (hmove T).toOps fun _ h => h
    plain := fun T => { recordClosed_on hclosed with }
    masters := fun h => absurd h hmaster
    raise := fun _ s _ h => ite_keeps (P := fun s => s.levels.masters = x) h (hclosed.record _ _ _ _ h)
    commit := fun h => absurd h hset
    reset := fun h => absurd h hpower }

theorem keptBy_phase (x : Phase) : KeptBy c fun s => s.phase.phase = x := by
  have hclosed : RecordClosed fun s => s.phase.phase = x :=
    recordClosed_field (fun k a b c s => by rw [writeRecord_phase]) (fun q g s => by rw [offer_phase])
  have hmove (T : Tables) : MoveClosed T (On T fun s => s.phase.phase = x) :=
    { recordClosed_on hclosed with
      tables := And.left
      calls := fun _ h => h }
  exact {
    reach := fun T => (hmove T).toReach
    governor := fun T => (hmove T).toOps fun _ h => h
    plain := fun T => { recordClosed_on hclosed with }
    raise := fun _ s _ h => ite_keeps (P := fun s => s.phase.phase = x) h (hclosed.record _ _ _ _ h)
    phase := fun h => absurd h hset
    commit := fun h => absurd h hset
    reset := fun h => absurd h hpower }

theorem keptBy_staff (hstaff : c ≠ .staffPresent) (x : Bool) : KeptBy c fun s => s.phase.staff = x := by
  have hclosed : RecordClosed fun s => s.phase.staff = x :=
    recordClosed_field (fun k a b c s => by rw [writeRecord_phase]) (fun q g s => by rw [offer_phase])
  have hmove (T : Tables) : MoveClosed T (On T fun s => s.phase.staff = x) :=
    { recordClosed_on hclosed with
      tables := And.left
      calls := fun _ h => h }
  exact {
    reach := fun T => (hmove T).toReach
    governor := fun T => (hmove T).toOps fun _ h => h
    plain := fun T => { recordClosed_on hclosed with }
    staff := fun h => absurd h hstaff
    raise := fun _ s _ h => ite_keeps (P := fun s => s.phase.staff = x) h (hclosed.record _ _ _ _ h)
    phase := fun h => absurd h hset
    commit := fun h => absurd h hset
    reset := fun h => absurd h hpower }

end

section
variable {c : Instr} (hraise : c ≠ .curtainRaise)
include hraise

theorem keptBy_holdOff : KeptBy c fun s => s.curtain.holdDrive = false := by
  have hclosed : RecordClosed fun s => s.curtain.holdDrive = false :=
    recordClosed_of_curtain (R := fun c => c.holdDrive = false)
  have hmove (T : Tables) : MoveClosed T (On T fun s => s.curtain.holdDrive = false) :=
    { recordClosed_on hclosed with
      tables := And.left
      calls := fun _ h => h
      curtain := fun _ hx h => ⟨h.1, Bool.eq_false_iff.mpr fun hon => by simpa [h.2] using hx.hold hon⟩ }
  exact {
    reach := fun T => (hmove T).toReach
    governor := fun T => (hmove T).toOps fun _ h => h
    plain := fun T => { recordClosed_on hclosed with }
    raise := fun h => absurd h hraise
    commit := fun _ _ h => h
    reset := fun _ _ _ _ => rfl }

theorem keptBy_permitOff : KeptBy c fun s => s.curtain.raisePermit = false := by
  have hclosed : RecordClosed fun s => s.curtain.raisePermit = false :=
    recordClosed_of_curtain (R := fun c => c.raisePermit = false)
  have hmove (T : Tables) : MoveClosed T (On T fun s => s.curtain.raisePermit = false) :=
    { recordClosed_on hclosed with
      tables := And.left
      calls := fun _ h => h
      curtain := fun _ hx h => ⟨h.1, Bool.eq_false_iff.mpr fun hon => by simpa [h.2] using hx.permit hon⟩ }
  exact {
    reach := fun T => (hmove T).toReach
    governor := fun T => (hmove T).toOps fun _ h => h
    plain := fun T => { recordClosed_on hclosed with }
    raise := fun h => absurd h hraise
    commit := fun _ _ h => h
    reset := fun _ _ _ _ => rfl }

end

/-- Settles O3: of each piece, every command but its owners keeps whatever value it has. -/
theorem ownersAlone : Obligations.OwnersAlone := by
  intro c s t h
  refine ⟨fun hne => ?tables, fun hne => ?working, fun hne => ?store, fun hne => ?masters, fun hne => ?phase,
    fun hne => ?staff, fun hoff hon => ?hold, fun hoff hon => ?permit⟩
  all_goals by_contra hc; push Not at hc
  case hold => exact absurd hon (by simp [kept_of_keptBy (keptBy_holdOff hc) hoff h])
  case permit => exact absurd hon (by simp [kept_of_keptBy (keptBy_permitOff hc) hoff h])
  case tables =>
    obtain ⟨hset, hpower⟩ := hc
    exact hne (unchanged_of_keptBy (keptBy_tables hset (not_or.mpr hpower) _) h)
  case working =>
    obtain ⟨hset, hwrite, hpower⟩ := hc
    exact hne (unchanged_of_keptBy (keptBy_working hset (not_or.mpr hpower) hwrite _) h)
  case store =>
    obtain ⟨hset, hreset, hon, hrestart, hend⟩ := hc
    exact hne (unchanged_of_keptBy (keptBy_store hset (not_or.mpr ⟨hon, hrestart⟩) hreset hend _) h)
  case masters =>
    obtain ⟨hmaster, hset, hpower⟩ := hc
    exact hne (unchanged_of_keptBy (keptBy_masters hset (not_or.mpr hpower) hmaster _) h)
  case phase =>
    obtain ⟨hset, hpower⟩ := hc
    exact hne (unchanged_of_keptBy (keptBy_phase hset (not_or.mpr hpower) _) h)
  case staff =>
    obtain ⟨hset, hstaff, hpower⟩ := hc
    exact hne (unchanged_of_keptBy (keptBy_staff hset (not_or.mpr hpower) hstaff _) h)

end Sys2Proof.Machine
end


section
/-! Every command answers a next state, leaves the commands waiting behind it, and ends with the model's marks clear
(R137, R148): an act that could set one ends in `endAct` or in `settle`. -/

namespace Sys2Proof.Machine

/-! ### The commands waiting -/

theorem keptBy_pending (c : Instr) (x : List Instr) : KeptBy c fun s => s.pending = x := by
  have hclosed : RecordClosed fun s => s.pending = x := recordClosed_field writeRecord_pending offer_pending
  have hmove (T : Tables) : MoveClosed T (On T fun s => s.pending = x) :=
    { recordClosed_on hclosed with
      tables := And.left
      calls := fun _ h => h }
  exact {
    reach := fun T => (hmove T).toReach
    governor := fun T => (hmove T).toOps fun _ h => h
    plain := fun T => { recordClosed_on hclosed with }
    raise := fun _ _ _ h => ite_keeps (P := fun s => s.pending = x) h ((writeRecord_pending _ _ _ _ _).trans h)
    commit := fun _ _ h => h
    reset := fun _ _ _ h => h }

/-! ### The marks -/

/-- The marks of a notice due and of an area freed are clear. -/
def MarksClear (s : State) : Prop := s.effects.noticeDue = false ∧ s.calls.freed = false

theorem plainClosed_marksClear : PlainClosed MarksClear where
  record k a b c h := ⟨(congrArg _ (writeRecord_effects k a b c _)).trans h.1, (congrArg _ (writeRecord_calls k a b c _)).trans h.2⟩
  offer q f h := ⟨(congrArg _ (offer_effects q f _)).trans h.1, (congrArg _ (offer_calls q f _)).trans h.2⟩

theorem callsClosed_noNotice : CallsClosed fun s => s.effects.noticeDue = false where
  record k a b c h := (congrArg _ (writeRecord_effects k a b c _)).trans h
  offer q f h := (congrArg _ (offer_effects q f _)).trans h
  calls _ h := h

theorem endAct_marksClear (s : State) : MarksClear (endAct s) := by simp [MarksClear]

section
variable {s : State}

theorem settle_marksClear (h : s.effects.noticeDue = false) : MarksClear (settle s) := by simpa [MarksClear] using h

theorem handle_marksClear (code : Byte) (owner : List Byte → State → State × Reply) (h : MarksClear s) :
    MarksClear (handle code owner s) := by
  unfold handle
  split
  · exact h
  · exact plainClosed_marksClear.sendReply _ _ _ (endAct_marksClear _)

theorem stepEnds_settled_marksClear (e : EntryId) (h : s.effects.noticeDue = false) :
    MarksClear (settle (stepEnds e s)) := settle_marksClear (stepEnds_keeps callsClosed_noNotice e h)

theorem takeCallDone_marksClear (f : Frame) (h : MarksClear s) : MarksClear (takeCallDone f s) := by
  unfold takeCallDone unitAnswers
  split
  · split
    · exact h
    · split
      · exact h
      · split
        · exact h
        · dsimp only
          split
          · exact ite_keeps (stepEnds_settled_marksClear _ h.1) h
          · exact h
  · exact h

theorem timedStepEnds_marksClear (kind : Byte) (e : EntryId) (h : MarksClear s) :
    MarksClear (timedStepEnds kind e s) := by
  unfold timedStepEnds
  split
  · exact stepEnds_settled_marksClear _ h.1
  · exact h

theorem messageLimit_marksClear (e : EntryId) (h : MarksClear s) : MarksClear (messageLimit e s) := by
  unfold messageLimit
  split
  · exact h
  · exact stepEnds_settled_marksClear _ (foldl_keeps (P := fun s => s.effects.noticeDue = false)
      (fun _ u hx => callsClosed_noNotice.record _ _ u _ hx) _ _ h.1)

theorem flashTurn_marksClear (e : EntryId) (h : MarksClear s) : MarksClear (flashTurn e s) := by
  unfold flashTurn
  split
  · exact h
  · dsimp only
    split
    · exact h
    · exact ite_keeps h (ite_keeps h (stepEnds_settled_marksClear _ h.1))

theorem deadlineOut_marksClear (e : EntryId) (h : MarksClear s) : MarksClear (deadlineOut e s) := by
  unfold deadlineOut
  split
  · exact ite_keeps (settle_marksClear (endCall_keeps callsClosed_noNotice _ _ h.1)) h
  · exact h

theorem clockTick_marksClear (h : MarksClear s) : MarksClear (clockTick s) := by
  have hfreed : (clockTick s).calls.freed = false := settle_freed _
  exact ⟨clockTick_keeps callsClosed_noNotice h.1, hfreed⟩

theorem writeEnds_marksClear (back w : StoreImage) (h : MarksClear s) : MarksClear (writeEnds back w s) :=
  ite_keeps (plainClosed_marksClear.record _ _ _ _ h) (plainClosed_marksClear.record _ _ _ _ h)

end

/-- A command that finds the marks clear leaves them clear. -/
theorem exec_marksClear (c : Instr) {s : State} (h : MarksClear s) : Answers c s MarksClear := by
  have hP := plainClosed_marksClear
  have hact (t : State) : MarksClear (endAct t) := endAct_marksClear t
  have hhandle (code : Byte) (owner : List Byte → State → State × Reply) : MarksClear (handle code owner s) :=
    handle_marksClear code owner h
  cases c with
  | resetAsserted | captureTimerWrap | periodicRefresh | panelFireReleased | slowSwReleased | stageReleaseReleased =>
    exact ⟨_, rfl, h⟩
  | powerOn | encoderTransition | limitReleased => exact ⟨_, rfl, hact _⟩
  | limitInAsserted | limitOutAsserted | slowSwAsserted | stageReleaseAsserted | panelFireAsserted =>
    exact answers_ite h (hact _)
  | restartPowerOnSequence | heartbeatTimerExpiry | startWindowExpiry | stallTimerExpiry | dropTimerExpiry
  | raiseTimerExpiry => exact answers_ite (hact _) h
  | readTable | writeTable | setPhase | staffPresent | setMaster | startCall | cancelCall | extendInterval | alarmAck
  | alarmConfirm | alarmCancel | alarmReset | isolateZone | endIsolation | curtainRelease | curtainRaise | curtainTest
  | readStatus | readZone | readCalls | readEvents => exact ⟨_, rfl, hhandle _ _⟩
  | frameArrival p bytes => exact answers_ite h (hP.receive p bytes h)
  | takeLevels =>
    simp only [Answers, exec, execTakeLevels]
    split
    · exact answers_ite (hP.takeLevelsFrame _ (hP.dropHead _ h)) h
    · exact ⟨_, rfl, h⟩
  | takeConsolePass =>
    simp only [Answers, exec, execTakeConsolePass]
    split
    · exact answers_ite h (hP.offer _ _ (hP.dropHead _ h))
    · exact ⟨_, rfl, h⟩
  | takeCallDone =>
    simp only [Answers, exec, execTakeCallDone]
    split
    · exact answers_ite (takeCallDone_marksClear _ (hP.dropHead _ h)) h
    · exact ⟨_, rfl, h⟩
  | takeRackReturn =>
    simp only [Answers, exec, execTakeRackReturn]
    split
    · exact answers_ite h (hP.offer _ _ (hP.dropHead _ h))
    · exact ⟨_, rfl, h⟩
  | takeZoneReport =>
    simp only [Answers, exec, execTakeZoneReport]
    split
    · exact answers_ite (hact _) h
    · exact ⟨_, rfl, h⟩
  | takePanelBeat =>
    simp only [Answers, exec, execTakePanelBeat]
    split
    · exact answers_ite (hact _) h
    · exact ⟨_, rfl, h⟩
  | takePanelOther =>
    simp only [Answers, exec, execTakePanelOther]
    split
    · exact answers_ite h (hP.dropHead _ h)
    · exact ⟨_, rfl, h⟩
  | unknownRequest =>
    simp only [Answers, exec, execUnknownRequest]
    split
    · exact ⟨_, rfl, hP.sendReply _ _ _ (hP.dropHead _ h)⟩
    · exact ⟨_, rfl, h⟩
    · exact ⟨_, rfl, h⟩
  | restart =>
    simp only [Answers, exec, execRestart]
    split
    · exact ⟨_, rfl, hP.restartRequest _ (hP.dropHead _ h)⟩
    · exact ⟨_, rfl, h⟩
  | levelStep => exact ⟨_, rfl, hP.levelStep h⟩
  | consoleTimerExpiry => exact answers_ite (hP.consoleTimerOut h) h
  | holdTimerExpiry => exact answers_ite (hP.setFreshness _ (hP.stream _ h)) h
  | noticeTimerExpiry => exact ⟨_, rfl, hP.offer _ _ (hP.noticeTimer _ h)⟩
  | statusTimerExpiry => exact ⟨_, rfl, hP.offer _ _ (hP.statusTimer _ h)⟩
  | ackTimerExpiry | investigationTimerExpiry | isolationWindowExpiry => exact ⟨_, rfl, ite_keeps (hact _) h⟩
  | chimeStepExpiry e => exact ⟨_, rfl, timedStepEnds_marksClear _ e h⟩
  | waitStepExpiry e => exact ⟨_, rfl, timedStepEnds_marksClear _ e h⟩
  | messageLimitExpiry e => exact ⟨_, rfl, messageLimit_marksClear e h⟩
  | flashTimerExpiry e => exact ⟨_, rfl, flashTurn_marksClear e h⟩
  | deadlineTimerExpiry e => exact ⟨_, rfl, deadlineOut_marksClear e h⟩
  | intervalClockTick => exact answers_ite (clockTick_marksClear h) h
  | storeWriteEnd back =>
    simp only [Answers, exec, execStoreWriteEnd]
    split
    · exact ⟨_, rfl, writeEnds_marksClear _ _ h⟩
    · exact ⟨_, rfl, h⟩
  | frameSent p => exact ⟨_, rfl, hP.frameSent p h⟩
  | transmitterFree p => exact ⟨_, rfl, hP.transmitterFree p h⟩

/-- Settles O1: the definition of a step, on a queue that is not empty. -/
theorem stepRunsFront : Obligations.StepRunsFront := by
  intro c rest s h
  unfold step
  rw [h]

/-- Settles O2: the commands waiting stay at whatever they are, and a command that finds the marks clear leaves them so. -/
theorem everyCommandRuns : Obligations.EveryCommandRuns := by
  intro c s
  obtain ⟨t, ht, hpending⟩ := (keptBy_pending c s.pending).answers (s := s) rfl
  refine ⟨t, ht, hpending, fun hnotice hfreed => ?_⟩
  obtain ⟨u, hu, hclear⟩ := exec_marksClear c (s := s) ⟨hnotice, hfreed⟩
  exact Host.Outcome.next.inj (hu.symm.trans ht) ▸ hclear

end Sys2Proof.Machine
end

section
/-! The store (R28), the two timers of console freshness (R55, R56), and the state after reset (R3, R29). -/

namespace Sys2Proof.Machine

/-! ### The store -/

theorem resetAbandonsWrite : Parts.ResetAbandonsWrite := by
  intro s
  have habandon : abandonWrite s.store
      = if s.store.writing = none then s.store else ⟨{ s.store.image with marker := none }, none⟩ := by
    unfold abandonWrite
    cases s.store.writing <;> rfl
  exact congrArg (fun x => Host.Outcome.next ((s.withLines { s.lines with reset := true }).withStore x)) habandon

theorem storeWriteEnds : Parts.StoreWriteEnds := by
  refine fun s back => ⟨fun h => ?idle, fun w h => ⟨fun ⟨hgood, hsame⟩ => ?stored, fun hbad => ?failed⟩⟩
  case idle => simp only [exec, execStoreWriteEnd, h]
  case stored =>
    have hends : imageGood back && decide (back = w) := by simp [← hsame, hgood]
    simp only [exec, execStoreWriteEnd, h, writeEnds, if_pos hends]
  case failed =>
    have hends : ¬(imageGood back && decide (back = w)) := by simpa using hbad
    simp only [exec, execStoreWriteEnd, h, writeEnds, if_neg hends, readBackCheck, eraseMarker]

/-- Settles O5: the two outcomes of a store write by the test of what is read back, and the abandoning by whether a write is
under way. -/
theorem storeWrites : Obligations.StoreWrites := ⟨resetAbandonsWrite, storeWriteEnds⟩

/-! ### Console freshness -/

theorem consoleTimerRunsOut : Parts.ConsoleTimerRunsOut := by
  intro s hruns
  have hexec : exec .consoleTimerExpiry s = .next (consoleTimerOut s) := if_pos (Option.isSome_iff_ne_none.mpr hruns)
  exact ⟨fun hhold => hexec.trans (congrArg _ (if_neg hhold)), fun hhold => hexec.trans (congrArg _ (if_pos hhold))⟩

theorem holdTimerRunsOut : Parts.HoldTimerRunsOut := by
  intro s hruns hheld
  have hexec : exec .holdTimerExpiry s = .next (holdTimerOut s) := if_pos (Option.isSome_iff_ne_none.mpr hruns)
  rw [hexec, holdTimerOut, setFreshness, withStream_stream, hheld]
  rfl

/-- Settles O14: each timer's expiry is the definition's branch for the hold time. -/
theorem consoleTimersRunOut : Obligations.ConsoleTimersRunOut := ⟨consoleTimerRunsOut, holdTimerRunsOut⟩

/-! ### The state after reset -/

theorem defaultTables_valid : validate defaultTables = none := by decide +kernel

theorem zoneAt_reset (z : ZoneId) : zoneAt State.reset z = freshZone := Vector.getElem_replicate z.isLt

theorem callAt_reset (e : EntryId) : callAt State.reset e = none := Vector.getElem_replicate e.isLt

/-- With every zone fresh nothing is in the effect set, and no stage's condition holds but a lost link's. -/
theorem alarmLaw_of_fresh {s : State} (hzones : s.monitor.zones = Vector.replicate 66 freshZone)
    (hlink : s.monitor.link = .awaiting) (hset : s.effects.set = emptyEffects) (hstage : s.effects.stage = .normal) :
    AlarmLaw s := by
  have hnone : zonesIn (Vector.replicate 66 freshZone) .alarm = [] :=
    List.filter_eq_nil_iff.mpr fun z _ => by simp [freshZone]
  have hquiet (p : Zone → Bool) (hp : p freshZone = false) : anyZone (Vector.replicate 66 freshZone) p = false := by
    rw [anyZone, List.any_eq_false]
    intro z hz
    rw [Vector.toList_replicate] at hz
    simp [List.eq_of_mem_replicate hz, hp]
  refine ⟨?_, ?_⟩
  · rw [hset, effectSetOf, hzones, hnone]
    rfl
  · rw [hstage, stageOf, hzones, hlink, hquiet _ rfl, hquiet _ rfl, hquiet _ rfl, hquiet _ rfl]
    rfl

theorem openWindows_fresh : openWindows (Vector.replicate 66 freshZone) = 0 := by
  rw [openWindows, Vector.toList_replicate, List.countP_replicate]
  rfl

/-- Settles O13: every block is at its fresh value, with no zone out of QUIET and no call in the table. -/
theorem resetMeetsLaws : Obligations.ResetMeetsLaws := by
  have hzone (st : ZoneState) (z : ZoneId) (h : (zoneAt State.reset z).state = st) : st = .quiet := by
    rw [zoneAt_reset] at h
    exact h.symm
  refine ⟨freshLinks_fits _ _ _, freshLog_law _ _, curtainLaw_of_off rfl rfl, Nat.zero_le _, fun z => ?maps,
    alarmLaw_of_fresh rfl rfl rfl rfl, rfl, ⟨?windows, fun z h => ?window⟩, fun y _ h => (nomatch hzone _ y h),
    ⟨fun e c h => ?holders, fun d _ x _ _ h => ?areas⟩, fun e => ⟨fun h => (nomatch h), fun ⟨c, h, _⟩ => ?pending⟩,
    fun ⟨z, h⟩ => (nomatch hzone _ z h), defaultTables_valid,
    ⟨fun e c h => ?entries, .nil, fun d _ x _ _ h => ?waiting⟩, fun _ e _ => callAt_reset e, rfl, rfl⟩
  case maps =>
    rw [zoneAt_reset]
    exact ⟨Nat.zero_le _, .nil⟩
  case windows => exact openWindows_fresh.trans_le (Nat.zero_le _)
  case window => simp [zoneAt_reset, freshZone] at h
  case holders => exact nomatch (callAt_reset e).symm.trans h
  case areas => exact nomatch (callAt_reset d).symm.trans h
  case pending => exact nomatch (callAt_reset e).symm.trans h
  case entries => exact nomatch (callAt_reset e).symm.trans h
  case waiting => exact nomatch (callAt_reset d).symm.trans h

end Sys2Proof.Machine
end


section
/-! What is laid out reads back: frames (R165, R166) and the entries of every table (2.5, R53, R74, R127, R139, R141,
R168). -/

namespace Sys2Proof.Machine

@[simp] theorem word16_bytes (w : Word16) : word16 (w.extractLsb' 8 8) (w.extractLsb' 0 8) = w := by
  unfold word16
  ext i hi
  simp only [BitVec.getElem_append, BitVec.getElem_extractLsb']
  split
  next => simp only [Nat.zero_add, BitVec.getLsbD_eq_getElem hi]
  next h => rw [← BitVec.getLsbD_eq_getElem hi, show 8 + (i - 8) = i by omega]

@[simp] theorem word24_bytes (w : AreaSet) :
    word24 (w.extractLsb' 16 8) (w.extractLsb' 8 8) (w.extractLsb' 0 8) = w := by
  unfold word24
  ext i hi
  simp only [BitVec.getElem_append, BitVec.getElem_extractLsb']
  split
  next => simp only [Nat.zero_add, BitVec.getLsbD_eq_getElem hi]
  next h =>
    rw [← BitVec.getLsbD_eq_getElem hi]
    split
    next => rw [show 8 + (i - 8) = i by omega]
    next => rw [show 16 + (i - 8 - 8) = i by omega]

/-! ### Frames -/

section
variable (kind station : Byte) {body : List Byte}

/-- The bytes of a frame that its check is computed over. -/
def frameHead (kind station : Byte) (body : List Byte) : List Byte := kind :: station :: byteOf body.length :: body

theorem mkFrame_eq (body : List Byte) :
    mkFrame kind station body = frameHead kind station body ++ bytes16 (crc (frameHead kind station body)) := rfl

theorem length_frameHead (body : List Byte) : (frameHead kind station body).length = 3 + body.length := by
  simp only [frameHead, List.length_cons]
  omega

@[simp] theorem length_mkFrame (body : List Byte) : (mkFrame kind station body).length = body.length + 5 := by
  rw [mkFrame_eq, List.length_append, length_frameHead, length_bytes16]
  omega

@[simp] theorem frameKind_mkFrame (body : List Byte) : frameKind (mkFrame kind station body) = kind := rfl

@[simp] theorem frameStation_mkFrame (body : List Byte) : frameStation (mkFrame kind station body) = station := rfl

theorem lengthByte_mkFrame (h : body.length < 256) : (byteAt (mkFrame kind station body) 2).toNat = body.length := by
  have hbyte : byteAt (mkFrame kind station body) 2 = byteOf body.length := rfl
  rw [hbyte, byteOf, BitVec.toNat_ofNat]
  exact Nat.mod_eq_of_lt h

theorem frameBody_mkFrame (h : body.length < 256) : frameBody (mkFrame kind station body) = body := by
  rw [frameBody, lengthByte_mkFrame kind station h]
  simp [mkFrame]

/-- The check bytes of a frame, where its length byte says they stand. -/
theorem checkBytes_mkFrame (body : List Byte) (i : Nat) :
    byteAt (mkFrame kind station body) (3 + body.length + i) = byteAt (bytes16 (crc (frameHead kind station body))) i := by
  rw [mkFrame_eq]
  exact byteAt_append_right (length_frameHead kind station body) _ i

theorem judgeFrame_mkFrame (h : body.length ≤ 200) : judgeFrame (mkFrame kind station body) = .good := by
  have hlen := lengthByte_mkFrame kind station (body := body) (by omega)
  have hlength : ¬((mkFrame kind station body).length < 5 ∨ 200 < body.length) := by simp [h]
  have hhead : (mkFrame kind station body).take (3 + body.length) = frameHead kind station body := by
    rw [mkFrame_eq, ← length_frameHead kind station body, List.take_left']
    rfl
  have hhigh := checkBytes_mkFrame kind station body 0
  have hlow := checkBytes_mkFrame kind station body 1
  rw [Nat.add_zero] at hhigh
  rw [show 3 + body.length + 1 = 4 + body.length by omega] at hlow
  unfold judgeFrame
  simp only [hlen, hhead, hhigh, hlow, length_mkFrame]
  rw [if_neg (by simp [h]), if_neg]
  simp [byteAt, bytes16]

end

/-- Settles O6: the check stands behind the bytes it was computed over, and the length byte says where. -/
theorem builtFrameReadsBack : Obligations.BuiltFrameReadsBack := fun kind station _ h =>
  ⟨judgeFrame_mkFrame kind station h, rfl, rfl, frameBody_mkFrame kind station (by omega), length_mkFrame _ _ _⟩

/-! ### Repeated fields -/

theorem byteAt_flatMap {α : Type} {f : α → List Byte} {w : Nat} (hw : ∀ x, (f x).length = w) {l : List α} {i j : Nat}
    (hi : i < l.length) (hj : j < w) : byteAt (l.flatMap f) (w * i + j) = byteAt (f l[i]) j := by
  induction l generalizing i with
  | nil => cases hi
  | cons x xs ih =>
    rw [List.flatMap_cons]
    cases i with
    | zero => rw [Nat.mul_zero, Nat.zero_add, byteAt_append_left (by rwa [hw])]; rfl
    | succ i =>
      rw [show w * (i + 1) + j = w + (w * i + j) by ring, byteAt_append_right (hw x)]
      exact ih (Nat.lt_of_succ_lt_succ hi)

/-- A byte of the i-th of a record's repeated fields, behind its leading bytes. -/
theorem byteAt_repeated {α : Type} {f : α → List Byte} {w k n : Nat} (hw : ∀ x, (f x).length = w) {lead : List Byte}
    (hlead : lead.length = k) (v : Vector α n) (i : Fin n) {j : Nat} (hj : j < w) :
    byteAt (lead ++ v.toList.flatMap f) (k + w * i.val + j) = byteAt (f v[i]) j := by
  rw [Nat.add_assoc, byteAt_append_right hlead, byteAt_flatMap hw (by simp) hj]
  rfl

theorem vector_ofFn_eq {α : Type} {n : Nat} {f : Fin n → α} {v : Vector α n} (h : ∀ i : Fin n, f i = v[i]) :
    Vector.ofFn f = v :=
  Vector.ext fun i hi => by simpa using h ⟨i, hi⟩

theorem stepOfBytes_program (p : Program) (i : Fin 12) : stepOfBytes (programBytes p) (2 + 4 * i.val) = p.steps[i] := by
  have hbyte (j : Nat) (hj : j < 4) := byteAt_repeated (k := 2) (lead := [p.cls, p.deadline]) length_stepBytes rfl p.steps i hj
  have hfirst := hbyte 0 (by omega)
  rw [Nat.add_zero] at hfirst
  unfold stepOfBytes programBytes
  rw [hfirst, hbyte 1 (by omega), hbyte 2 (by omega),
    hbyte 3 (by omega)]
  rfl

theorem scheduleEntryOfBytes_schedule (r : ScheduleRecord) (i : Fin 6) :
    scheduleEntryOfBytes (scheduleBytes r) (4 + 7 * i.val) = r.entries[i] := by
  have hbyte (j : Nat) (hj : j < 7) := byteAt_repeated (k := 4) (lead := bytes16 r.length ++ bytes16 r.spacing)
    length_scheduleEntryBytes rfl r.entries i hj
  have hfirst := hbyte 0 (by omega)
  rw [Nat.add_zero] at hfirst
  unfold scheduleEntryOfBytes scheduleBytes
  rw [hfirst, hbyte 1 (by omega), hbyte 2 (by omega),
    hbyte 3 (by omega), hbyte 4 (by omega), hbyte 5 (by omega), hbyte 6 (by omega)]
  simp [scheduleEntryBytes, byteAt, bytes16, bytes24]

theorem regionOfBytes_link (r : LinkRecord) (i : Fin 7) :
    (⟨word16 (byteAt (linkBytes r) (2 + 4 * i.val)) (byteAt (linkBytes r) (3 + 4 * i.val)),
      word16 (byteAt (linkBytes r) (4 + 4 * i.val)) (byteAt (linkBytes r) (5 + 4 * i.val))⟩ : QueueRegion) = r.plan[i] := by
  have hbyte (j : Nat) (hj : j < 4) :=
    byteAt_repeated (k := 2) (lead := [r.station, r.heartbeat]) length_regionBytes rfl r.plan i hj
  have hfirst := hbyte 0 (by omega)
  rw [Nat.add_zero] at hfirst
  unfold linkBytes
  rw [show 3 + 4 * i.val = 2 + 4 * i.val + 1 by omega, show 4 + 4 * i.val = 2 + 4 * i.val + 2 by omega,
    show 5 + 4 * i.val = 2 + 4 * i.val + 3 by omega, hfirst, hbyte 1 (by omega), hbyte 2 (by omega), hbyte 3 (by omega)]
  simp [regionBytes, byteAt, bytes16]

/-! ### The layouts -/

theorem programOfBytes_programBytes (p : Program) : programOfBytes (programBytes p) = p :=
  congrArg (Program.mk p.cls p.deadline) (vector_ofFn_eq (stepOfBytes_program p))

theorem scheduleOfBytes_scheduleBytes (r : ScheduleRecord) : scheduleOfBytes (scheduleBytes r) = r := by
  have hlength : word16 (byteAt (scheduleBytes r) 0) (byteAt (scheduleBytes r) 1) = r.length := word16_bytes r.length
  have hspacing : word16 (byteAt (scheduleBytes r) 2) (byteAt (scheduleBytes r) 3) = r.spacing := word16_bytes r.spacing
  rw [scheduleOfBytes, hlength, hspacing, vector_ofFn_eq (scheduleEntryOfBytes_schedule r)]

theorem linkOfBytes_linkBytes (r : LinkRecord) : linkOfBytes (linkBytes r) = r :=
  congrArg (LinkRecord.mk r.station r.heartbeat) (vector_ofFn_eq (regionOfBytes_link r))

theorem streamOfBytes_streamBytes (r : StreamRecord) : streamOfBytes (streamBytes r) = r :=
  congrArg (StreamRecord.mk · r.hold) (word16_bytes r.timeout)

theorem curtainOfBytes_curtainBytes (r : CurtainRecord) : curtainOfBytes (curtainBytes r) = r := by
  simp [curtainOfBytes, curtainBytes, byteAt, bytes16]

theorem responseOfBytes_responseBytes (r : ResponseRow) : responseOfBytes (responseBytes r) = r := by
  simp [responseOfBytes, responseBytes, byteAt, bytes16, bytes24]

theorem alarmOfBytes_alarmBytes (r : AlarmRecord) : alarmOfBytes (alarmBytes r) = r := by
  simp [alarmOfBytes, alarmBytes, byteAt, bytes24]

/-- Settles O7: fields of several bytes are put together again, and a repeated field stands at its multiple of its
width. -/
theorem layoutsReadBack : Obligations.LayoutsReadBack :=
  ⟨fun _ => ⟨rfl, rfl⟩, fun _ => ⟨rfl, rfl⟩, fun _ => ⟨rfl, rfl⟩, fun e => ⟨streamOfBytes_streamBytes e, rfl⟩,
    fun e => ⟨curtainOfBytes_curtainBytes e, rfl⟩, fun e => ⟨responseOfBytes_responseBytes e, rfl⟩,
    fun e => ⟨alarmOfBytes_alarmBytes e, rfl⟩, fun e => ⟨programOfBytes_programBytes e, length_programBytes e⟩,
    fun e => ⟨scheduleOfBytes_scheduleBytes e, length_scheduleBytes e⟩,
    fun e => ⟨linkOfBytes_linkBytes e, length_linkBytes e⟩⟩

end Sys2Proof.Machine
end


section
/-! What a queue does with a frame (R170): taking its head, filing one behind the others, and refusing one. -/

namespace Sys2Proof.Machine

/-! ### One part replaced -/

section
variable (s : State)

theorem onlyTouches_withLinks (x : LinkState) : OnlyTouches [.links] s (s.withLinks x) := by
  intro b hb
  cases b with
  | links => exact absurd (List.mem_singleton_self _) hb
  | _ => rfl

theorem onlyTouches_withStream (x : StreamState) : OnlyTouches [.stream] s (s.withStream x) := by
  intro b hb
  cases b with
  | stream => exact absurd (List.mem_singleton_self _) hb
  | _ => rfl

theorem onlyTouches_withLevels (x : LevelState) : OnlyTouches [.levels] s (s.withLevels x) := by
  intro b hb
  cases b with
  | levels => exact absurd (List.mem_singleton_self _) hb
  | _ => rfl

theorem onlyTouches_withLog (x : LogState) : OnlyTouches [.log] s (s.withLog x) := by
  intro b hb
  cases b with
  | log => exact absurd (List.mem_singleton_self _) hb
  | _ => rfl

theorem onlyTouches_withCalls (x : CallState) : OnlyTouches [.calls] s (s.withCalls x) := by
  intro b hb
  cases b with
  | calls => exact absurd (List.mem_singleton_self _) hb
  | _ => rfl

theorem onlyTouches_withLines (x : Lines) : OnlyTouches [.lines] s (s.withLines x) := by
  intro b hb
  cases b with
  | lines => exact absurd (List.mem_singleton_self _) hb
  | _ => rfl

theorem onlyTouches_withRestart (x : RestartState) : OnlyTouches [.restart] s (s.withRestart x) := by
  intro b hb
  cases b with
  | restart => exact absurd (List.mem_singleton_self _) hb
  | _ => rfl

end

/-! ### The head taken -/

theorem popFrame_same (q : QueueId) (l : LinkState) : (popFrame q l).queues[q.ix]
    = ⟨l.queues[q.ix].frames.tail, if l.queues[q.ix].frames.tail.isEmpty then false else l.queues[q.ix].latched⟩ := by
  simp [popFrame]

theorem popFrame_other {q r : QueueId} (h : r ≠ q) (l : LinkState) : (popFrame q l).queues[r.ix] = l.queues[r.ix] := by
  have hne : q.ix.val ≠ r.ix.val := fun he => h (ix_inj (Fin.ext he.symm))
  simp [popFrame, Vector.getElem_set_ne _ _ hne]

@[simp] theorem popFrame_tx (q : QueueId) (l : LinkState) : (popFrame q l).tx = l.tx := rfl

@[simp] theorem popFrame_badLatch (q : QueueId) (l : LinkState) : (popFrame q l).badLatch = l.badLatch := rfl

theorem freeBytes_popFrame_other {q r : QueueId} (h : r ≠ q) (t : Tables) (l : LinkState) :
    freeBytes t (popFrame q l) r = freeBytes t l r := by rw [freeBytes, freeBytes, popFrame_other h]

theorem dropHead_onlyTouches (q : QueueId) (s : State) : OnlyTouches [.links] s (dropHead q s) :=
  onlyTouches_withLinks s _

theorem headFrame_of_atHead {s : State} {q : QueueId} {f : Frame} {rest : List Frame} (h : AtHead s q f rest) :
    headFrame s q = some f := by rw [headFrame, h, List.head?_cons]

theorem consoleHead_of_atHead {s : State} {f : Frame} {rest : List Frame} (hidle : s.restart = .idle)
    (h : AtHead s .consoleRx f rest) : consoleHead s = some f := by
  rw [consoleHead, if_pos hidle, headFrame_of_atHead h]

theorem headFrame_eq_none {s : State} {q : QueueId} : headFrame s q = none ↔ s.links.queues[q.ix].frames = [] :=
  List.head?_eq_none_iff

/-- A queue after its head is taken (R170). -/
theorem headLeavesQueue : Parts.HeadLeavesQueue := by
  intro s q
  have hsame := popFrame_same q s.links
  refine ⟨dropHead_onlyTouches q s, rfl, rfl, congrArg Queue.frames hsame, fun hempty => ?_, fun hmore => ?_,
    fun r hr => popFrame_other hr _⟩
  · rw [dropHead_links, hsame, hempty]
    rfl
  · rw [dropHead_links, hsame, if_neg (by simpa using hmore)]

/-! ### A frame filed -/

/-- The Link Ports with a frame filed behind the others of a queue. -/
def filedIn (s : State) (q : QueueId) (f : Frame) : LinkState := startIfFree s.now q f (pushFrame q f s.links)

theorem filedIn_same (s : State) (q : QueueId) (f : Frame) : (filedIn s q f).queues[q.ix]
    = { s.links.queues[q.ix] with frames := s.links.queues[q.ix].frames ++ [f] } := by
  rw [filedIn, startIfFree_queues, pushFrame_same]

theorem filedIn_other {q r : QueueId} (s : State) (f : Frame) (h : r ≠ q) :
    (filedIn s q f).queues[r.ix] = s.links.queues[r.ix] := by
  rw [filedIn, startIfFree_queues, pushFrame_other h]

theorem startIfFree_badLatch (now : Nat) (q : QueueId) (f : Frame) (l : LinkState) :
    (startIfFree now q f l).badLatch = l.badLatch := by
  unfold startIfFree
  split
  · rfl
  · split <;> rfl

theorem filedIn_badLatch (s : State) (q : QueueId) (f : Frame) : (filedIn s q f).badLatch = s.links.badLatch := by
  rw [filedIn, startIfFree_badLatch]
  rfl

/-- A receive queue has no transmitter to start. -/
theorem filedIn_of_receive (s : State) (p : Port) (f : Frame) :
    filedIn s (receiveQueue p) f = pushFrame (receiveQueue p) f s.links := by
  cases p <;> rfl

section
variable {s : State} {q : QueueId} {f : Frame}

theorem tryFile_of_room (h : f.length + 4 ≤ freeBytes s.tables s.links q) :
    tryFile s.tables s.now q f s.links = some (filedIn s q f) := if_pos (decide_eq_true h)

theorem tryFile_of_full (h : freeBytes s.tables s.links q < f.length + 4) :
    tryFile s.tables s.now q f s.links = none := if_neg fun hr => Nat.not_le.mpr h (of_decide_eq_true hr)

theorem offer_of_room (h : f.length + 4 ≤ freeBytes s.tables s.links q) : offer q f s = s.withLinks (filedIn s q f) :=
  offer_of_some (tryFile_of_room h)

theorem offer_of_full (h : freeBytes s.tables s.links q < f.length + 4) : offer q f s = overflowed q f s :=
  offer_of_none (tryFile_of_full h)

theorem overflowed_of_latched (f : Frame) (h : s.links.queues[q.ix].latched = true) : overflowed q f s = s := if_pos h

theorem overflowed_of_open (f : Frame) (h : s.links.queues[q.ix].latched = false) : overflowed q f s
    = (writeRecord .queueOverflow q.code (frameKind f) (byteSat f.length) s).withLinks
        (closeLatch q (writeRecord .queueOverflow q.code (frameKind f) (byteSat f.length) s).links) :=
  if_neg (Bool.eq_false_iff.mp h)

end

theorem closeLatch_same (q : QueueId) (l : LinkState) :
    (closeLatch q l).queues[q.ix] = { l.queues[q.ix] with latched := true } := modAt_same _ _ _

theorem closeLatch_other {q r : QueueId} (h : r ≠ q) (l : LinkState) : (closeLatch q l).queues[r.ix] = l.queues[r.ix] :=
  modAt_other _ _ fun he => h (ix_inj he)

/-- Only CONSOLE-TX can take a record's EVENT frame (R187). -/
theorem writeRecord_queue_other {q : QueueId} (h : q ≠ .consoleTx) (k : EventKind) (a b c : Byte) (s : State) :
    (writeRecord k a b c s).links.queues[q.ix] = s.links.queues[q.ix] := by
  change (eventOffered s _).queues[q.ix] = _
  unfold eventOffered
  cases hfile : tryFile s.tables s.now .consoleTx (eventFrame s.tables (recordNow s k a b c)) s.links with
  | none => rfl
  | some l =>
    obtain ⟨-, -, hother, -⟩ := tryFile_some hfile
    exact hother q h

theorem writeRecord_badLatch (k : EventKind) (a b c : Byte) (s : State) :
    (writeRecord k a b c s).links.badLatch = s.links.badLatch := by
  change (eventOffered s _).badLatch = _
  unfold eventOffered
  cases hfile : tryFile s.tables s.now .consoleTx (eventFrame s.tables (recordNow s k a b c)) s.links with
  | none => rfl
  | some l =>
    obtain ⟨-, -, -, hlatch⟩ := tryFile_some hfile
    exact hlatch

theorem byteSat_eq (n : Nat) : byteSat n = byteOf (min 255 n) := by rw [byteSat, Nat.min_comm]

/-- A frame refused with the latch open: its record, and the latch closed (R170). -/
theorem overflowed_open_effect {s : State} {q : QueueId} (f : Frame) (h : s.links.queues[q.ix].latched = false) :
    OnlyTouches [.links, .log] s (overflowed q f s) ∧ (overflowed q f s).links.queues[q.ix].latched = true
      ∧ (q ≠ .consoleTx → (overflowed q f s).links.queues[q.ix].frames = s.links.queues[q.ix].frames)
      ∧ (overflowed q f s).log = loggedIn s.log
          ⟨s.log.next, houseClock s, .queueOverflow, q.code, byteAt f 0, byteOf (min 255 f.length)⟩ := by
  rw [overflowed_of_open f h]
  refine ⟨onlyTouches_trans (writeRecord_onlyTouches _ _ _ _ s)
      (onlyTouches_mono (by simp) (onlyTouches_withLinks _ _)), ?_, fun hq => ?_, ?_⟩
  · rw [withLinks_links, closeLatch_same]
  · rw [withLinks_links, closeLatch_same, writeRecord_queue_other hq]
  · rw [withLinks_log, writeRecord_log, byteSat_eq]
    rfl

/-- A frame offered to a queue (R170). -/
theorem frameOffered : Parts.FrameOffered := by
  refine fun s q f => ⟨fun hroom => ?filed, fun hfull => ⟨fun hlatched => ?latched, fun hopen => ?opened⟩⟩
  case filed =>
    rw [offer_of_room hroom]
    exact ⟨onlyTouches_withLinks s _, filedIn_same s q f, fun r hr => filedIn_other s f hr⟩
  case latched => exact (offer_of_full hfull).trans (overflowed_of_latched f hlatched)
  case opened =>
    rw [offer_of_full hfull]
    exact overflowed_open_effect f hopen

/-! ### Frames passed on, requests refused as parsed, and replies -/

theorem forThePart_iff {s : State} {f : Frame} :
    forThePart s f = true ↔ frameKind f = 0x20 ∧ frameStation f = s.tables.link.station :=
  Bool.and_eq_true_iff.trans (and_congr decide_eq_true_iff decide_eq_true_iff)

/-- The frames passed on unchanged, and the panel frames discarded (R172 case 3, R173 case 3, R174). -/
theorem framesPassedOn : Parts.FramesPassedOn := by
  refine ⟨fun s f rest hidle hhead hlevels hpart => ?console, fun s f rest hhead hkind => ?rack,
    fun s f rest hhead hreport hbeat => ?panel⟩
  case console =>
    have hother : ¬(frameKind f = kindLevels || forThePart s f) := fun h =>
      (Bool.or_eq_true_iff.mp h).elim (fun h => hlevels (of_decide_eq_true h)) fun h => hpart (forThePart_iff.mp h)
    simp only [exec, execTakeConsolePass, consoleHead_of_atHead hidle hhead, if_neg hother]
  case rack =>
    have hother : ¬frameKind f = kindCallDone := hkind
    simp only [exec, execTakeRackReturn, headFrame_of_atHead hhead, if_neg hother]
  case panel =>
    have hother : ¬(frameKind f = kindZoneReport || frameKind f = kindPanelBeat) := fun h =>
      (Bool.or_eq_true_iff.mp h).elim (fun h => hreport (of_decide_eq_true h)) fun h => hbeat (of_decide_eq_true h)
    simp only [exec, execTakePanelOther, headFrame_of_atHead hhead, if_neg hother]

theorem parseBody_short {body : List Byte} (h : body.length < 2) :
    parseBody body = .refused (byteAt body 0) 0 .badFormat := if_pos h

theorem parseBody_unknown {body : List Byte} (h : 2 ≤ body.length)
    (hcode : argCountOk (byteAt body 1) (body.length - 2) = none) :
    parseBody body = .refused (byteAt body 0) (byteAt body 1) .unknownRequest := by
  rw [parseBody, if_neg (Nat.not_lt.mpr h), hcode]

theorem parseBody_wrongCount {body : List Byte} (h : 2 ≤ body.length)
    (hcount : argCountOk (byteAt body 1) (body.length - 2) = some false) :
    parseBody body = .refused (byteAt body 0) (byteAt body 1) .badFormat := by
  rw [parseBody, if_neg (Nat.not_lt.mpr h), hcount]

/-- A code outside 1–22 is not in the catalogue (10.2). -/
theorem argCountOk_unknown {code : Byte} (n : Nat) (h : code = 0 ∨ 22 < code.toNat) : argCountOk code n = none := by
  unfold argCountOk
  rcases h with rfl | h
  · rfl
  · obtain ⟨k, hk⟩ : ∃ k, code.toNat = k + 23 := ⟨code.toNat - 23, by omega⟩
    simp [hk]

theorem exec_unknownRequest_of_refused {s : State} {f : Frame} {tag code : Byte} {why : Reason}
    (hhead : consoleHead s = some f) (hpart : forThePart s f = true)
    (hparse : parseBody (frameBody f) = .refused tag code why) :
    exec .unknownRequest s = .next (sendReply tag code (refuse why) (dropHead .consoleRx s)) := by
  have hrequest : headRequest s = some (.refused tag code why) := by
    simp only [headRequest, hhead, hpart, if_true, hparse]
  simp only [exec, execUnknownRequest, hrequest]

/-- Requests refused as they are parsed (R177 tests 1 to 3). -/
theorem unparsedRequestRefused : Parts.UnparsedRequestRefused := by
  intro s f rest hidle hhead hkind hstation
  have hrefused {tag code : Byte} {why : Reason} (h : parseBody (frameBody f) = .refused tag code why) :=
    exec_unknownRequest_of_refused (consoleHead_of_atHead hidle hhead) (forThePart_iff.mpr ⟨hkind, hstation⟩) h
  exact ⟨fun hshort => hrefused (parseBody_short hshort),
    fun hlen hcode => hrefused (parseBody_unknown hlen (argCountOk_unknown _ hcode)),
    fun hlen hcount => hrefused (parseBody_wrongCount hlen hcount)⟩

/-- Replies as frames (R165, R178). -/
theorem repliesBuilt : Parts.RepliesBuilt := by
  refine ⟨fun _ _ _ _ => rfl, fun s tag code why => ?_⟩
  cases why <;> rfl

/-- Settles O10: each part by the definition of taking, offering or replying, read once. -/
theorem framesTaken : Obligations.FramesTaken :=
  ⟨framesPassedOn, unparsedRequestRefused, headLeavesQueue, frameOffered, repliesBuilt⟩

end Sys2Proof.Machine
end

section
/-! A frame's arrival (R167), the transmitters (R175), and RESTART with the power-on sequence that follows its reply
(R185). -/

namespace Sys2Proof.Machine

/-! ### The arrival of a frame -/

section
variable {s : State} {p : Port} {bs : List Byte}

theorem exec_frameArrival_ignored (h : s.lines.reset = true ∨ s.restart = .due ∨ bs = []) :
    exec (.frameArrival p bs) s = .next s := by
  have hskip : loading s || bs.isEmpty := by rcases h with h | h | h <;> simp [loading, h]
  simp only [exec, execFrameArrival, if_pos hskip]

theorem exec_frameArrival_judged (hline : s.lines.reset = false) (hdue : s.restart ≠ .due) (hsome : bs ≠ []) :
    exec (.frameArrival p bs) s = .next (receive p bs s) := by
  have htaken : ¬(loading s || bs.isEmpty) := by simp [loading, hline, hdue, hsome]
  simp only [exec, execFrameArrival, if_neg htaken]

theorem badFrame_of_latched (cause : Byte) (h : s.links.badLatch[p.ix] = true) : badFrame p cause bs s = s := if_pos h

/-- A bad frame with the port's latch open: its record, and the latch closed (R167). -/
theorem badFrame_open_effect (cause : Byte) (h : s.links.badLatch[p.ix] = false) :
    (badFrame p cause bs s).links.badLatch[p.ix] = true
      ∧ (badFrame p cause bs s).log
        = loggedIn s.log ⟨s.log.next, houseClock s, .frameBad, p.code, cause, byteOf (min 255 bs.length)⟩
      ∧ OnlyTouches [.links, .log] s (badFrame p cause bs s) := by
  have hbad : badFrame p cause bs s = setBadLatch p true (writeRecord .frameBad p.code cause (byteSat bs.length) s) :=
    if_neg (by simp [h])
  rw [hbad, byteSat_eq]
  exact ⟨putAt_same _ _ _, rfl, onlyTouches_trans (writeRecord_onlyTouches _ _ _ _ s)
    (onlyTouches_mono (by simp) (onlyTouches_withLinks _ _))⟩

theorem judgeFrame_badLength
    (h : bs.length < 5 ∨ 200 < (byteAt bs 2).toNat ∨ bs.length ≠ (byteAt bs 2).toNat + 5) :
    judgeFrame bs = .badLength := if_pos (by simpa [or_assoc] using h)

theorem judgeFrame_checked
    (h : ¬(bs.length < 5 ∨ 200 < (byteAt bs 2).toNat ∨ bs.length ≠ (byteAt bs 2).toNat + 5)) :
    judgeFrame bs = if crc (bs.take (3 + (byteAt bs 2).toNat))
        ≠ word16 (byteAt bs (3 + (byteAt bs 2).toNat)) (byteAt bs (4 + (byteAt bs 2).toNat))
      then .badCheck else .good := by
  unfold judgeFrame
  rw [if_neg (by simpa [or_assoc] using h)]
  simp only [bne_iff_ne]

end

/-- Settles O8: the verdict on the run of bytes, and then what the queue does with a good one. -/
theorem frameArrivalJudged : Obligations.FrameArrivalJudged := by
  intro s p bs
  refine ⟨exec_frameArrival_ignored, fun hline hdue hsome => ?_⟩
  have hexec := exec_frameArrival_judged (p := p) hline hdue hsome
  have hbad {v : Verdict} {cause : Byte} (hreceive : receive p bs s = badFrame p cause bs s) :
      (s.links.badLatch[p.ix] = true → exec (.frameArrival p bs) s = .next s)
        ∧ (s.links.badLatch[p.ix] = false → Answers (.frameArrival p bs) s fun t => t.links.badLatch[p.ix] = true
          ∧ t.log = loggedIn s.log ⟨s.log.next, houseClock s, .frameBad, p.code, cause, byteOf (min 255 bs.length)⟩
          ∧ OnlyTouches [.links, .log] s t) := by
    rw [hreceive] at hexec
    exact ⟨fun h => hexec.trans (congrArg _ (badFrame_of_latched cause h)),
      fun h => ⟨_, hexec, badFrame_open_effect cause h⟩⟩
  refine ⟨fun hlen => ?length, fun hlen hcheck => ?check, fun hlen hcheck hroom => ?filed, fun hlen hcheck hfull => ?full⟩
  case length => exact hbad (v := .badLength) (by simp only [receive, judgeFrame_badLength hlen])
  case check => exact hbad (v := .badCheck) (by simp only [receive, judgeFrame_checked hlen, if_pos hcheck])
  all_goals
    have hgood : receive p bs s = offer (receiveQueue p) bs (setBadLatch p false s) := by
      simp only [receive, judgeFrame_checked hlen, if_neg hcheck]
    rw [hgood] at hexec
  case filed =>
    refine ⟨_, hexec, ?_⟩
    rw [offer_of_room (s := setBadLatch p false s) hroom]
    refine ⟨onlyTouches_withLinks s _, filedIn_same (setBadLatch p false s) _ _,
      fun r hr => filedIn_other (setBadLatch p false s) _ hr, filedIn_badLatch (setBadLatch p false s) _ _, ?_⟩
    rw [withLinks_links, filedIn_of_receive]
    rfl
  case full =>
    have hshort : min 255 bs.length = bs.length := by
      push Not at hlen
      omega
    rw [offer_of_full (s := setBadLatch p false s) hfull] at hexec
    refine ⟨fun hlatched => hexec.trans (congrArg _ (overflowed_of_latched bs hlatched)), fun hopen => ⟨_, hexec, ?_⟩⟩
    obtain ⟨honly, hclosed, hframes, hlog⟩ := overflowed_open_effect (s := setBadLatch p false s) bs hopen
    have hreceives : receiveQueue p ≠ .consoleTx := by cases p <;> decide
    refine ⟨?_, ?_, onlyTouches_trans (onlyTouches_mono (by simp) (onlyTouches_withLinks s _)) honly⟩
    · rw [hlog, hshort]
      rfl
    · exact congrArg₂ Queue.mk (hframes hreceives) hclosed

/-! ### The transmitters -/

section
variable {s : State} {p : Port}

theorem frameSent_of_sending {q : QueueId} {till : Nat} (h : s.links.tx[p.ix] = .sending q till) :
    frameSent p s = (setTx p (.gap (s.now + 3)) (dropHead q s)).withRestart (restartCounts p s.restart) := by
  simp only [frameSent, h]

theorem frameSent_of_idle (h : ∀ q till, s.links.tx[p.ix] ≠ .sending q till) : frameSent p s = s := by
  unfold frameSent
  split
  next q till hsending => exact absurd hsending (h q till)
  next => rfl
  next => rfl

theorem transmitterFree_of_sending {q : QueueId} {till : Nat} (h : s.links.tx[p.ix] = .sending q till) :
    transmitterFree p s = s := by
  simp only [transmitterFree, h]

theorem transmitterFree_of_idle (h : ∀ q till, s.links.tx[p.ix] ≠ .sending q till) :
    transmitterFree p s = setTx p (nextSending s (transmitQueues p)) s := by
  unfold transmitterFree
  split
  next q till hsending => exact absurd hsending (h q till)
  next => rfl
  next => rfl

theorem nextSending_head {q : QueueId} (qs : List QueueId) {f : Frame} (h : headFrame s q = some f) :
    nextSending s (q :: qs) = .sending q (s.now + f.length) := by simp only [nextSending, h]

theorem nextSending_skip {q : QueueId} (qs : List QueueId) (h : headFrame s q = none) :
    nextSending s (q :: qs) = nextSending s qs := by simp only [nextSending, h]

theorem nextSending_of_empty (qs : List QueueId) (h : ∀ q ∈ qs, headFrame s q = none) : nextSending s qs = .free := by
  induction qs with
  | nil => rfl
  | cons q qs ih =>
    rw [nextSending_skip qs (h q List.mem_cons_self)]
    exact ih fun r hr => h r (List.mem_cons_of_mem q hr)

end

/-- Settles O9: a frame sent leaves by the rule of its queue, and a free transmitter takes the first head of its queues in
their order. -/
theorem transmitterServes : Obligations.TransmitterServes := by
  refine fun s p => ⟨fun q till hsending => ?sent, fun hidle => ⟨?_, ?free⟩⟩
  case sent =>
    obtain ⟨-, -, -, hframes, hopen, hstays, hothers⟩ := headLeavesQueue s q
    refine ⟨_, congrArg Host.Outcome.next (frameSent_of_sending hsending), ?_, putAt_same _ _ _, hframes, ?_, ?_, hothers,
      fun hp => ?_, congrArg Host.Outcome.next (transmitterFree_of_sending hsending)⟩
    · exact onlyTouches_trans (onlyTouches_mono (by simp) (dropHead_onlyTouches q s)) (onlyTouches_trans
        (onlyTouches_mono (by simp) (onlyTouches_withLinks _ _)) (onlyTouches_mono (by simp) (onlyTouches_withRestart _ _)))
    · exact fun hempty => hopen (hframes.symm.trans hempty)
    · exact fun hmore => hstays fun hempty => hmore (hframes.trans hempty)
    · cases p with
      | console => exact absurd rfl hp
      | rack | panel => rfl
  case free =>
    refine ⟨_, congrArg Host.Outcome.next (transmitterFree_of_idle hidle), onlyTouches_withLinks s _, rfl,
      fun hp f hf => ?_, fun hp hnone f hf => ?_, fun hp f hf => ?_, fun hp f hf => ?_, fun hempty => ?_⟩
    case refine_5 =>
      refine (putAt_same _ _ _).trans (nextSending_of_empty _ fun q hq => headFrame_eq_none.mpr ?_)
      simpa using List.all_eq_true.mp hempty q hq
    case refine_2 =>
      subst hp
      exact (putAt_same _ _ _).trans ((nextSending_skip _ hnone).trans (nextSending_head _ hf))
    all_goals
      subst hp
      exact (putAt_same _ _ _).trans (nextSending_head _ hf)
  case _ => exact congrArg Host.Outcome.next (frameSent_of_idle hidle)

/-! ### RESTART -/

section
variable {s : State}

theorem restartTests_phase (h : ¬(s.phase.phase = .maintenance ∨ s.phase.phase = .dark)) :
    restartTests s = some .wrongPhase := if_pos (by simpa using h)

theorem restartTests_curtain (hstill : s.phase.phase = .maintenance ∨ s.phase.phase = .dark)
    (h : ¬(s.curtain.state = .resting ∨ s.curtain.state = .unknown)) : restartTests s = some .curtainState := by
  rw [restartTests, if_neg (by simpa [or_iff_not_imp_left] using hstill), if_pos (by simpa using h)]

theorem restartTests_store (hstill : s.phase.phase = .maintenance ∨ s.phase.phase = .dark)
    (hrests : s.curtain.state = .resting ∨ s.curtain.state = .unknown) :
    restartTests s = if s.store.writing.isSome then some .busy else none := by
  rw [restartTests, if_neg (by simpa [or_iff_not_imp_left] using hstill),
    if_neg (by simpa [or_iff_not_imp_left] using hrests)]

theorem exec_restart_of_requested {tag : Byte} {args : List Byte} (h : Requested s 22 tag args) :
    exec .restart s = .next (restartRequest ⟨tag, 22, args⟩ (dropHead .consoleRx s)) := by
  have hrequest : requestOf s 22 = some ⟨tag, 22, args⟩ := h
  simp only [exec, execRestart, hrequest]

theorem restartRequest_refused {r : Request} {why : Reason} (h : restartTests s = some why) :
    restartRequest r s = sendReply r.tag r.code (refuse why) s := by simp only [restartRequest, h]

theorem restartRequest_accepted {r : Request} (h : restartTests s = none) :
    restartRequest r s = acceptRestart r.tag r.code s := by simp only [restartRequest, h]

/-- The reply of an accepted RESTART, 9 bytes long (R165). -/
theorem length_restartReply (tag : Byte) : (replyFrame s tag 22 done).length + 4 = 13 := by
  rw [replyFrame, length_mkFrame]
  rfl

theorem acceptRestart_onlyTouches (tag code : Byte) :
    OnlyTouches [.links, .log, .restart] s (acceptRestart tag code s) :=
  onlyTouches_trans (onlyTouches_mono (by simp) (offer_onlyTouches _ _ s))
    (onlyTouches_mono (by simp) (onlyTouches_withRestart _ _))

theorem acceptRestart_of_room {tag : Byte} (h : 13 ≤ freeBytes s.tables s.links .consoleTx) :
    (acceptRestart tag 22 s).links.queues[QueueId.consoleTx.ix].frames
        = s.links.queues[QueueId.consoleTx.ix].frames ++ [mkFrame 0x21 s.tables.link.station [tag, 22, 0, 0]]
      ∧ (acceptRestart tag 22 s).restart = .waiting (s.links.queues[QueueId.consoleTx.ix].frames.length + 1) := by
  have hroom : (replyFrame s tag 22 done).length + 4 ≤ freeBytes s.tables s.links .consoleTx :=
    length_restartReply (s := s) tag ▸ h
  have hfiled : (acceptRestart tag 22 s).links.queues[QueueId.consoleTx.ix].frames
      = s.links.queues[QueueId.consoleTx.ix].frames ++ [mkFrame 0x21 s.tables.link.station [tag, 22, 0, 0]] := by
    rw [acceptRestart, withRestart_links, sendReply, offer_of_room hroom, withLinks_links, filedIn_same]
    rfl
  have haccepts : accepts .consoleTx (replyFrame s tag 22 done) s = true := decide_eq_true hroom
  refine ⟨hfiled, ?_⟩
  rw [acceptRestart, withRestart_links] at hfiled
  simp only [acceptRestart, withRestart_restart, restartWait, haccepts, if_true, hfiled]
  simp

theorem acceptRestart_of_full {tag : Byte} (h : freeBytes s.tables s.links .consoleTx < 13) :
    (acceptRestart tag 22 s).restart = .due := by
  have hfull : ¬storedSize (replyFrame s tag 22 done) ≤ freeBytes s.tables s.links .consoleTx := by
    rw [storedSize, length_restartReply]
    exact Nat.not_le.mpr h
  have haccepts : accepts .consoleTx (replyFrame s tag 22 done) s = false := decide_eq_false hfull
  simp only [acceptRestart, withRestart_restart, restartWait, haccepts]
  rfl

end

theorem consoleHead_of_restart {s : State} (h : s.restart ≠ .idle) : consoleHead s = none := if_neg h

/-- RESTART's tests in order and its acceptance (R185). -/
theorem restartTested : Parts.RestartTested := by
  intro s tag hreq
  have hrefused {why : Reason} (h : restartTests (dropHead .consoleRx s) = some why) :
      exec .restart s = .next (sendReply tag 22 (refuse why) (dropHead .consoleRx s)) :=
    (exec_restart_of_requested hreq).trans (congrArg _ (restartRequest_refused h))
  refine ⟨fun hstill => hrefused (restartTests_phase hstill), fun hstill hrests => hrefused (restartTests_curtain hstill hrests),
    fun hstill hrests hbusy => hrefused ?busy, fun hstill hrests hidle => ?accepted⟩
  case busy =>
    rw [restartTests_store (s := dropHead .consoleRx s) hstill hrests]
    exact if_pos (Option.isSome_iff_ne_none.mpr hbusy)
  case accepted =>
    have htests : restartTests (dropHead .consoleRx s) = none := by
      rw [restartTests_store (s := dropHead .consoleRx s) hstill hrests, dropHead_store, hidle]
      rfl
    have hfree : freeBytes (dropHead .consoleRx s).tables (dropHead .consoleRx s).links .consoleTx
        = freeBytes s.tables s.links .consoleTx := freeBytes_popFrame_other (by decide) _ _
    have hqueue : (dropHead .consoleRx s).links.queues[QueueId.consoleTx.ix] = s.links.queues[QueueId.consoleTx.ix] :=
      popFrame_other (q := .consoleRx) (by decide) _
    have hroom (h : 13 ≤ freeBytes s.tables s.links .consoleTx) :=
      acceptRestart_of_room (s := dropHead .consoleRx s) (tag := tag) (hfree.symm ▸ h)
    have hfull (h : freeBytes s.tables s.links .consoleTx < 13) :=
      acceptRestart_of_full (s := dropHead .consoleRx s) (tag := tag) (hfree.symm ▸ h)
    refine ⟨_, (exec_restart_of_requested hreq).trans (congrArg _ (restartRequest_accepted htests)),
      consoleHead_of_restart ?_, onlyTouches_trans (onlyTouches_mono (by simp) (dropHead_onlyTouches .consoleRx s))
        (acceptRestart_onlyTouches tag 22), fun h => ?_, hfull⟩
    · rcases Nat.lt_or_ge (freeBytes s.tables s.links .consoleTx) 13 with h | h
      · exact fun hidle => nomatch (hfull h).symm.trans hidle
      · exact fun hidle => nomatch (hroom h).2.symm.trans hidle
    · rw [← hqueue]
      exact hroom h

/-- The waiting power-on sequence follows the frames of CONSOLE-TX (R185). -/
theorem restartFollowsReply : Parts.RestartFollowsReply := by
  intro s n till hwaiting hsending
  refine ⟨if_neg (by simp [hwaiting]), _, congrArg Host.Outcome.next (frameSent_of_sending hsending), ?_⟩
  change restartCounts .console s.restart = _
  rw [hwaiting]
  rfl

/-- Settles O60: the tests as they are made, and the reply counted among the frames of CONSOLE-TX. -/
theorem restartTaken : Obligations.RestartTaken := ⟨restartTested, restartFollowsReply⟩

end Sys2Proof.Machine
end


section
/-! READ-EVENTS (R188): the numbers of a ring that keeps its law count up by one, so that the distance of a number back
from the newest says where its record stands. -/

namespace Sys2Proof.Machine

/-- How many sequence numbers there are: 1 to 4294967295 (R186). -/
def seqCount : Nat := 4294967295

theorem word32_le_seqCount (w : Word32) : w.toNat ≤ seqCount := Nat.le_of_lt_succ w.isLt

theorem toNat_pos_of_ne_zero {w : Word32} (h : w ≠ 0) : 0 < w.toNat :=
  Nat.pos_of_ne_zero fun h0 => h (BitVec.eq_of_toNat_eq h0)

theorem toNat_nextSeq (w : Word32) : (nextSeq w).toNat ≡ w.toNat + 1 [MOD seqCount] := by
  unfold nextSeq
  split
  next hlast =>
    subst hlast
    rfl
  next hnot =>
    have hsmall : w.toNat ≠ 4294967295 := fun h => hnot (BitVec.eq_of_toNat_eq h)
    have hw := w.isLt
    have hsum : (w + 1).toNat = w.toNat + 1 := by
      rw [BitVec.toNat_add]
      exact Nat.mod_eq_of_lt (by change w.toNat + 1 < 2 ^ 32; omega)
    rw [hsum]

theorem consecutive_next {l : List EventRecord} (h : Consecutive l) :
    ∀ {i : Nat} (hi : i + 1 < l.length), l[i + 1].seq = nextSeq l[i].seq := by
  induction l with
  | nil => exact fun hi => absurd hi (Nat.not_lt_zero _)
  | cons a rest ih =>
    intro i hi
    cases rest with
    | nil => exact absurd hi (by simp)
    | cons b rest =>
      obtain ⟨hab, hrest⟩ := h
      cases i with
      | zero => exact hab
      | succ i => exact ih hrest (Nat.lt_of_succ_lt_succ hi)

theorem consecutive_counts {l : List EventRecord} (h : Consecutive l) {i k : Nat} (hk : i + k < l.length) :
    l[i + k].seq.toNat ≡ l[i].seq.toNat + k [MOD seqCount] := by
  induction k with
  | zero => rfl
  | succ k ih =>
    have hnext := consecutive_next h (i := i + k) hk
    calc l[i + (k + 1)].seq.toNat
      _ = (nextSeq l[i + k].seq).toNat := congrArg _ hnext
      _ ≡ l[i + k].seq.toNat + 1 [MOD seqCount] := toNat_nextSeq _
      _ ≡ l[i].seq.toNat + k + 1 [MOD seqCount] := (ih (by omega)).add_right 1

/-- The newest record of a ring is as far ahead of another as the ring says. -/
theorem newest_counts {l : List EventRecord} (h : Consecutive l) {i : Nat} (hi : i < l.length) {newest : EventRecord}
    (hnewest : l.getLast? = some newest) :
    newest.seq.toNat ≡ l[i].seq.toNat + (l.length - 1 - i) [MOD seqCount] := by
  have hlast : l[l.length - 1]? = some newest := by rw [← hnewest, List.getLast?_eq_getElem?]
  have hmod := consecutive_counts h (i := i) (k := l.length - 1 - i) (by omega)
  have hplace : i + (l.length - 1 - i) = l.length - 1 := by omega
  simp only [hplace] at hmod
  rwa [(List.getElem?_eq_some_iff.mp hlast).2] at hmod

theorem backFrom_modEq {newest w : Word32} {k : Nat} (h : newest.toNat ≡ w.toNat + k [MOD seqCount]) (hk : k < seqCount) :
    backFrom newest w = k := by
  have hw := word32_le_seqCount w
  have hsum : newest.toNat + seqCount - w.toNat + w.toNat ≡ k + w.toNat [MOD seqCount] := by
    rw [Nat.sub_add_cancel (Nat.le_add_left_of_le hw), Nat.add_comm k]
    exact (Nat.add_mod_right _ _).trans h
  have hback : newest.toNat + seqCount - w.toNat ≡ k [MOD seqCount] := Nat.ModEq.add_right_cancel' _ hsum
  exact Eq.trans hback (Nat.mod_eq_of_lt hk)

/-- Two numbers, neither of them 0, at one distance back from the newest are equal. -/
theorem eq_of_backFrom_eq {newest v w : Word32} (hv : v ≠ 0) (hw : w ≠ 0) (h : backFrom newest v = backFrom newest w) :
    v = w := by
  have hvpos := toNat_pos_of_ne_zero hv
  have hwpos := toNat_pos_of_ne_zero hw
  have hvle : v.toNat ≤ 4294967295 := word32_le_seqCount v
  have hwle : w.toNat ≤ 4294967295 := word32_le_seqCount w
  refine BitVec.eq_of_toNat_eq ?_
  unfold backFrom at h
  have hn := newest.isLt
  omega

section

variable {s : State}

theorem newestSeq_of_last {r : EventRecord} (h : s.log.ring.getLast? = some r) : newestSeq s = r.seq := by
  rw [newestSeq, h]

theorem backFrom_of_held (hlaw : LogLaw s.log) {i : Nat} (hi : i < s.log.ring.length) :
    backFrom (newestSeq s) s.log.ring[i].seq = s.log.ring.length - 1 - i := by
  obtain ⟨hsize, hcons, -, -, -⟩ := hlaw
  obtain ⟨newest, hnewest⟩ : ∃ r, s.log.ring.getLast? = some r :=
    Option.isSome_iff_exists.mp (by simp [List.ne_nil_of_length_pos (Nat.zero_lt_of_lt hi)])
  rw [newestSeq_of_last hnewest]
  exact backFrom_modEq (newest_counts hcons hi hnewest) (by unfold seqCount; omega)

theorem eventsFrom_zero (g : LogState) (newest : Word32) : eventsFrom g newest 0 = (g.removed, g.ring) := by
  rw [eventsFrom, if_pos rfl]

theorem eventsFrom_held (hlaw : LogLaw s.log) {i : Nat} {r : EventRecord} (hr : s.log.ring[i]? = some r) :
    eventsFrom s.log (newestSeq s) r.seq = (false, s.log.ring.drop i) := by
  obtain ⟨hi, rfl⟩ := List.getElem?_eq_some_iff.mp hr
  have hback := backFrom_of_held hlaw hi
  obtain ⟨-, -, -, -, hnonzero⟩ := hlaw
  have hplace : s.log.ring.length - 1 - (s.log.ring.length - 1 - i) = i := by omega
  rw [eventsFrom, if_neg (hnonzero _ (List.getElem_mem hi)), hback, if_pos (by omega), hplace]

theorem backFrom_of_notHeld (hlaw : LogLaw s.log) {w : Word32} (hw : w ≠ 0) (h : ∀ r ∈ s.log.ring, r.seq ≠ w) :
    ¬backFrom (newestSeq s) w < s.log.ring.length := by
  intro hlt
  have hi : s.log.ring.length - 1 - backFrom (newestSeq s) w < s.log.ring.length := by omega
  have hback := backFrom_of_held hlaw hi
  obtain ⟨-, -, -, -, hnonzero⟩ := hlaw
  have hsame : backFrom (newestSeq s) s.log.ring[s.log.ring.length - 1 - backFrom (newestSeq s) w].seq
      = backFrom (newestSeq s) w := by omega
  exact h _ (List.getElem_mem hi) (eq_of_backFrom_eq (hnonzero _ (List.getElem_mem hi)) hw hsame)

theorem eventsFrom_notHeld (hlaw : LogLaw s.log) {w : Word32} (hw : w ≠ 0) (h : ∀ r ∈ s.log.ring, r.seq ≠ w) :
    eventsFrom s.log (newestSeq s) w
      = if backFrom (newestSeq s) w ≤ 2147483647 then (s.log.removed, s.log.ring) else (false, []) := by
  rw [eventsFrom, if_neg hw, if_neg (backFrom_of_notHeld hlaw hw h)]

theorem exec_readEvents_of_requested {tag : Byte} {args : List Byte} (h : Requested s 21 tag args) :
    exec .readEvents s = .next (replied tag 21 (readEventsOwner args (dropHead .consoleRx s)).2
      (readEventsOwner args (dropHead .consoleRx s)).1) :=
  congrArg _ (handle_of_requested h _)

/-- The reply of READ-EVENTS for a starting number, once it is known which records it finds. -/
theorem readEvents_of_found {tag a b c d count : Byte} (h : Requested s 21 tag [a, b, c, d, count]) {gap : Bool}
    {found : List EventRecord} (hfound : eventsFrom s.log (newestSeq s) (word32 a b c d) = (gap, found)) :
    DoneWith .readEvents s 21 tag ([boolByte gap] ++ bytes32 (oldestSeq s)
      ++ [byteOf (found.take (min 8 count.toNat)).length] ++ (found.take (min 8 count.toNat)).flatMap recordBytes)
      (dropHead .consoleRx s) := by
  have hexec := exec_readEvents_of_requested h
  have howner : readEventsOwner [a, b, c, d, count] (dropHead .consoleRx s) = (dropHead .consoleRx s,
      doneWith ([boolByte gap] ++ bytes32 (oldestSeq s) ++ [byteOf (found.take (min 8 count.toNat)).length]
        ++ (found.take (min 8 count.toNat)).flatMap recordBytes)) := by
    have hseq : eventsFrom (dropHead .consoleRx s).log (newestSeq (dropHead .consoleRx s)) (word32 a b c d)
        = (gap, found) := hfound
    simp only [readEventsOwner, byteAt, List.getD_cons_zero, List.getD_cons_succ, hseq]
    rfl
  rwa [howner] at hexec

theorem oldestSeq_eq (s : State) : oldestSeq s = match s.log.ring with
    | [] => 0
    | r :: _ => r.seq := by
  unfold oldestSeq
  cases s.log.ring <;> rfl

theorem backFrom_eq (w : Word32) : backFrom (newestSeq s) w = match s.log.ring.getLast? with
    | none => (4294967295 - w.toNat) % 4294967295
    | some r => (r.seq.toNat + 4294967295 - w.toNat) % 4294967295 := by
  unfold backFrom newestSeq
  cases s.log.ring.getLast? with
  | none => simp
  | some r => rfl

end

/-- Settles O59: a number the ring holds stands at its distance back from the newest, and no other number does. -/
theorem eventsRead : Obligations.EventsRead := by
  unfold Obligations.EventsRead
  intro s tag a b c d count hlaw hreq
  have hreturns {gap : Bool} {found : List EventRecord} := readEvents_of_found hreq (gap := gap) (found := found)
  rw [oldestSeq_eq s] at hreturns
  refine ⟨fun h => ?_, fun i ⟨r, hr, hseq⟩ => ?_, fun hw hnot => ⟨fun hback => ?_, fun hback => ?_⟩⟩
  · exact hreturns (h ▸ eventsFrom_zero _ _)
  · exact hreturns (hseq ▸ eventsFrom_held hlaw hr)
  · exact hreturns ((eventsFrom_notHeld hlaw hw hnot).trans (if_pos ((backFrom_eq _).trans_le hback)))
  · exact hreturns ((eventsFrom_notHeld hlaw hw hnot).trans
      (if_neg (Nat.not_le.mpr (hback.trans_eq (backFrom_eq _).symm))))

end Sys2Proof.Machine
end

section
/-! SET-PHASE's tests in order (R4, R5, R6, R8, R12). -/

namespace Sys2Proof.Machine

theorem isTransition_iff (p target : Phase) : isTransition p target = true ↔ (p, target) ∈ transitionRows := by
  cases p <;> cases target <;> decide

theorem phase_ofCode_gt {b : Byte} (h : 7 < b.toNat) : Phase.ofCode b = none := by
  obtain ⟨k, hk⟩ : ∃ k, b.toNat = k + 8 := ⟨b.toNat - 8, by omega⟩
  simp [Phase.ofCode, hk]

section

variable {s : State} {tag b : Byte} {more : List Byte} {target : Phase}

theorem setPhase_noPhase (hreq : Requested s 3 tag (b :: more)) (h : 7 < b.toNat) :
    RefusedWith .setPhase s 3 tag .badArgument := by
  have hexec := exec_setPhase_of_requested hreq
  have howner (u : State) : setPhaseOwner (b :: more) u = (u, refuse .badArgument) := by
    simp [setPhaseOwner, byteAt, phase_ofCode_gt h]
  rwa [howner] at hexec

theorem setPhase_samePhase (hreq : Requested s 3 tag (s.phase.phase.code :: more)) :
    DoneWith .setPhase s 3 tag [s.phase.phase.code] (dropHead .consoleRx s) := by
  have hexec := exec_setPhase_of_requested hreq
  have howner : setPhaseOwner (s.phase.phase.code :: more) (dropHead .consoleRx s)
      = (dropHead .consoleRx s, doneWith [s.phase.phase.code]) := by
    simp [setPhaseOwner, byteAt, phase_ofCode_code]
  rwa [howner] at hexec

/-- A transition whose tests refuse it is answered as they say, and changes nothing. -/
theorem setPhase_refused {r : Reply} (hreq : Requested s 3 tag (target.code :: more)) (hnew : target ≠ s.phase.phase)
    (h : transitionTests s target = some r) :
    exec .setPhase s = .next (replied tag 3 r (dropHead .consoleRx s)) := by
  have hexec := exec_setPhase_of_requested hreq
  have htests : transitionTests (dropHead .consoleRx s) target = some r := h
  have hphase : target ≠ (dropHead .consoleRx s).phase.phase := hnew
  have howner : setPhaseOwner (target.code :: more) (dropHead .consoleRx s) = (dropHead .consoleRx s, r) := by
    simp only [setPhaseOwner, byteAt, List.getD_cons_zero, phase_ofCode_code, if_neg hphase, htests]
  rwa [howner] at hexec

theorem transitionTests_alarm (h : ¬(s.effects.stage ≠ .evacuate ∨ target = .clearing)) :
    transitionTests s target = some (refuse .alarmActive) := by
  obtain ⟨hstage, htarget⟩ := not_or.mp h
  exact if_pos (by simp [not_not.mp hstage, htarget])

theorem transitionTests_noRow (hfree : s.effects.stage ≠ .evacuate ∨ target = .clearing)
    (hrow : (s.phase.phase, target) ∉ transitionRows) : transitionTests s target = some (refuse .wrongPhase) := by
  rw [transitionTests, if_neg (by simpa [imp_iff_not_or] using hfree),
    if_pos (by simpa using fun h => hrow ((isTransition_iff _ _).mp h))]

theorem transitionTests_guard (hfree : s.effects.stage ≠ .evacuate ∨ target = .clearing)
    (hrow : (s.phase.phase, target) ∈ transitionRows) : transitionTests s target = guardOf s target := by
  rw [transitionTests, if_neg (by simpa [imp_iff_not_or] using hfree),
    if_neg (by simpa using (isTransition_iff _ _).mpr hrow)]

theorem openingGuards_untested (h : s.phase.testValid = false) : openingGuards s = some .curtainTest :=
  if_pos (by simp [h])

theorem openingGuards_alarm (hvalid : s.phase.testValid = true)
    (h : ¬(s.effects.stage ≠ .staffAlert ∧ s.effects.stage ≠ .evacuate)) : openingGuards s = some .alarmActive := by
  rw [openingGuards, if_neg (by simp [hvalid]), if_pos (by simpa [imp_iff_not_or] using h)]

theorem openingGuards_link (hvalid : s.phase.testValid = true)
    (hquiet : s.effects.stage ≠ .staffAlert ∧ s.effects.stage ≠ .evacuate) (h : s.monitor.link ≠ .up) :
    openingGuards s = some .panelLink := by
  rw [openingGuards, if_neg (by simp [hvalid]), if_neg (by simp [hquiet]), if_pos (by simpa using h)]

theorem guardOf_invalidTables {f : Nat × Nat × Nat} (hp : s.phase.phase = .maintenance)
    (h : validate s.working = some f) : guardOf s target = some (invalidTables f) := by
  simp [guardOf, hp, h]

theorem guardOf_writing (hp : s.phase.phase = .dark) (h : s.store.writing ≠ none) :
    guardOf s .maintenance = some (refuse .busy) := by
  simp [guardOf, hp, Option.isSome_iff_ne_none, h]

theorem guardOf_opening (hp : s.phase.phase = .dark) : guardOf s .houseOpen = (openingGuards s).map refuse := by
  simp [guardOf, hp]

theorem guardOf_curtainUnknown (hp : s.phase.phase = .recovery) (h : s.curtain.state = .unknown) :
    guardOf s target = some (refuse .curtainState) := by
  simp [guardOf, hp, h]

end

/-- No row of 1.3 leads from a phase to itself. -/
theorem transitionRows_irrefl (p : Phase) : (p, p) ∉ transitionRows := by cases p <;> decide

/-- Settles O50, by the tests of SET-PHASE one after the other. -/
theorem setPhaseTested : Obligations.SetPhaseTested := by
  unfold Obligations.SetPhaseTested
  intro s tag b more hreq
  refine ⟨setPhase_noPhase hreq, ?_⟩
  rintro target rfl
  have refused_guard {r : Reply} (hfree : s.effects.stage ≠ .evacuate ∨ target = .clearing)
      (hrow : (s.phase.phase, target) ∈ transitionRows) (h : guardOf s target = some r) :
      exec .setPhase s = .next (replied tag 3 r (dropHead .consoleRx s)) :=
    setPhase_refused hreq (fun h => transitionRows_irrefl _ (h ▸ hrow)) ((transitionTests_guard hfree hrow).trans h)
  refine ⟨?same, ?alarm, ?noRow, ?invalid, ?busy, ?untested, ?alert, ?link, ?unknown⟩
  case same =>
    rintro rfl
    exact setPhase_samePhase hreq
  case alarm => exact fun hnew hbound => setPhase_refused hreq hnew (transitionTests_alarm hbound)
  case noRow => exact fun hnew hfree hrow => setPhase_refused hreq hnew (transitionTests_noRow hfree hrow)
  case invalid =>
    rintro hfree hp rfl i j k hvalid
    exact refused_guard hfree (by rw [hp]; decide) (guardOf_invalidTables hp hvalid)
  case busy =>
    rintro hfree hp rfl hwriting
    exact refused_guard hfree (by rw [hp]; decide) (guardOf_writing hp hwriting)
  case untested =>
    rintro hfree hp rfl hvalid
    exact refused_guard hfree (by rw [hp]; decide)
      ((guardOf_opening hp).trans (congrArg _ (openingGuards_untested hvalid)))
  case alert =>
    rintro hfree hp rfl hvalid hstage
    exact refused_guard hfree (by rw [hp]; decide)
      ((guardOf_opening hp).trans (congrArg _ (openingGuards_alarm hvalid hstage)))
  case link =>
    rintro hfree hp rfl hvalid hquiet hlink
    exact refused_guard hfree (by rw [hp]; decide)
      ((guardOf_opening hp).trans (congrArg _ (openingGuards_link hvalid hquiet hlink)))
  case unknown => exact fun hfree hp hrow hstate => refused_guard hfree hrow (guardOf_curtainUnknown hp hstate)

end Sys2Proof.Machine
end


section
/-! The moves the Zone Monitor is made of, more finely than `ZonesClosed`: what one change of a zone record can do (R102 to
R124), and that every operation but the opening of a window, ALARM-RESET and the link is made of such changes and
hand-overs. -/

namespace Sys2Proof.Machine

/-! ### Device maps -/

/-- R102: a device map holds at most 16 entries, in strictly ascending device order. -/
def Mapped (ds : List Device) : Prop := ds.length ≤ 16 ∧ ds.Pairwise fun a b => a.number.toNat < b.number.toNat

theorem mapped_filter {ds : List Device} (p : Device → Bool) (h : Mapped ds) : Mapped (ds.filter p) :=
  ⟨(List.length_filter_le p ds).trans h.1, h.2.filter p⟩

theorem setDevice_sorted (n : Byte) (c : Condition) {ds : List Device}
    (h : ds.Pairwise fun a b => a.number.toNat < b.number.toNat) :
    (setDevice n c ds).Pairwise fun a b => a.number.toNat < b.number.toNat := by
  refine List.pairwise_append.mpr ⟨List.pairwise_append.mpr ⟨h.filter _, List.pairwise_singleton _ _, ?_⟩, h.filter _, ?_⟩
  · intro a ha b hb
    obtain rfl := List.mem_singleton.mp hb
    exact of_decide_eq_true (List.mem_filter.mp ha).2
  · intro a ha b hb
    have hnb : n.toNat < b.number.toNat := of_decide_eq_true (List.mem_filter.mp hb).2
    rcases List.mem_append.mp ha with ha | ha
    · exact (of_decide_eq_true (List.mem_filter.mp ha).2).trans hnb
    · obtain rfl := List.mem_singleton.mp ha
      exact hnb

/-- The entries below a device, above it and of it are all the entries. -/
theorem length_split_at (n : Byte) (ds : List Device) :
    (ds.filter fun d => d.number.toNat < n.toNat).length + (ds.filter fun d => n.toNat < d.number.toNat).length
      + (ds.filter fun d => d.number = n).length = ds.length := by
  induction ds with
  | nil => rfl
  | cons d ds ih =>
    have heq : d.number = n ↔ d.number.toNat = n.toNat := ⟨congrArg _, BitVec.eq_of_toNat_eq⟩
    simp only [List.filter_cons, decide_eq_true_eq, List.length_cons, heq]
    rcases Nat.lt_trichotomy d.number.toNat n.toNat with h | h | h
    · rw [if_pos h, if_neg (by omega), if_neg (by omega), List.length_cons]
      omega
    · rw [if_neg (by omega), if_neg (by omega), if_pos h, List.length_cons]
      omega
    · rw [if_neg (by omega), if_pos h, if_neg (by omega), List.length_cons]
      omega

theorem length_setDevice (n : Byte) (c : Condition) (ds : List Device) :
    (setDevice n c ds).length + (ds.filter fun d => d.number = n).length = ds.length + 1 := by
  have hsplit := length_split_at n ds
  simp only [setDevice, List.length_append, List.length_singleton]
  omega

theorem mapped_setDevice {n : Byte} (c : Condition) {ds : List Device} (hroom : overflows ds n = false) (h : Mapped ds) :
    Mapped (setDevice n c ds) := by
  refine ⟨?_, setDevice_sorted n c h.2⟩
  have hlength := length_setDevice n c ds
  have hsize := h.1
  cases hd : deviceIn ds n with
  | none =>
    have hfew : ¬16 ≤ ds.length := by simpa [overflows, hd] using hroom
    omega
  | some d =>
    have hmem : d ∈ ds.filter fun d => d.number = n :=
      List.mem_filter.mpr ⟨List.mem_of_find?_eq_some hd, by simpa using List.find?_some hd⟩
    have hpos := List.length_pos_of_mem hmem
    omega

theorem overflows_of_deviceIn {ds : List Device} {n : Byte} {d : Device} (h : deviceIn ds n = some d) :
    overflows ds n = false := by
  simp [overflows, h]

/-! ### One change of a zone record -/

/-- R110, R113: the delay is granted to a zone, and no other zone investigates. -/
def MayInvestigate (s : State) (z : ZoneId) : Prop :=
  DelayGranted s z ∧ ∀ y : ZoneId, (zoneAt s y).state = .investigating → y = z

/-- What one change of a zone's record keeps: ALARM stays, INVESTIGATING is entered by the confirm decision alone, the
map keeps its law, and no window opens. -/
structure ZoneMove (s : State) (z : ZoneId) (new : Zone) : Prop where
  alarm : (zoneAt s z).state = .alarm → new.state = .alarm
  investigating : new.state = .investigating → (zoneAt s z).state = .investigating ∨ MayInvestigate s z
  map : Mapped (zoneAt s z).devices → Mapped new.devices
  window : new.window = (zoneAt s z).window ∨ new.window = none

/-- A change of a record that keeps state, map and window is a move. -/
theorem zoneMove_of_same {s : State} {z : ZoneId} {new : Zone} (hstate : new.state = (zoneAt s z).state)
    (hmap : Mapped (zoneAt s z).devices → Mapped new.devices)
    (hwindow : new.window = (zoneAt s z).window ∨ new.window = none) : ZoneMove s z new where
  alarm h := hstate.trans h
  investigating h := .inl (hstate.symm.trans h)
  map := hmap
  window := hwindow

/-- A property `P` kept by the Zone Monitor, where `W` is what holds between a change and its hand-over. -/
structure MonitorClosed (ho : HandOver) (P W : State → Prop) : Prop where
  record : ∀ {s} k a b c, P s → P (writeRecord k a b c s)
  unsettled : ∀ {s}, P s → W s
  unsettledRecord : ∀ {s} k a b c, W s → W (writeRecord k a b c s)
  still : ∀ {s} z f, ZoneMove s z (f (zoneAt s z)) → (f (zoneAt s z)).state = (zoneAt s z).state →
    (f (zoneAt s z)).faulty = (zoneAt s z).faulty → P s → P (updZone z f s)
  move : ∀ {s} z f, ZoneMove s z (f (zoneAt s z)) → W s → W (updZone z f s)
  handed : ∀ b {s}, (b = true → s.effects.stage ≠ .evacuate) → W s → P (ho b s)

theorem mayInvestigate_updZone {s : State} {y z : ZoneId} {f : Zone → Zone}
    (hf : (f (zoneAt s y)).state = (zoneAt s y).state) (h : MayInvestigate s z) : MayInvestigate (updZone y f s) z := by
  refine ⟨h.1, fun x hx => h.2 x ?_⟩
  by_cases hxy : x = y
  · subst hxy
    rwa [zoneAt_updZone_same, hf] at hx
  · rwa [zoneAt_updZone_other _ _ hxy] at hx

theorem delayGranted_iff (s : State) (z : ZoneId) : delayGranted s z = true ↔ DelayGranted s z := by
  simp [delayGranted, and_assoc]

theorem mem_zonesIn {zones : Vector Zone 66} {st : ZoneState} {z : ZoneId} :
    z ∈ zonesIn zones st ↔ zones[z].state = st := by
  simp [zonesIn]

theorem knock_notAlarm {s : State} {z : ZoneId} {n : Byte} (h : isKnock s z n = true) :
    (zoneAt s z).state ≠ .alarm := by
  have hstate : (zoneAt s z).state = .firstKnock := of_decide_eq_true (Bool.and_eq_true_iff.mp h).1
  simp [hstate]

theorem zoneAt_clearKnock (z : ZoneId) (s : State) :
    zoneAt (clearKnock z s) z = { zoneAt s z with knock := none } := zoneAt_updZone_same z _ s

namespace MonitorClosed

variable {ho : HandOver} {P W : State → Prop} (hP : MonitorClosed ho P W) {s : State}
include hP

theorem clearKnock (z : ZoneId) (h : P s) : P (clearKnock z s) :=
  hP.still z _ (zoneMove_of_same rfl id (.inl rfl)) rfl rfl h

theorem enterState {z : ZoneId} {st : ZoneState} (halarm : (zoneAt s z).state = .alarm → st = .alarm)
    (henter : st = .investigating → MayInvestigate s z) (h : P s) : P (enterState ho z st s) := by
  unfold Machine.enterState
  have hbelow (hst : decide (st = .investigating) = true) (u : State) (hu : u.effects = s.effects) :
      u.effects.stage ≠ .evacuate := by
    obtain ⟨-, -, -, -, hstage⟩ := (henter (of_decide_eq_true hst)).1
    rwa [hu]
  refine ite_keeps h (hP.handed _ (fun hst => hbelow hst _ (writeRecord_effects _ _ _ _ _))
    (hP.unsettledRecord _ _ _ _ (hP.move z _ ?_ (hP.unsettled h))))
  refine ⟨halarm, fun hst => .inr (henter hst), ?_, .inl ?_⟩
  · intro hmap
    split
    · exact hmap
    · exact hmap
  · split <;> rfl

/-- A zone enters a state other than INVESTIGATING, from any but ALARM. -/
theorem enterQuietly {z : ZoneId} {st : ZoneState} (hfrom : (zoneAt s z).state ≠ .alarm) (hst : st ≠ .investigating)
    (h : P s) : P (Machine.enterState ho z st s) :=
  hP.enterState (fun ha => absurd ha hfrom) (fun hi => absurd hi hst) h

theorem enterAlarm (z : ZoneId) (h : P s) : P (Machine.enterState ho z .alarm s) :=
  hP.enterState (fun _ => rfl) (fun hi => nomatch hi) h

theorem putMap {z : ZoneId} {ds : List Device} (hds : Mapped (zoneAt s z).devices → Mapped ds) (h : P s) :
    P (putMap ho z ds s) := by
  have hmove : ZoneMove s z { zoneAt s z with devices := ds } := zoneMove_of_same rfl hds (.inl rfl)
  unfold Machine.putMap
  dsimp only
  split
  next hsame => exact hP.still z _ hmove rfl (by rwa [zoneAt_updZone_same] at hsame) h
  next => exact hP.handed _ nofun (hP.move z _ hmove (hP.unsettled h))

theorem noteReport (z : ZoneId) (n : Byte) (k : ReportKind) (c : Condition) (h : P s) :
    P (noteReport ho z n k c s) := by
  unfold Machine.noteReport
  split
  next => exact hP.record _ _ _ _ h
  next hroom => exact hP.putMap (mapped_setDevice c (by simpa using hroom)) h

theorem settlePre (z : ZoneId) (h : P s) : P (settlePre ho z s) := by
  unfold Machine.settlePre
  split
  next hpre =>
    have hstate : (zoneAt s z).state = .pre := of_decide_eq_true (Bool.and_eq_true_iff.mp hpre).1
    exact hP.enterQuietly (by simp [hstate]) (by decide) h
  next => exact h

theorem endKnock {z : ZoneId} (hfrom : (zoneAt s z).state ≠ .alarm) (h : P s) : P (endKnock ho z s) := by
  refine hP.enterQuietly (by rwa [zoneAt_clearKnock]) ?_ (hP.clearKnock z h)
  split <;> decide

theorem knockOrPre (z : ZoneId) (n : Byte) (h : P s) :
    P (if isKnock s z n then Machine.endKnock ho z s else Machine.settlePre ho z s) := by
  split
  next hknock => exact hP.endKnock (knock_notAlarm hknock) h
  next => exact hP.settlePre z h

theorem normalReport (z : ZoneId) (n : Byte) (h : P s) : P (normalReport ho z n s) :=
  hP.knockOrPre z n (hP.putMap (mapped_filter _) h)

theorem faultReport (z : ZoneId) (n : Byte) (h : P s) : P (faultReport ho z n s) :=
  hP.knockOrPre z n (hP.noteReport z n _ _ h)

theorem preReport (z : ZoneId) (n : Byte) (h : P s) : P (preReport ho z n s) := by
  have hnoted := hP.noteReport z n .pre .pre h
  unfold Machine.preReport
  dsimp only
  split
  next hquiet => exact hP.enterQuietly (by simp [hquiet]) (by decide) hnoted
  next =>
    split
    next hknock =>
      refine hP.enterQuietly ?_ (by decide) (hP.clearKnock z hnoted)
      rw [zoneAt_clearKnock]
      exact knock_notAlarm hknock
    next => exact hnoted

theorem manualReport (z : ZoneId) (n : Byte) (h : P s) : P (manualReport ho z n s) :=
  hP.enterAlarm z (hP.noteReport z n _ _ h)

theorem investigate {z : ZoneId} (starters : List Byte) (hmay : MayInvestigate s z)
    (hfrom : (zoneAt s z).state ≠ .alarm) (h : P s) : P (investigate ho z starters s) := by
  refine hP.enterState (fun ha => absurd ?_ hfrom) (fun _ => mayInvestigate_updZone rfl hmay)
    (hP.still z _ (zoneMove_of_same rfl id (.inl rfl)) rfl rfl h)
  rwa [zoneAt_updZone_same] at ha

theorem toAlarm (zs : List ZoneId) (h : P s) : P (toAlarm ho zs s) := foldl_keeps (fun _ z h => hP.enterAlarm z h) zs s h

theorem confirm {z : ZoneId} (starters : List Byte) (hfrom : (zoneAt s z).state ≠ .alarm) (h : P s) :
    P (confirm ho z starters s) := by
  have hcleared := hP.clearKnock z h
  unfold Machine.confirm
  split
  next => exact hP.enterAlarm z hcleared
  next hdelay =>
    split
    next hall =>
      have hmay : MayInvestigate s z := by
        refine ⟨(delayGranted_iff s z).mp (by simpa using hdelay), fun y hy => ?_⟩
        exact of_decide_eq_true (List.all_eq_true.mp hall y (mem_zonesIn.mpr hy))
      exact hP.investigate starters (mayInvestigate_updZone rfl hmay) (by rwa [zoneAt_clearKnock]) hcleared
    next => exact hP.toAlarm _ hcleared

theorem fireActs (z : ZoneId) (n : Byte) (h : P s) : P (fireActs ho z n s) := by
  unfold Machine.fireActs
  dsimp only
  have hfirst (hfrom : (zoneAt s z).state ≠ .alarm) : P (if (rowOf s z).coincidence = 1 then
      Machine.enterState ho z .firstKnock (updZone z (fun r => { r with knock := some n }) s)
      else Machine.confirm ho z [n] s) := by
    refine ite_keeps (hP.enterQuietly ?_ (by decide) (hP.still z _ (zoneMove_of_same rfl id (.inl rfl)) rfl rfl h))
      (hP.confirm _ hfrom h)
    rwa [zoneAt_updZone_same]
  split
  next hst => exact hfirst (by simp [hst])
  next hst => exact hfirst (by simp [hst])
  next hst => exact ite_keeps h (hP.confirm _ (by simp [hst]) h)
  next => exact ite_keeps h (hP.enterAlarm z h)
  next => exact h

theorem replayDevice (z : ZoneId) (n : Byte) (h : P s) : P (replayDevice ho z s n) := by
  unfold Machine.replayDevice
  split
  next hd => exact hP.fireActs z n (hP.putMap (mapped_setDevice _ (overflows_of_deviceIn hd)) h)
  next => exact h

theorem closeWindow (cause : CloseCause) (z : ZoneId) (h : P s) : P (closeWindow ho cause s z) := by
  have hclosed : P (updZone z (fun r => { r with window := none }) s) :=
    hP.still z _ (zoneMove_of_same rfl id (.inr rfl)) rfl rfl h
  exact ite_keeps h (foldl_keeps (fun _ n h => hP.replayDevice z n h) _ _ (hP.record _ _ _ _ hclosed))

theorem closeWindows (cause : CloseCause) (h : P s) : P (closeWindows ho cause s) :=
  foldl_keeps (fun _ z h => hP.closeWindow cause z h) _ _ h

theorem openFire {z : ZoneId} {n : Byte} (hroom : overflows (zoneAt s z).devices n = false) (h : P s) :
    P (openFire ho z n s) := hP.fireActs z n (hP.putMap (mapped_setDevice _ hroom) h)

theorem maskedFire {z : ZoneId} {n : Byte} (hroom : overflows (zoneAt s z).devices n = false) (h : P s) :
    P (maskedFire ho z n s) := by
  have hnoted := hP.record .isolatedFire (zoneByte z) n 0 (hP.putMap (mapped_setDevice (.fire true) hroom) h)
  unfold Machine.maskedFire
  dsimp only
  split
  next hquiet => exact hP.enterQuietly (hquiet ▸ by decide) (by decide) hnoted
  next => exact hnoted

theorem fireReport (z : ZoneId) (n : Byte) (h : P s) : P (fireReport ho z n s) := by
  unfold Machine.fireReport
  split
  next => exact h
  next =>
    split
    next => exact hP.fireActs z n (hP.closeWindow _ z (hP.record _ _ _ _ h))
    next hroom => exact ite_keeps (hP.maskedFire (by simpa using hroom) h) (hP.openFire (by simpa using hroom) h)

theorem takeReport (body : List Byte) (h : P s) : P (takeReport ho body s) := by
  unfold Machine.takeReport
  split
  next => exact hP.record _ _ _ _ h
  next z k n _ =>
    cases k with
    | normal => exact hP.normalReport z n h
    | pre => exact hP.preReport z n h
    | fire => exact hP.fireReport z n h
    | manual => exact hP.manualReport z n h
    | fault => exact hP.faultReport z n h

theorem endInvestigation (h : P s) : P (endInvestigation ho s) := hP.toAlarm _ h

theorem report64 (r : CurtainReport) (h : P s) : P (report64 ho r s) := by
  unfold Machine.report64
  split
  next => exact hP.enterAlarm 64 h
  next hst => exact hP.enterQuietly (by simp [hst]) (by decide) h
  next hst => exact hP.enterQuietly (by simp [hst]) (by decide) h
  all_goals exact h

theorem panelFire (h : P s) : P (panelFire ho s) := hP.enterAlarm 65 h

theorem alarmAckOwner (args : List Byte) (h : P s) : P (alarmAckOwner args s).1 := by
  unfold Machine.alarmAckOwner
  split
  next => exact h
  next => exact hP.still _ _ (zoneMove_of_same rfl id (.inl rfl)) rfl rfl h

end MonitorClosed

theorem faulty_withoutPreAndFire (r : Zone) (knock : Option Byte) :
    ({ r with devices := withoutPreAndFire r.devices, knock := knock } : Zone).faulty = r.faulty := by
  rw [Bool.eq_iff_iff, faulty_iff, faulty_iff]
  refine exists_congr fun d => and_congr_left fun hd => ?_
  simp [withoutPreAndFire, List.mem_filter, hd, Condition.isFire]

namespace MonitorClosed

variable {P W : State → Prop} (hP : MonitorClosed handOver P W) {s : State}
include hP

theorem cancelInvestigation {z : ZoneId} (hfrom : (zoneAt s z).state = .investigating) (h : P s) :
    P (cancelInvestigation z s) := by
  refine hP.enterQuietly ?_ (by decide)
    (hP.still z _ (zoneMove_of_same rfl (mapped_filter _) (.inl rfl)) rfl (faulty_withoutPreAndFire _ _) h)
  rw [zoneAt_updZone_same]
  simp [hfrom]

theorem alarmCancelOwner (args : List Byte) (h : P s) : P (alarmCancelOwner args s).1 := by
  unfold Machine.alarmCancelOwner investigatingZone
  split
  next => exact h
  next z hz =>
    split at hz
    · cases hz
    · split at hz
      next hstate =>
        obtain rfl := Except.ok.inj hz
        split
        · exact hP.cancelInvestigation hstate h
        · exact h
      next => cases hz

end MonitorClosed

end Sys2Proof.Machine
end


section
/-! What every command keeps of the zones and of the alarm (R103, R128 to R134): a property of the zones, alone or beside
the law of the effect set and the stage, carried through the hand-over with all its consequences. -/

namespace Sys2Proof.Machine

/-! ### The law of the effect set and the stage -/

theorem alarmLaw_congr {s t : State} (htables : t.tables = s.tables) (hmonitor : t.monitor = s.monitor)
    (hset : t.effects.set = s.effects.set) (hstage : t.effects.stage = s.effects.stage) (h : AlarmLaw s) :
    AlarmLaw t := by
  obtain ⟨h1, h2⟩ := h
  exact ⟨by rw [hset, h1, htables, hmonitor], by rw [hstage, h2, hmonitor]⟩

theorem mem_toList_iff {zones : Vector Zone 66} {x : Zone} : x ∈ zones.toList ↔ ∃ z : ZoneId, zones[z] = x := by
  rw [Vector.mem_toList_iff, Vector.mem_iff_getElem]
  exact ⟨fun ⟨i, hi, h⟩ => ⟨⟨i, hi⟩, h⟩, fun ⟨z, h⟩ => ⟨z.val, z.isLt, h⟩⟩

theorem anyZone_iff {zones : Vector Zone 66} {p : Zone → Bool} : anyZone zones p = true ↔ ∃ z : ZoneId, p zones[z] = true := by
  simp only [anyZone, List.any_eq_true, mem_toList_iff]
  exact ⟨fun ⟨_, ⟨z, hz⟩, hp⟩ => ⟨z, hz ▸ hp⟩, fun ⟨z, hp⟩ => ⟨_, ⟨z, rfl⟩, hp⟩⟩

theorem anyZone_congr {old new : Vector Zone 66} {p : Zone → Bool} (h : ∀ z : ZoneId, p new[z] = p old[z]) :
    anyZone new p = anyZone old p := by
  rw [Bool.eq_iff_iff, anyZone_iff, anyZone_iff]
  exact exists_congr fun z => by rw [h z]

theorem stageOf_congr {old new : Vector Zone 66} (link : PanelLink)
    (h : ∀ z : ZoneId, new[z].state = old[z].state ∧ new[z].faulty = old[z].faulty) :
    stageOf new link = stageOf old link := by
  unfold stageOf
  rw [anyZone_congr (old := old) (new := new) fun z => by rw [(h z).1],
    anyZone_congr (old := old) (new := new) fun z => by rw [(h z).1],
    anyZone_congr (old := old) (new := new) fun z => by rw [(h z).1],
    anyZone_congr (old := old) (new := new) fun z => (h z).2]

/-- A change of a zone's record that keeps its state and its zone-fault mark keeps the law. -/
theorem alarmLaw_updZone {s : State} {z : ZoneId} {f : Zone → Zone} (hstate : (f (zoneAt s z)).state = (zoneAt s z).state)
    (hfaulty : (f (zoneAt s z)).faulty = (zoneAt s z).faulty) (h : AlarmLaw s) : AlarmLaw (updZone z f s) := by
  obtain ⟨hset, hstage⟩ := h
  have hsame (y : ZoneId) : (zoneAt (updZone z f s) y).state = (zoneAt s y).state
      ∧ (zoneAt (updZone z f s) y).faulty = (zoneAt s y).faulty := by
    by_cases hy : y = z
    · subst hy
      rw [zoneAt_updZone_same]
      exact ⟨hstate, hfaulty⟩
    · rw [zoneAt_updZone_other _ _ hy]
      exact ⟨rfl, rfl⟩
  exact ⟨hset.trans (effectSetOf_congr _ fun y => iff_of_eq (congrArg (· = _) (hsame y).1)).symm,
    hstage.trans (stageOf_congr _ hsame).symm⟩

/-! ### Carried through the commands -/

/-- A property kept by what the Zone Monitor, the Effect Unit and the Phase Controller have the Call Sequencer do. -/
structure CallsHandled (P : State → Prop) : Prop extends RecordClosed P where
  endCall : ∀ {s} o e, P s → P (endCall o e s)
  suppressOrdinary : ∀ {s}, P s → P (suppressOrdinary s)
  askEvacuation : ∀ {s}, P s → P (askEvacuation s)
  askStaff : ∀ {s}, P s → P (askStaff s)
  settle : ∀ {s}, P s → P (settle s)
  startInterval : ∀ {s} length, P s → P (startInterval length s)
  stopInterval : ∀ {s}, P s → P (stopInterval s)

theorem callsHandled_of_closed {P : State → Prop} (hP : CallsClosed P) : CallsHandled P :=
  { hP.toRecordClosed with
    endCall := fun o e h => endCall_keeps hP o e h
    suppressOrdinary := fun h => suppressOrdinary_keeps hP h
    askEvacuation := fun h => askEvacuation_keeps hP h
    askStaff := fun h => askStaff_keeps hP h
    settle := fun h => settle_keeps hP h
    startInterval := fun length h => startInterval_keeps hP length h
    stopInterval := fun h => stopInterval_keeps hP h }

namespace CallsHandled

variable {P : State → Prop} (hP : CallsHandled P) {s : State}
include hP

theorem followInvestigation (entered : Bool) (h : P s) : P (followInvestigation entered s) := by
  have hasked : P (if entered then Machine.askStaff s else s) := ite_keeps (hP.askStaff h) h
  exact ite_keeps (hP.endCall _ _ hasked) hasked

theorem callsFollowPhase (old target : Phase) (length : Nat) (h : P s) : P (callsFollowPhase old target length s) := by
  have hsuppressed : P (if permitsCalls target then s else Machine.suppressOrdinary s) :=
    ite_keeps h (hP.suppressOrdinary h)
  have hstopped := ite_keeps (c := old = .interval) (hP.stopInterval hsuppressed) hsuppressed
  exact ite_keeps (hP.startInterval length hstopped) hstopped

end CallsHandled

/-- A property `P` kept by the governor's moves, by calls, and by the zones with their hand-overs. -/
structure HandOverRules (T : Tables) (P W : State → Prop) : Prop extends GovernorClosed T P, CallsHandled P,
    MonitorClosed handOver P W where
  mark : ∀ {s} b, P s → P (s.withEffects { s.effects with noticeDue := b })

namespace HandOverRules

variable {T : Tables} {P W : State → Prop} (hP : HandOverRules T P W) {s : State}
include hP

theorem reportCurtain (r : CurtainReport) (h : P s) : P (reportCurtain r s) := hP.toMonitorClosed.report64 r h

theorem endAct (h : P s) : P (endAct s) :=
  have hsettled := hP.settle h
  ite_keeps (hP.offer _ _ (hP.mark false hsettled)) hsettled

/-- The commands that own no piece of state keep the property, where the plain moves and the three of the link and of the
windows do. -/
theorem toCommand (hplain : PlainClosed P) (hcalls : SequencerOps P) (hbeat : ∀ {s}, P s → P (panelBeat s))
    (hlost : ∀ {s}, P s →
      P (endInvestigation Machine.handOver (setLink .lost (s.withMonitor { s.monitor with heartbeat := none }))))
    (hisolate : ∀ {s} args, P s → P (isolateZoneOwner args s).1) : CommandClosed P :=
  { hplain, hP.toGovernorClosed.toOps (fun r _ h => hP.reportCurtain r h) hplain.lines,
    hcalls with
    endAct := hP.endAct
    takeReport := fun body h => hP.toMonitorClosed.takeReport body h
    panelBeat := hbeat
    heartbeatLost := hlost
    panelFire := hP.toMonitorClosed.panelFire
    investigationFails := fun z _ h => hP.toMonitorClosed.enterAlarm z h
    windowCloses := fun z cause h => hP.toMonitorClosed.closeWindow cause z h
    alarmAckOwner := fun args h => hP.toMonitorClosed.alarmAckOwner args h
    alarmCancelOwner := fun args h => hP.toMonitorClosed.alarmCancelOwner args h
    isolateZoneOwner := hisolate }

theorem setLink (hlink : ∀ {s} l, W s → W (s.withMonitor { s.monitor with link := l })) (l : PanelLink) (h : P s) :
    P (setLink l s) := hP.handed _ nofun (hP.unsettledRecord _ _ _ _ (hlink l (hP.unsettled h)))

theorem zoneTakesTables (z : ZoneId) (h : P s) : P (zoneTakesTables s z) := by
  unfold Machine.zoneTakesTables
  split
  next => exact h
  next hzone =>
    have hfrom : (zoneAt s z).state ≠ .alarm := by
      simp only [Bool.or_eq_true, decide_eq_true_eq, not_or] at hzone
      exact hzone.2
    have hmove : ZoneMove s z { leaveInvestigation (zoneAt s z) with state := .quiet, devices := [], knock := none } :=
      { alarm := fun ha => absurd ha hfrom
        investigating := fun hi => nomatch hi
        map := fun _ => ⟨Nat.zero_le _, List.Pairwise.nil⟩
        window := .inl rfl }
    have hquieted := hP.move z
      (fun r => { leaveInvestigation r with state := .quiet, devices := [], knock := none }) hmove (hP.unsettled h)
    dsimp only
    by_cases hquiet : (zoneAt s z).state = .quiet
    · rw [if_pos hquiet]
      split
      next => exact hP.handed _ nofun hquieted
      next hfaulty => exact hP.still z _ hmove hquiet.symm (by simpa [Zone.faulty] using hfaulty) h
    · rw [if_neg hquiet]
      have hhanded := hP.handed false nofun (hP.unsettledRecord .zoneState (zoneByte z) (zoneAt s z).state.code
        ZoneState.quiet.code hquieted)
      exact ite_keeps (hP.handed _ nofun (hP.unsettled hhanded)) hhanded

theorem zonesFollowPhase (target : Phase) (h : P s) : P (zonesFollowPhase target s) := by
  have hsettled : P (if permitsDelay target then s else Machine.endInvestigation Machine.handOver s) :=
    ite_keeps h (hP.toMonitorClosed.endInvestigation h)
  exact ite_keeps hsettled (hP.toMonitorClosed.closeWindows _ hsettled)

end HandOverRules

/-! ### Carried through the hand-over -/

/-- A property `P` kept by the governor's moves, by calls and by the zones, which the law of the effect set and the stage
restores from what holds of the zones alone, `W`. -/
structure AlarmRules (T : Tables) (P W : State → Prop) : Prop extends GovernorClosed T P, CallsHandled P where
  stream : ∀ {s} x, P s → P (s.withStream x)
  alarmJoins : ∀ {s}, P s → P (updCurtain (fun c => { c with demands := c.demands.insert .alarm }) s)
  mark : ∀ {s} b, P s → P (s.withEffects { s.effects with noticeDue := b })
  unsettled : ∀ {s}, P s → W s
  unsettledRecord : ∀ {s} k a b c, W s → W (writeRecord k a b c s)
  unsettledSet : ∀ {s} x, W s → W (s.withEffects { s.effects with set := x })
  unsettledStage : ∀ {s}, W s → W (s.withEffects { s.effects with stage := stageOf s.monitor.zones s.monitor.link })
  unsettledMark : ∀ {s} b, W s → W (s.withEffects { s.effects with noticeDue := b })
  still : ∀ {s} z f, ZoneMove s z (f (zoneAt s z)) → (f (zoneAt s z)).state = (zoneAt s z).state →
    (f (zoneAt s z)).faulty = (zoneAt s z).faulty → P s → P (updZone z f s)
  move : ∀ {s} z f, ZoneMove s z (f (zoneAt s z)) → W s → W (updZone z f s)
  settled : ∀ {s}, AlarmLaw s → W s → P s

namespace AlarmRules

variable {T : Tables} {P W : State → Prop} (hP : AlarmRules T P W) {s : State}
include hP

theorem toMonitor {ho : HandOver} (handed : ∀ b {s}, W s → P (ho b s)) : MonitorClosed ho P W :=
  { hP with handed := fun b _ _ h => handed b h }

theorem recomputeStage {rise : State → State} (hrise : ∀ {s}, P s → P (rise s))
    (hset : s.effects.set = currentSet s) (h : W s) : P (recomputeStage rise s) := by
  unfold Machine.recomputeStage
  dsimp only
  split
  next hstage => exact hP.settled ⟨hset, hstage.symm⟩ h
  next =>
    have hchanged : P (setStage (stageOf s.monitor.zones s.monitor.link) s) :=
      hP.settled ⟨by simpa [setStage, noticeIsDue, currentSet] using hset, by simp [setStage, noticeIsDue]⟩
        (hP.unsettledRecord _ _ _ _ (hP.unsettledMark _ (hP.unsettledStage h)))
    exact ite_keeps (hrise hchanged) hchanged

theorem deliver {curtain : State → State} (hcurtain : ∀ {s}, P s → P (curtain s)) (old : EffectSet) (h : P s) :
    P (deliver curtain old s) := by
  have hdelivered : P (if s.effects.set.curtain then curtain s else s) := ite_keeps (hcurtain h) h
  exact hP.askEvacuation (ite_keeps (hP.stream _ hdelivered) hdelivered)

/-- A hand-over restores the property, where its consequences keep it. -/
theorem handOverWith {rise curtain : State → State} (hrise : ∀ {s}, P s → P (rise s))
    (hcurtain : ∀ {s}, P s → P (curtain s)) (entered : Bool) (h : W s) : P (handOverWith rise curtain entered s) := by
  have hstage : P (Machine.recomputeStage rise (s.withEffects { s.effects with set := currentSet s })) :=
    hP.recomputeStage hrise rfl (hP.unsettledSet _ h)
  exact hP.followInvestigation entered (ite_keeps hstage (hP.deliver hcurtain _ hstage))

theorem handOverInDelivery (b : Bool) (h : W s) : P (handOverInDelivery b s) := hP.handOverWith id id b h

theorem deliverCurtain (h : P s) : P (deliverCurtain s) :=
  hP.toGovernorClosed.addAlarm
    (fun r _ h => (hP.toMonitor fun b _ h => hP.handOverInDelivery b h).report64 r h) hP.alarmJoins h

theorem handOverInRise (b : Bool) (h : W s) : P (handOverInRise b s) := hP.handOverWith id hP.deliverCurtain b h

theorem riseToEvacuate (h : P s) : P (riseToEvacuate s) :=
  (hP.toMonitor fun b _ h => hP.handOverInRise b h).closeWindows _
    (hP.suppressOrdinary (hP.endCall _ _ h))

theorem handOver (b : Bool) (h : W s) : P (handOver b s) := hP.handOverWith hP.riseToEvacuate hP.deliverCurtain b h

theorem toHandOver : HandOverRules T P W :=
  { hP.toGovernorClosed, hP.toCallsHandled, hP.toMonitor fun b _ h => hP.handOver b h with mark := hP.mark }

end AlarmRules

/-! ### Laws of the zones -/

/-- Two states agree on the zones, the tables, the phase, staff presence, the effect set, the stage and the ALARM
demand. -/
structure SameAlarm (s t : State) : Prop where
  monitor : t.monitor = s.monitor
  tables : t.tables = s.tables
  phase : t.phase.phase = s.phase.phase
  staff : t.phase.staff = s.phase.staff
  set : t.effects.set = s.effects.set
  stage : t.effects.stage = s.effects.stage
  demand : t.curtain.demands.alarm = s.curtain.demands.alarm

theorem sameAlarm_record (k : EventKind) (a b c : Byte) (s : State) : SameAlarm s (writeRecord k a b c s) :=
  ⟨by simp, by simp, by simp, by simp, by simp, by simp, by simp⟩

theorem sameAlarm_offer (q : QueueId) (f : Frame) (s : State) : SameAlarm s (offer q f s) :=
  ⟨by simp, by simp, by simp, by simp, by simp, by simp, by simp⟩

/-- A property that speaks of nothing else. -/
structure FollowsAlarm (P : State → Prop) : Prop where
  congr : ∀ {s t}, P s → SameAlarm s t → P t

namespace FollowsAlarm

variable {P : State → Prop} (hP : FollowsAlarm P)
include hP

theorem calls : CallsClosed P where
  record _ _ _ _ h := hP.congr h (sameAlarm_record _ _ _ _ _)
  offer _ _ h := hP.congr h (sameAlarm_offer _ _ _)
  calls _ h := hP.congr h ⟨rfl, rfl, rfl, rfl, rfl, rfl, rfl⟩

theorem handled : CallsHandled P := callsHandled_of_closed hP.calls

theorem governor {T : Tables} (htables : ∀ {s}, P s → s.tables = T) : GovernorClosed T P :=
  { hP.calls.toRecordClosed with
    tables := htables
    curtain := fun _ hx h => hP.congr h ⟨rfl, rfl, rfl, rfl, rfl, rfl, hx.alarm⟩
    testValid := fun _ h => hP.congr h ⟨rfl, rfl, rfl, rfl, rfl, rfl, rfl⟩
    notice := fun h => hP.congr h ⟨rfl, rfl, rfl, rfl, rfl, rfl, rfl⟩ }

theorem plain : PlainClosed P :=
  { hP.calls.toRecordClosed with
    dropHead := fun _ h => hP.congr h ⟨rfl, rfl, rfl, rfl, rfl, rfl, rfl⟩
    badLatch := fun _ h => hP.congr h ⟨rfl, rfl, rfl, rfl, rfl, rfl, rfl⟩
    tx := fun _ h => hP.congr h ⟨rfl, rfl, rfl, rfl, rfl, rfl, rfl⟩
    lines := fun _ h => hP.congr h ⟨rfl, rfl, rfl, rfl, rfl, rfl, rfl⟩
    stream := fun _ h => hP.congr h ⟨rfl, rfl, rfl, rfl, rfl, rfl, rfl⟩
    channels := fun _ _ h => hP.congr h ⟨rfl, rfl, rfl, rfl, rfl, rfl, rfl⟩
    restart := fun _ h => hP.congr h ⟨rfl, rfl, rfl, rfl, rfl, rfl, rfl⟩
    noticeTimer := fun _ h => hP.congr h ⟨rfl, rfl, rfl, rfl, rfl, rfl, rfl⟩
    statusTimer := fun _ h => hP.congr h ⟨rfl, rfl, rfl, rfl, rfl, rfl, rfl⟩ }

/-- The rules of such a property, from what it says of a change of a zone record and of the hand-over. -/
theorem rules {T : Tables} {W : State → Prop} (htables : ∀ {s}, P s → s.tables = T) (hW : FollowsAlarm W)
    (unsettledSet : ∀ {s} x, W s → W (s.withEffects { s.effects with set := x }))
    (unsettledStage : ∀ {s}, W s → W (s.withEffects { s.effects with stage := stageOf s.monitor.zones s.monitor.link }))
    (alarmJoins : ∀ {s}, P s → P (updCurtain (fun c => { c with demands := c.demands.insert .alarm }) s))
    (unsettled : ∀ {s}, P s → W s)
    (still : ∀ {s} z f, ZoneMove s z (f (zoneAt s z)) → (f (zoneAt s z)).state = (zoneAt s z).state →
      (f (zoneAt s z)).faulty = (zoneAt s z).faulty → P s → P (updZone z f s))
    (move : ∀ {s} z f, ZoneMove s z (f (zoneAt s z)) → W s → W (updZone z f s))
    (settled : ∀ {s}, AlarmLaw s → W s → P s) : AlarmRules T P W :=
  { hP.governor htables, hP.handled with
    stream := fun _ h => hP.congr h ⟨rfl, rfl, rfl, rfl, rfl, rfl, rfl⟩
    alarmJoins := alarmJoins
    mark := fun _ h => hP.congr h ⟨rfl, rfl, rfl, rfl, rfl, rfl, rfl⟩
    unsettled := unsettled
    unsettledRecord := fun _ _ _ _ h => hW.congr h (sameAlarm_record _ _ _ _ _)
    unsettledSet := unsettledSet
    unsettledStage := unsettledStage
    unsettledMark := fun _ h => hW.congr h ⟨rfl, rfl, rfl, rfl, rfl, rfl, rfl⟩
    still := still
    move := move
    settled := settled }

end FollowsAlarm

theorem alarmLaw_follows : FollowsAlarm AlarmLaw where
  congr h e := alarmLaw_congr e.tables e.monitor e.set e.stage h

/-- A law of the zones: it speaks of the zones, the tables, the phase and staff presence alone, and every change of a zone
record keeps it. -/
structure ZoneLaw (Z : State → Prop) : Prop where
  congr : ∀ {s t}, Z s → t.monitor = s.monitor → t.tables = s.tables → t.phase.phase = s.phase.phase →
    t.phase.staff = s.phase.staff → Z t
  move : ∀ {s} z f, ZoneMove s z (f (zoneAt s z)) → Z s → Z (updZone z f s)

namespace ZoneLaw

variable {Z : State → Prop} (hZ : ZoneLaw Z) (T : Tables)
include hZ

theorem follows : FollowsAlarm (On T Z) where
  congr h e := ⟨e.tables.trans h.1, hZ.congr h.2 e.monitor e.tables e.phase e.staff⟩

theorem followsLawful : FollowsAlarm (On T fun s => AlarmLaw s ∧ Z s) where
  congr h e := ⟨e.tables.trans h.1, alarmLaw_follows.congr h.2.1 e, hZ.congr h.2.2 e.monitor e.tables e.phase e.staff⟩

theorem record {s : State} (k : EventKind) (a b c : Byte) (h : Z s) : Z (writeRecord k a b c s) :=
  hZ.congr h (by simp) (by simp) (by simp) (by simp)

theorem withEffects {s : State} (x : EffectState) (h : On T Z s) : On T Z (s.withEffects x) :=
  ⟨h.1, hZ.congr h.2 rfl rfl rfl rfl⟩

theorem updZone {s : State} (z : ZoneId) (f : Zone → Zone) (hf : ZoneMove s z (f (zoneAt s z))) (h : On T Z s) :
    On T Z (updZone z f s) := ⟨h.1, hZ.move z f hf h.2⟩

/-- A law of the zones by itself. -/
theorem rules : AlarmRules T (On T Z) (On T Z) :=
  (hZ.follows T).rules (fun h => h.1) (hZ.follows T) (fun _ h => hZ.withEffects T _ h) (hZ.withEffects T _)
    (fun h => ⟨h.1, hZ.congr h.2 rfl rfl rfl rfl⟩) id (fun z f hf _ _ h => hZ.updZone T z f hf h)
    (hZ.updZone T) (fun _ h => h)

/-- A law of the zones beside the law of the effect set and the stage, which a hand-over restores. -/
theorem lawful : AlarmRules T (On T fun s => AlarmLaw s ∧ Z s) (On T Z) :=
  (hZ.followsLawful T).rules (fun h => h.1) (hZ.follows T) (fun _ h => hZ.withEffects T _ h) (hZ.withEffects T _)
    (fun h => ⟨h.1, h.2.1, hZ.congr h.2.2 rfl rfl rfl rfl⟩) (fun h => ⟨h.1, h.2.2⟩)
    (fun z f hf hstate hfaulty h => ⟨h.1, alarmLaw_updZone hstate hfaulty h.2.1, hZ.move z f hf h.2.2⟩) (hZ.updZone T)
    (fun hlaw h => ⟨h.1, hlaw, h.2⟩)

theorem handOverRules : HandOverRules T (On T Z) (On T Z) := (hZ.rules T).toHandOver

theorem handOver {s : State} (b : Bool) (h : Z s) : Z (handOver b s) := ((hZ.rules s.tables).handOver b ⟨rfl, h⟩).2

theorem toAlarm {s : State} (zs : List ZoneId) (h : Z s) : Z (toAlarm Machine.handOver zs s) :=
  ((hZ.handOverRules s.tables).toAlarm zs ⟨rfl, h⟩).2

theorem endInvestigation {s : State} (h : Z s) : Z (endInvestigation Machine.handOver s) := hZ.toAlarm _ h

theorem closeWindow {s : State} (cause : CloseCause) (z : ZoneId) (h : Z s) :
    Z (closeWindow Machine.handOver cause s z) := ((hZ.handOverRules s.tables).closeWindow cause z ⟨rfl, h⟩).2

theorem closeWindows {s : State} (cause : CloseCause) (h : Z s) : Z (closeWindows Machine.handOver cause s) :=
  ((hZ.handOverRules s.tables).closeWindows cause ⟨rfl, h⟩).2

end ZoneLaw

end Sys2Proof.Machine
end


section
/-! The owners of the phase, of staff presence and of the tables, for properties that follow the alarm; and the laws of
the effect set, of the device maps, of the investigations, and of ALARM (R103, R113, R117, R128, R129). -/

namespace Sys2Proof.Machine

/-- A property that speaks of nothing but the alarm and the calls. -/
structure FollowsHeld (P : State → Prop) : Prop where
  congr : ∀ {s t}, P s → SameAlarm s t → t.calls = s.calls → P t

theorem FollowsAlarm.on {P : State → Prop} (hP : FollowsAlarm P) (T : Tables) : FollowsAlarm (On T P) where
  congr h e := ⟨e.tables.trans h.1, hP.congr h.2 e⟩

theorem FollowsAlarm.held {P : State → Prop} (hP : FollowsAlarm P) : FollowsHeld P := ⟨fun h e _ => hP.congr h e⟩

namespace FollowsHeld

variable {P : State → Prop} (hP : FollowsHeld P)
include hP

theorem on (T : Tables) : FollowsHeld (On T P) where
  congr h e hcalls := ⟨e.tables.trans h.1, hP.congr h.2 e hcalls⟩

theorem recordClosed : RecordClosed P where
  record _ _ _ _ h := hP.congr h (sameAlarm_record _ _ _ _ _) (writeRecord_calls _ _ _ _ _)
  offer _ _ h := hP.congr h (sameAlarm_offer _ _ _) (offer_calls _ _ _)

theorem governor {T : Tables} (htables : ∀ {s}, P s → s.tables = T) : GovernorClosed T P :=
  { hP.recordClosed with
    tables := htables
    curtain := fun _ hx h => hP.congr h ⟨rfl, rfl, rfl, rfl, rfl, rfl, hx.alarm⟩ rfl
    testValid := fun _ h => hP.congr h ⟨rfl, rfl, rfl, rfl, rfl, rfl, rfl⟩ rfl
    notice := fun h => hP.congr h ⟨rfl, rfl, rfl, rfl, rfl, rfl, rfl⟩ rfl }

theorem plain : PlainClosed P :=
  { hP.recordClosed with
    dropHead := fun _ h => hP.congr h ⟨rfl, rfl, rfl, rfl, rfl, rfl, rfl⟩ rfl
    badLatch := fun _ h => hP.congr h ⟨rfl, rfl, rfl, rfl, rfl, rfl, rfl⟩ rfl
    tx := fun _ h => hP.congr h ⟨rfl, rfl, rfl, rfl, rfl, rfl, rfl⟩ rfl
    lines := fun _ h => hP.congr h ⟨rfl, rfl, rfl, rfl, rfl, rfl, rfl⟩ rfl
    stream := fun _ h => hP.congr h ⟨rfl, rfl, rfl, rfl, rfl, rfl, rfl⟩ rfl
    channels := fun _ _ h => hP.congr h ⟨rfl, rfl, rfl, rfl, rfl, rfl, rfl⟩ rfl
    restart := fun _ h => hP.congr h ⟨rfl, rfl, rfl, rfl, rfl, rfl, rfl⟩ rfl
    noticeTimer := fun _ h => hP.congr h ⟨rfl, rfl, rfl, rfl, rfl, rfl, rfl⟩ rfl
    statusTimer := fun _ h => hP.congr h ⟨rfl, rfl, rfl, rfl, rfl, rfl, rfl⟩ rfl }

end FollowsHeld

/-- A property that follows the alarm and the calls is kept by a command: by the rules of the hand-over and the operations
of the calls, and by what the commands of the link, the windows, staff presence, the phase, ALARM-RESET and the power-on
sequence do where the command is one of them. -/
structure LawKept (c : Instr) (Q : State → Prop) (W : Tables → State → Prop) : Prop where
  follows : FollowsHeld Q
  calls : ∀ T, SequencerOps (On T Q)
  rules : ∀ T, HandOverRules T (On T Q) (W T)
  beat : ∀ {s}, Q s → Q (panelBeat s)
  lost : ∀ {s}, Q s →
    Q (endInvestigation handOver (setLink .lost (s.withMonitor { s.monitor with heartbeat := none })))
  isolate : ∀ {s} args, Q s → Q (isolateZoneOwner args s).1
  staff : ∀ {s} on, Q s → Q (changeStaff on s)
  carry : ∀ {s} target length, target ≠ s.phase.phase → transitionTests s target = none → Q s →
    Q (carryOut target length s)
  reset : c = .alarmReset → ∀ {s}, alarmResetTests s = none → Q s → Q (alarmReset s)
  power : PowersOn c → ∀ cause s, Q s →
    Q (resetBlocks cause s.pending { s.lines with reset := false } (abandonWrite s.store))

/-- The operations that leave the tables in force keep them beside any property. -/
theorem tables_panelBeat (s : State) : (panelBeat s).tables = s.tables :=
  (moveClosed_tables s.tables).toReach.panelBeat rfl

theorem tables_heartbeatLost (s : State) :
    (endInvestigation handOver (setLink .lost (s.withMonitor { s.monitor with heartbeat := none }))).tables = s.tables :=
  (moveClosed_tables s.tables).toReach.toMonitorOps.heartbeatLost rfl

theorem tables_isolateZoneOwner (args : List Byte) (s : State) : (isolateZoneOwner args s).1.tables = s.tables :=
  (moveClosed_tables s.tables).toReach.toMonitorOps.isolateZoneOwner args rfl

theorem tables_changeStaff (on : Bool) (s : State) : (changeStaff on s).tables = s.tables := by
  have hset : (writeRecord .staffPresence 0 (boolByte on) 0 (s.withPhase { s.phase with staff := on })).tables
      = s.tables := writeRecord_tables _ _ _ _ _
  exact ite_keeps (P := fun t => t.tables = s.tables) hset ((moveClosed_tables s.tables).toReach.endInvestigation hset)

theorem sameAlarm_beginRaise (s : State) : SameAlarm s (beginRaise s) := by
  unfold beginRaise toState
  dsimp only
  split
  · exact ⟨rfl, rfl, rfl, rfl, rfl, rfl, rfl⟩
  · exact ⟨by simp [updCurtain, noticeIsDue], by simp [updCurtain, noticeIsDue], by simp [updCurtain, noticeIsDue],
      by simp [updCurtain, noticeIsDue], by simp [updCurtain, noticeIsDue], by simp [updCurtain, noticeIsDue],
      by simp [updCurtain, noticeIsDue]⟩

theorem calls_beginRaise (s : State) : (beginRaise s).calls = s.calls := by
  unfold beginRaise toState
  dsimp only
  split
  · rfl
  · simp [updCurtain, noticeIsDue]

namespace LawKept

variable {c : Instr} {Q : State → Prop} {W : Tables → State → Prop} (hQ : LawKept c Q W) {s : State}
include hQ

theorem command (T : Tables) : CommandClosed (On T Q) :=
  (hQ.rules T).toCommand (hQ.follows.on T).plain (hQ.calls T) (fun h => ⟨(tables_panelBeat _).trans h.1, hQ.beat h.2⟩)
    (fun h => ⟨(tables_heartbeatLost _).trans h.1, hQ.lost h.2⟩)
    (fun args h => ⟨(tables_isolateZoneOwner args _).trans h.1, hQ.isolate args h.2⟩)

theorem powerOnSequence (hc : PowersOn c) (cause : ResetCause) (h : Q s) : Q (powerOnSequence cause s) :=
  (takeLines_keeps (hQ.command _) ⟨rfl, hQ.power hc cause s h⟩).2

theorem endAct (h : Q s) : Q (endAct s) := ((hQ.rules s.tables).endAct ⟨rfl, h⟩).2

theorem answers (h : Q s) : Answers c s Q := by
  have hP := hQ.command s.tables
  have hon : On s.tables Q s := ⟨rfl, h⟩
  have hforget {c : Instr} : Answers c s (On s.tables Q) → Answers c s Q := fun ⟨t, ht, hq⟩ => ⟨t, ht, hq.2⟩
  cases hc : ownsState c with
  | false => exact hforget (hP.answers hc hon)
  | true =>
    cases c <;> simp only [ownsState, Bool.false_eq_true] at hc
    case resetAsserted => exact hforget ⟨_, rfl, (hQ.follows.on _).congr hon ⟨rfl, rfl, rfl, rfl, rfl, rfl, rfl⟩ rfl⟩
    case storeWriteEnd back =>
      exact hforget (answers_storeWriteEnd hP.toRecordClosed
        (fun _ h => ⟨h.1, hQ.follows.congr h.2 ⟨rfl, rfl, rfl, rfl, rfl, rfl, rfl⟩ rfl⟩) back hon)
    case writeTable =>
      exact hforget (answers_writeTable hP
        (fun _ h => ⟨h.1, hQ.follows.congr h.2 ⟨rfl, rfl, rfl, rfl, rfl, rfl, rfl⟩ rfl⟩) hon)
    case setMaster =>
      exact hforget (answers_setMaster hP
        (fun _ h => ⟨h.1, hQ.follows.congr h.2 ⟨rfl, rfl, rfl, rfl, rfl, rfl, rfl⟩ rfl⟩) hon)
    case alarmReset =>
      exact hforget (answers_alarmReset hP
        (fun htests h => ⟨(moveClosed_tables _).toReach.alarmReset h.1, hQ.reset rfl htests h.2⟩) hon)
    case curtainRaise =>
      exact hforget (answers_curtainRaise hP (fun _ h => (hQ.follows.on _).congr h (sameAlarm_beginRaise _) (calls_beginRaise _)) hon)
    case staffPresent =>
      exact hforget (answers_staffPresent hP (fun on h => ⟨(tables_changeStaff on _).trans h.1, hQ.staff on h.2⟩) hon)
    case setPhase =>
      exact answers_setPhase (fun h => hQ.follows.plain.dropHead _ h) hQ.endAct
        (fun q f h => hQ.follows.recordClosed.offer q f h)
        (fun target length hnew htests h => hQ.carry target length hnew htests h) h
    case powerOn => exact answers_powerOn (fun cause h => hQ.powerOnSequence (.inl rfl) cause h) h
    case restartPowerOnSequence =>
      exact answers_restartPowerOnSequence (fun cause h => hQ.powerOnSequence (.inr rfl) cause h) h

end LawKept

/-- A step keeps a property that follows the alarm and that every command keeps. -/
theorem step_keeps {Q : State → Prop} {W : Tables → State → Prop} (hQ : ∀ c, LawKept c Q W) {s t : State} (h : Q s)
    (hstep : step s = .next t) : Q t :=
  have hsame {s t : State} (h : Q s) (e : SameAlarm s t) (hcalls : t.calls = s.calls) : Q t :=
    (hQ .resetAsserted).follows.congr h e hcalls
  StepClosed.of_answers (fun c _ h => (hQ c).answers h) (fun _ h => hsame h ⟨rfl, rfl, rfl, rfl, rfl, rfl, rfl⟩ rfl)
    (fun _ h => hsame h ⟨rfl, rfl, rfl, rfl, rfl, rfl, rfl⟩ rfl) (fun _ h => hsame h ⟨rfl, rfl, rfl, rfl, rfl, rfl, rfl⟩ rfl) h hstep

/-! ### Laws that speak of neither the phase nor the link -/

/-- A property that holds whatever the phase, staff presence and the panel link. -/
structure Indifferent (Q : State → Prop) (W : Tables → State → Prop) : Prop where
  phase : ∀ {s} x, Q s → Q (s.withPhase x)
  heartbeat : ∀ {s} t, Q s → Q (s.withMonitor { s.monitor with heartbeat := t })
  link : ∀ {T s} l, W T s → W T (s.withMonitor { s.monitor with link := l })
  window : ∀ {s} z w, Q s → Q (updZone z (fun r => { r with window := w }) s)
  commit : ∀ {s}, s.effects.stage ≠ .evacuate → validate s.working = none → Q s → Q (commitTables s)

section
variable {Q : State → Prop} {W : Tables → State → Prop} (hfollows : FollowsHeld Q)
  (hrules : ∀ T, HandOverRules T (On T Q) (W T)) {s : State}

include hfollows in
theorem changePhase_keeps_law (hphase : ∀ {s} x, Q s → Q (s.withPhase x)) (target : Phase) (h : Q s) :
    Q (changePhase target s) := by
  have hrecord {s : State} (k : EventKind) (a b c : Byte) (h : Q s) : Q (writeRecord k a b c s) :=
    hfollows.recordClosed.record k a b c h
  have hphased (x : PhaseState) : Q (noticeIsDue (s.withPhase x)) :=
    hfollows.congr (hphase x h) ⟨rfl, rfl, rfl, rfl, rfl, rfl, rfl⟩ rfl
  exact ite_keeps (hrecord _ _ _ _ (hrecord _ _ _ _ (hphased _))) (hrecord _ _ _ _ (hphased _))

/-- An accepted transition but for what the Call Sequencer makes of it (R4 test 6). -/
def zonesCarried (target : Phase) (s : State) : State :=
  let old := s.phase.phase
  let s1 := changePhase target (if old = .maintenance then commitTables s else s)
  let s2 := if old = .maintenance then (List.finRange 66).foldl zoneTakesTables s1 else s1
  zonesFollowPhase target (if target = .maintenance then s2.withWorking s2.tables else s2)

theorem carryOut_eq (target : Phase) (length : Nat) (s : State) :
    carryOut target length s = callsFollowPhase s.phase.phase target length (zonesCarried target s) := rfl

include hfollows hrules in
theorem zonesCarried_keeps_law {target : Phase}
    (h : Q (changePhase target (if s.phase.phase = .maintenance then commitTables s else s))) :
    ∃ T, On T Q (zonesCarried target s) := by
  unfold zonesCarried
  dsimp only
  generalize changePhase target (if s.phase.phase = .maintenance then commitTables s else s) = u at h
  have hP := hrules u.tables
  have hzones : On u.tables Q
      (if s.phase.phase = .maintenance then (List.finRange 66).foldl zoneTakesTables u else u) :=
    ite_keeps (foldl_keeps (fun _ z hx => hP.zoneTakesTables z hx) _ _ ⟨rfl, h⟩) ⟨rfl, h⟩
  generalize (if s.phase.phase = .maintenance then (List.finRange 66).foldl zoneTakesTables u else u) = v at hzones
  have hworking : On u.tables Q (if target = .maintenance then v.withWorking v.tables else v) :=
    ite_keeps ⟨hzones.1, hfollows.congr hzones.2 ⟨rfl, rfl, rfl, rfl, rfl, rfl, rfl⟩ rfl⟩ hzones
  exact ⟨u.tables, hP.zonesFollowPhase target hworking⟩

include hfollows hrules in
/-- What follows the change of phase in an accepted transition keeps a law that stands as it follows. -/
theorem carryOut_keeps_law {target : Phase} {length : Nat}
    (h : Q (changePhase target (if s.phase.phase = .maintenance then commitTables s else s))) :
    Q (carryOut target length s) := by
  obtain ⟨T, hcarried⟩ := zonesCarried_keeps_law hfollows hrules h
  rw [carryOut_eq]
  exact ((hrules T).callsFollowPhase _ target length hcarried).2

include hrules in
theorem changeStaff_keeps_law (hphase : ∀ {s} x, Q s → Q (s.withPhase x)) (on : Bool) (h : Q s) :
    Q (changeStaff on s) := by
  have hset : On s.tables Q (writeRecord .staffPresence 0 (boolByte on) 0 (s.withPhase { s.phase with staff := on })) :=
    (hrules s.tables).record _ _ _ _ ⟨rfl, hphase _ h⟩
  exact (ite_keeps hset ((hrules s.tables).endInvestigation hset)).2

end

/-- A commit is accepted below EVACUATE alone (R4 test 3). -/
theorem stage_of_commit {s : State} {target : Phase} (hphase : s.phase.phase = .maintenance)
    (h : transitionTests s target = none) : s.effects.stage ≠ .evacuate := by
  intro hstage
  cases target <;> simp [transitionTests, hstage, hphase, isTransition] at h

/-- A commit is accepted with a valid working copy alone (R5). -/
theorem valid_of_commit {s : State} {target : Phase} (hphase : s.phase.phase = .maintenance)
    (h : transitionTests s target = none) : validate s.working = none := by
  unfold transitionTests at h
  split_ifs at h
  simpa [guardOf, hphase] using h

theorem Indifferent.lawKeptOfHeld {c : Instr} {Q : State → Prop} {W : Tables → State → Prop} (hQ : Indifferent Q W)
    (hfollows : FollowsHeld Q) (hcalls : ∀ T, SequencerOps (On T Q)) (hrules : ∀ T, HandOverRules T (On T Q) (W T))
    (hreset : c = .alarmReset → ∀ {s}, alarmResetTests s = none → Q s → Q (alarmReset s))
    (hpower : PowersOn c → ∀ cause s, Q s →
      Q (resetBlocks cause s.pending { s.lines with reset := false } (abandonWrite s.store))) : LawKept c Q W where
  follows := hfollows
  calls := hcalls
  rules := hrules
  beat {s} h := by
    have hbeat : On s.tables Q (s.withMonitor { s.monitor with heartbeat := afterS s s.tables.link.heartbeat.toNat }) :=
      ⟨rfl, hQ.heartbeat _ h⟩
    exact (ite_keeps hbeat ((hrules s.tables).setLink (fun l h => hQ.link l h) .up hbeat)).2
  lost {s} h := by
    have hstopped : On s.tables Q (s.withMonitor { s.monitor with heartbeat := none }) := ⟨rfl, hQ.heartbeat _ h⟩
    exact ((hrules s.tables).endInvestigation
      ((hrules s.tables).setLink (fun l h => hQ.link l h) .lost hstopped)).2
  isolate {s} args h := by
    unfold isolateZoneOwner
    split
    · exact h
    · exact hfollows.recordClosed.record _ _ _ _ (hQ.window _ _ h)
  staff on h := changeStaff_keeps_law hrules (fun x h => hQ.phase x h) on h
  carry {s} target length _ htests h := by
    refine carryOut_keeps_law hfollows hrules (changePhase_keeps_law hfollows (fun x h => hQ.phase x h) target ?_)
    split
    next hold => exact hQ.commit (stage_of_commit hold htests) (valid_of_commit hold htests) h
    next => exact h
  reset := hreset
  power := hpower

theorem Indifferent.lawKept {c : Instr} {Q : State → Prop} {W : Tables → State → Prop} (hQ : Indifferent Q W)
    (hfollows : FollowsAlarm Q) (hrules : ∀ T, HandOverRules T (On T Q) (W T))
    (hreset : c = .alarmReset → ∀ {s}, alarmResetTests s = none → Q s → Q (alarmReset s))
    (hpower : PowersOn c → ∀ cause s, Q s →
      Q (resetBlocks cause s.pending { s.lines with reset := false } (abandonWrite s.store))) : LawKept c Q W :=
  hQ.lawKeptOfHeld hfollows.held (fun T => callsClosed_toOps (hfollows.on T).calls) hrules hreset hpower

end Sys2Proof.Machine
end


section
/-! Every step keeps the effect set and the stage those of the zones and the link (R128, R129). -/

namespace Sys2Proof.Machine

theorem alarmLaw_rules (T : Tables) : AlarmRules T (On T AlarmLaw) fun s => s.tables = T :=
  FollowsAlarm.rules ⟨fun h e => ⟨e.tables.trans h.1, alarmLaw_follows.congr h.2 e⟩⟩ (fun h => h.1)
    ⟨fun h e => e.tables.trans h⟩ (fun _ h => h) (fun h => h)
    (fun h => ⟨h.1, h.2⟩) (fun h => h.1)
    (fun _ _ _ hstate hfaulty h => ⟨h.1, alarmLaw_updZone hstate hfaulty h.2⟩) (fun _ _ _ h => h)
    (fun hlaw h => ⟨h, hlaw⟩)

theorem handOver_alarmLaw (b : Bool) (s : State) : AlarmLaw (handOver b s) := ((alarmLaw_rules s.tables).handOver b rfl).2

theorem effectSetOf_of_noAlarm {rows : Vector ResponseRow 66} {zones : Vector Zone 66}
    (h : ∀ z : ZoneId, zones[z].state ≠ .alarm) : effectSetOf rows zones = emptyEffects := by
  have hnone : zonesIn zones .alarm = [] :=
    List.eq_nil_iff_forall_not_mem.mpr fun z hz => h z (mem_zonesIn.mp hz)
  rw [effectSetOf, hnone]
  rfl

theorem noAlarm_of_stage {s : State} (hlaw : AlarmLaw s) (hstage : s.effects.stage ≠ .evacuate) (z : ZoneId) :
    (zoneAt s z).state ≠ .alarm :=
  fun hz => hstage (hlaw.2.trans ((stageOf_eq_evacuate_iff _ _).mpr ⟨z, hz⟩))

theorem stage_of_alarm {s : State} {z : ZoneId} (hlaw : AlarmLaw s) (hz : (zoneAt s z).state = .alarm) :
    s.effects.stage = .evacuate := hlaw.2.trans ((stageOf_eq_evacuate_iff _ _).mpr ⟨z, hz⟩)

theorem alarm_of_stage {s : State} (hlaw : AlarmLaw s) (hstage : s.effects.stage = .evacuate) :
    ∃ z : ZoneId, (zoneAt s z).state = .alarm := (stageOf_eq_evacuate_iff _ _).mp (hlaw.2.symm.trans hstage)

theorem alarmLaw_commitTables {s : State} (hstage : s.effects.stage ≠ .evacuate) (h : AlarmLaw s) :
    AlarmLaw (commitTables s) := by
  have hnone := noAlarm_of_stage h hstage
  obtain ⟨hset, hstageOf⟩ := h
  exact ⟨hset.trans ((effectSetOf_of_noAlarm hnone).trans (effectSetOf_of_noAlarm hnone).symm), hstageOf⟩

theorem alarmLaw_alarmReset (s : State) : AlarmLaw (alarmReset s) := by
  have hnone (z : ZoneId) : (zoneAt (alarmReset s) z).state ≠ .alarm := by
    rw [zoneAt_alarmReset, quietedZone_state]
    decide
  have hmonitor : (resetClosed (effectsEmptied s)).monitor = (effectsEmptied s).monitor :=
    (resetClosed_onlyTouches _).monitor (by decide)
  refine ⟨(alarmReset_set s).trans (effectSetOf_of_noAlarm hnone).symm, ?_⟩
  rw [alarmReset_eq, resetClosed_stage, hmonitor]

theorem indifferent_alarmLaw : Indifferent AlarmLaw fun T s => s.tables = T where
  phase _ h := h
  heartbeat _ h := h
  link _ h := h
  window _ _ h := alarmLaw_updZone rfl rfl h
  commit hstage _ h := alarmLaw_commitTables hstage h

theorem lawKept_alarmLaw (c : Instr) : LawKept c AlarmLaw fun T s => s.tables = T :=
  indifferent_alarmLaw.lawKept alarmLaw_follows (fun T => (alarmLaw_rules T).toHandOver) (fun _ s _ _ => alarmLaw_alarmReset s)
    (fun _ _ _ _ => alarmLaw_of_fresh rfl rfl rfl rfl)

/-- Settles O39: every hand-over restores the law from whatever it finds, so each act that changes a zone or the link ends
in it. -/
theorem alarmLawKept : Obligations.AlarmLawKept := by
  unfold Obligations.AlarmLawKept
  exact fun _ _ h hstep => step_keeps lawKept_alarmLaw h hstep

end Sys2Proof.Machine
end

section
/-! The laws of the device maps and of the investigations, and the stay of a zone in ALARM (R102, R103, R113, R117). -/

namespace Sys2Proof.Machine

/-- A law of the zones under some tables follows the alarm. -/
theorem ZoneLaw.followsAlarm {Z : State → Prop} (hZ : ZoneLaw Z) : FollowsAlarm Z where
  congr h e := hZ.congr h e.monitor e.tables e.phase e.staff

/-! ### The device maps -/

/-- R102: every device map keeps its law. -/
def MapsLaw (s : State) : Prop := ∀ z : ZoneId, Mapped (zoneAt s z).devices

theorem mapsLaw_updZone {s : State} {z : ZoneId} {f : Zone → Zone}
    (hf : Mapped (zoneAt s z).devices → Mapped (f (zoneAt s z)).devices) (h : MapsLaw s) : MapsLaw (updZone z f s) := by
  intro y
  by_cases hy : y = z
  · subst hy
    rw [zoneAt_updZone_same]
    exact hf (h y)
  · rw [zoneAt_updZone_other _ _ hy]
    exact h y

theorem zoneLaw_maps : ZoneLaw MapsLaw where
  congr h hmonitor _ _ _ z := zoneAt_congr hmonitor z ▸ h z
  move _ _ hf h := mapsLaw_updZone hf.map h

theorem indifferent_maps : Indifferent MapsLaw fun T => On T MapsLaw where
  phase _ h := h
  heartbeat _ h := h
  link _ h := h
  window _ _ h := mapsLaw_updZone id h
  commit _ _ h := h

theorem mapped_quietedZone {r : Zone} (h : Mapped r.devices) : Mapped (quietedZone r).devices := by
  unfold quietedZone
  split
  · exact h
  · exact mapped_filter _ h

theorem zoneAt_fresh {s : State} (hzones : s.monitor.zones = Vector.replicate 66 freshZone) (z : ZoneId) :
    zoneAt s z = freshZone := by
  have h : zoneAt s z = (Vector.replicate 66 freshZone)[z] := congrArg (fun v : Vector Zone 66 => v[z]) hzones
  exact h.trans (Vector.getElem_replicate z.isLt)

theorem mapsLaw_fresh {s : State} (hzones : s.monitor.zones = Vector.replicate 66 freshZone) : MapsLaw s := by
  intro z
  rw [zoneAt_fresh hzones]
  exact ⟨Nat.zero_le _, List.Pairwise.nil⟩

theorem lawKept_maps (c : Instr) : LawKept c MapsLaw fun T => On T MapsLaw :=
  indifferent_maps.lawKept zoneLaw_maps.followsAlarm zoneLaw_maps.handOverRules
    (fun _ s _ h z => zoneAt_alarmReset s z ▸ mapped_quietedZone (h z))
    (fun _ _ _ _ => mapsLaw_fresh rfl)

theorem mapLawKept : Parts.MapLawKept := fun _ _ h hstep => step_keeps lawKept_maps h hstep

/-! ### At most one zone investigates -/

theorem zoneState_updZone {s : State} {y z : ZoneId} {f : Zone → Zone} {st : ZoneState}
    (h : (zoneAt (updZone z f s) y).state = st) :
    (y = z ∧ (f (zoneAt s z)).state = st) ∨ (y ≠ z ∧ (zoneAt s y).state = st) := by
  by_cases hy : y = z
  · subst hy
    rw [zoneAt_updZone_same] at h
    exact .inl ⟨rfl, h⟩
  · rw [zoneAt_updZone_other _ _ hy] at h
    exact .inr ⟨hy, h⟩

theorem oneInvestigates_updZone {s : State} {z : ZoneId} {f : Zone → Zone}
    (hf : (f (zoneAt s z)).state = .investigating → (zoneAt s z).state = .investigating ∨
      ∀ y : ZoneId, (zoneAt s y).state = .investigating → y = z) (h : OneInvestigates s) :
    OneInvestigates (updZone z f s) := by
  have hother {y : ZoneId} (hy : (zoneAt s y).state = .investigating) (hz : (f (zoneAt s z)).state = .investigating) :
      y = z := (hf hz).elim (h y z hy) fun hall => hall y hy
  intro x y hx hy
  rcases zoneState_updZone hx with ⟨hxz, hxf⟩ | ⟨-, hxs⟩ <;> rcases zoneState_updZone hy with ⟨hyz, hyf⟩ | ⟨-, hys⟩
  · exact hxz.trans hyz.symm
  · exact hxz.trans (hother hys hxf).symm
  · exact (hother hxs hyf).trans hyz.symm
  · exact h x y hxs hys

theorem zoneLaw_one : ZoneLaw OneInvestigates where
  congr h hmonitor _ _ _ y z := by simpa only [zoneAt_congr hmonitor] using h y z
  move _ _ hf h := oneInvestigates_updZone (fun hi => (hf.investigating hi).imp_right fun hmay => hmay.2) h

theorem indifferent_one : Indifferent OneInvestigates fun T => On T OneInvestigates where
  phase _ h := h
  heartbeat _ h := h
  link _ h := h
  window _ _ h := oneInvestigates_updZone .inl h
  commit _ _ h := h

theorem not_investigating_alarmReset (s : State) (z : ZoneId) : (zoneAt (alarmReset s) z).state ≠ .investigating := by
  rw [zoneAt_alarmReset, quietedZone_state]
  decide

theorem not_investigating_fresh {s : State} (hzones : s.monitor.zones = Vector.replicate 66 freshZone) (z : ZoneId) :
    (zoneAt s z).state ≠ .investigating := by
  rw [zoneAt_fresh hzones]
  decide

theorem lawKept_one (c : Instr) : LawKept c OneInvestigates fun T => On T OneInvestigates :=
  indifferent_one.lawKept zoneLaw_one.followsAlarm zoneLaw_one.handOverRules
    (fun _ s _ _ y _ hy _ => absurd hy (not_investigating_alarmReset s y))
    (fun _ _ _ _ y _ hy _ => absurd hy (not_investigating_fresh rfl y))

theorem oneInvestigatesKept : Parts.OneInvestigatesKept := fun _ _ h hstep => step_keeps lawKept_one h hstep

/-! ### A zone stays in ALARM -/

/-- A zone is in ALARM. -/
def InAlarm (z : ZoneId) (s : State) : Prop := (zoneAt s z).state = .alarm

theorem inAlarm_updZone {s : State} {y z : ZoneId} {f : Zone → Zone}
    (hf : (zoneAt s y).state = .alarm → (f (zoneAt s y)).state = .alarm) (h : InAlarm z s) :
    InAlarm z (updZone y f s) := by
  by_cases hy : z = y
  · subst hy
    exact (congrArg Zone.state (zoneAt_updZone_same z f s)).trans (hf h)
  · exact (congrArg Zone.state (zoneAt_updZone_other f s hy)).trans h

theorem zoneLaw_inAlarm (z : ZoneId) : ZoneLaw (InAlarm z) where
  congr h hmonitor _ _ _ := (congrArg Zone.state (zoneAt_congr hmonitor z)).trans h
  move _ _ hf h := inAlarm_updZone hf.alarm h

theorem indifferent_inAlarm (z : ZoneId) : Indifferent (InAlarm z) fun T => On T (InAlarm z) where
  phase _ h := h
  heartbeat _ h := h
  link _ h := h
  window _ _ h := inAlarm_updZone id h
  commit _ _ h := h

theorem lawKept_inAlarm {c : Instr} (hreset : c ≠ .alarmReset) (hpower : ¬PowersOn c) (z : ZoneId) :
    LawKept c (InAlarm z) fun T => On T (InAlarm z) :=
  (indifferent_inAlarm z).lawKept (zoneLaw_inAlarm z).followsAlarm (zoneLaw_inAlarm z).handOverRules
    (fun hc => absurd hc hreset) (fun hc => absurd hc hpower)

theorem kept_of_lawKept {c : Instr} {Q : State → Prop} {W : Tables → State → Prop} {s t : State} (hc : LawKept c Q W)
    (hs : Q s) (h : exec c s = .next t) : Q t := by
  obtain ⟨u, hu, hq⟩ := hc.answers hs
  exact Host.Outcome.next.inj (hu.symm.trans h) ▸ hq

/-- Settles O32: no change of a zone record but that of ALARM-RESET takes a zone out of ALARM. -/
theorem zoneLeavesAlarm : Obligations.ZoneLeavesAlarm := by
  unfold Obligations.ZoneLeavesAlarm
  intro c s t z hexec hs ht
  by_contra hc
  obtain ⟨hreset, hpower⟩ := not_or.mp hc
  exact ht (kept_of_lawKept (lawKept_inAlarm hreset hpower z) hs hexec)

/-! ### Investigations that have lost their conditions -/

/-- The phase permits no delay, staff presence is off, or the panel link is not UP. -/
def NoDelay (s : State) : Prop := permitsDelay s.phase.phase = false ∨ s.phase.staff = false ∨ s.monitor.link ≠ .up

theorem not_mayInvestigate {s : State} (h : NoDelay s) (z : ZoneId) : ¬MayInvestigate s z := by
  rintro ⟨⟨hphase, hstaff, -, hlink, -⟩, -⟩
  rcases h with h | h | h
  · exact absurd hphase (by simp [h])
  · exact absurd hstaff (by simp [h])
  · exact h hlink

/-- No zone can begin to investigate, and a zone does not. -/
def Calm (z : ZoneId) (s : State) : Prop := NoDelay s ∧ (zoneAt s z).state ≠ .investigating

theorem noDelay_congr {s t : State} (h : NoDelay s) (hmonitor : t.monitor = s.monitor)
    (hphase : t.phase.phase = s.phase.phase) (hstaff : t.phase.staff = s.phase.staff) : NoDelay t := by
  unfold NoDelay
  rwa [hmonitor, hphase, hstaff]

theorem zoneLaw_noDelay : ZoneLaw NoDelay where
  congr h hmonitor _ hphase hstaff := noDelay_congr h hmonitor hphase hstaff
  move _ _ _ h := h

theorem zoneLaw_calm (z : ZoneId) : ZoneLaw (Calm z) where
  congr h hmonitor _ hphase hstaff :=
    ⟨noDelay_congr h.1 hmonitor hphase hstaff, by rw [zoneAt_congr hmonitor]; exact h.2⟩
  move y f hf h := by
    refine ⟨h.1, fun hi => ?_⟩
    rcases zoneState_updZone hi with ⟨rfl, hi⟩ | ⟨-, hi⟩
    · exact (hf.investigating hi).elim h.2 (not_mayInvestigate h.1 z)
    · exact h.2 hi

/-- A zone sent to ALARM is in ALARM. -/
theorem enterAlarm_inAlarm (z : ZoneId) (s : State) : InAlarm z (enterState handOver z .alarm s) := by
  have hset (f : Zone → Zone) (hf : (f (zoneAt s z)).state = .alarm) : InAlarm z (updZone z f s) :=
    (congrArg Zone.state (zoneAt_updZone_same z f s)).trans hf
  unfold enterState
  dsimp only
  split
  next h => exact h
  next => exact (zoneLaw_inAlarm z).handOver _ ((zoneLaw_inAlarm z).record _ _ _ _ (hset _ rfl))

theorem toAlarm_inAlarm {zs : List ZoneId} {z : ZoneId} (hz : z ∈ zs) (s : State) : InAlarm z (toAlarm handOver zs s) := by
  induction zs generalizing s with
  | nil => cases hz
  | cons y zs ih =>
    rcases List.mem_cons.mp hz with rfl | hz
    · exact (zoneLaw_inAlarm _).toAlarm zs (enterAlarm_inAlarm _ s)
    · exact ih hz _

theorem endInvestigation_inAlarm {s : State} {z : ZoneId} (h : (zoneAt s z).state = .investigating) :
    InAlarm z (endInvestigation handOver s) := toAlarm_inAlarm (mem_zonesIn.mpr h) s

/-- R117: once a condition is lost, no zone is left INVESTIGATING. -/
theorem endInvestigation_calm {s : State} (h : NoDelay s) (z : ZoneId) : Calm z (endInvestigation handOver s) := by
  by_cases hz : (zoneAt s z).state = .investigating
  · have halarm : (zoneAt (endInvestigation handOver s) z).state = .alarm := endInvestigation_inAlarm hz
    exact ⟨zoneLaw_noDelay.endInvestigation h, fun hi => nomatch halarm.symm.trans hi⟩
  · exact (zoneLaw_calm z).endInvestigation ⟨h, hz⟩

end Sys2Proof.Machine
end


section
/-! Every step keeps the law of the investigations, and where one begins (R110, R113, R117). -/

namespace Sys2Proof.Machine

/-! ### The conditions of a standing investigation -/

/-- A zone investigates only under a row of a kind, while the phase permits delay, staff presence is on and the link is
UP. -/
def Investigates (R : ResponseRow → Prop) (z : ZoneId) (s : State) : Prop :=
  (zoneAt s z).state = .investigating →
    R (rowOf s z) ∧ permitsDelay s.phase.phase = true ∧ s.phase.staff = true ∧ s.monitor.link = .up

theorem investigates_of_not {R : ResponseRow → Prop} {z : ZoneId} {s : State}
    (h : (zoneAt s z).state ≠ .investigating) : Investigates R z s := fun hi => absurd hi h

theorem investigates_updZone {R : ResponseRow → Prop} {y z : ZoneId} {s : State} {f : Zone → Zone}
    (hf : (f (zoneAt s y)).state = .investigating → (zoneAt s y).state = .investigating ∨ y = z →
      (R (rowOf s z) ∧ permitsDelay s.phase.phase = true ∧ s.phase.staff = true ∧ s.monitor.link = .up))
    (h : Investigates R z s) : Investigates R z (updZone y f s) := by
  intro hi
  rcases zoneState_updZone hi with ⟨rfl, hi⟩ | ⟨-, hi⟩
  · exact hf hi (.inr rfl)
  · exact h hi

section
variable {R : ResponseRow → Prop} (hR : ∀ r : ResponseRow, r.delay = 1 → R r) (z : ZoneId)

include hR in
theorem zoneLaw_investigates : ZoneLaw (Investigates R z) where
  congr h hmonitor htables hphase hstaff hi := by
    rw [zoneAt_congr hmonitor] at hi
    simpa only [rowOf, hmonitor, htables, hphase, hstaff] using h hi
  move y f hf h := by
    intro hi
    rcases zoneState_updZone hi with ⟨rfl, hi⟩ | ⟨-, hi⟩
    · rcases hf.investigating hi with hold | ⟨⟨hphase, hstaff, hdelay, hlink, -⟩, -⟩
      · exact h hold
      · exact ⟨hR _ hdelay, hphase, hstaff, hlink⟩
    · exact h hi

theorem changePhase_phase (target : Phase) (s : State) : (changePhase target s).phase =
    ⟨target, s.phase.staff && !noStaffPhase target, s.phase.testValid && !clearsValidity target⟩ := by
  unfold changePhase
  dsimp only
  split <;> simp [noticeIsDue]

theorem changePhase_monitor (target : Phase) (s : State) : (changePhase target s).monitor = s.monitor := by
  unfold changePhase
  dsimp only
  split <;> simp [noticeIsDue]

theorem changePhase_tables (target : Phase) (s : State) : (changePhase target s).tables = s.tables := by
  unfold changePhase
  dsimp only
  split <;> simp [noticeIsDue]

/-- A transition into a phase without delay leaves no zone INVESTIGATING (R117, R121). -/
theorem carryOut_calm {target : Phase} (length : Nat) (s : State) (h : permitsDelay target = false) :
    Calm z (carryOut target length s) := by
  unfold carryOut
  dsimp only
  have hchanged : NoDelay (changePhase target (if s.phase.phase = .maintenance then commitTables s else s)) := by
    refine .inl ?_
    rw [changePhase_phase]
    exact h
  generalize changePhase target (if s.phase.phase = .maintenance then commitTables s else s) = u at hchanged
  have hP := zoneLaw_noDelay.handOverRules u.tables
  have hzones : On u.tables NoDelay
      (if s.phase.phase = .maintenance then (List.finRange 66).foldl zoneTakesTables u else u) :=
    ite_keeps (foldl_keeps (fun _ z hx => hP.zoneTakesTables z hx) _ _ ⟨rfl, hchanged⟩) ⟨rfl, hchanged⟩
  generalize (if s.phase.phase = .maintenance then (List.finRange 66).foldl zoneTakesTables u else u) = v at hzones
  have hworking : NoDelay (if target = .maintenance then v.withWorking v.tables else v) :=
    ite_keeps hzones.2 hzones.2
  generalize (if target = .maintenance then v.withWorking v.tables else v) = w at hworking
  have hcalm : Calm z (if permitsDelay target then w else endInvestigation handOver w) := by
    rw [if_neg (by rw [h]; decide)]
    exact endInvestigation_calm hworking z
  have hfollowed : Calm z (zonesFollowPhase target w) :=
    ite_keeps (P := Calm z) hcalm ((zoneLaw_calm z).closeWindows _ hcalm)
  exact (zoneLaw_calm z).followsAlarm.handled.callsFollowPhase _ target length hfollowed

theorem noStaffPhase_of_permitsDelay {p : Phase} (h : permitsDelay p = true) : noStaffPhase p = false := by
  cases p <;> simp_all [permitsDelay, noStaffPhase]

theorem target_of_maintenance {s : State} {target : Phase} (hphase : s.phase.phase = .maintenance)
    (h : transitionTests s target = none) : target = .dark := by
  have hstage := stage_of_commit hphase h
  cases target <;> simp_all [transitionTests, isTransition]

include hR in
theorem investigates_carryOut {s : State} {target : Phase} (length : Nat) (htests : transitionTests s target = none)
    (h : Investigates R z s) : Investigates R z (carryOut target length s) := by
  cases hdelay : permitsDelay target with
  | false => exact investigates_of_not (carryOut_calm z length s hdelay).2
  | true =>
    have hold : s.phase.phase ≠ .maintenance := fun hold => by
      rw [target_of_maintenance hold htests] at hdelay
      cases hdelay
    refine carryOut_keeps_law (zoneLaw_investigates hR z).followsAlarm.held (zoneLaw_investigates hR z).handOverRules fun hi => ?_
    rw [if_neg hold] at hi ⊢
    rw [zoneAt_congr (changePhase_monitor target s)] at hi
    obtain ⟨hrow, -, hstaff, hlink⟩ := h hi
    refine ⟨?_, ?_, ?_, ?_⟩
    · rwa [rowOf, changePhase_tables]
    · rwa [changePhase_phase]
    · rw [changePhase_phase]
      simp [hstaff, noStaffPhase_of_permitsDelay hdelay]
    · rwa [changePhase_monitor]

include hR in
theorem investigates_panelBeat {s : State} (h : Investigates R z s) : Investigates R z (panelBeat s) := by
  unfold panelBeat
  dsimp only
  split
  next => exact h
  next hdown =>
    have hnot : (zoneAt s z).state ≠ .investigating := fun hi => hdown (h hi).2.2.2
    have hZ := zoneLaw_investigates hR z
    exact hZ.handOver false (hZ.record _ _ _ _ (investigates_of_not hnot))

/-- The link is LOST, so no zone can begin to investigate, whatever the hand-over brings. -/
theorem setLink_noDelay (s : State) : NoDelay (setLink .lost s) := by
  have hlost : NoDelay (s.withMonitor { s.monitor with link := .lost }) := .inr (.inr fun h => nomatch h)
  exact zoneLaw_noDelay.handOver false (zoneLaw_noDelay.record _ _ _ _ hlost)

/-- Staff presence taken OFF leaves no zone INVESTIGATING (R117). -/
theorem changeStaff_calm (s : State) : Calm z (changeStaff false s) := by
  have hoff : NoDelay (s.withPhase { s.phase with staff := false }) := .inr (.inl rfl)
  exact endInvestigation_calm (zoneLaw_noDelay.record _ _ _ _ hoff) z

include hR in
theorem lawKept_investigates (c : Instr) : LawKept c (Investigates R z) fun T => On T (Investigates R z) where
  follows := (zoneLaw_investigates hR z).followsAlarm.held
  calls T := callsClosed_toOps ((zoneLaw_investigates hR z).followsAlarm.on T).calls
  rules := (zoneLaw_investigates hR z).handOverRules
  beat h := investigates_panelBeat hR z h
  lost _ := investigates_of_not (endInvestigation_calm (setLink_noDelay _) z).2
  isolate args h := by
    unfold isolateZoneOwner
    split
    · exact h
    · refine (zoneLaw_investigates hR z).record _ _ _ _ fun hi => ?_
      rcases zoneState_updZone hi with ⟨rfl, hi⟩ | ⟨-, hi⟩
      · exact h hi
      · exact h hi
  staff on h := by
    cases on with
    | false => exact investigates_of_not (changeStaff_calm z _).2
    | true =>
      refine (zoneLaw_investigates hR z).record _ _ _ _ fun hi => ?_
      obtain ⟨hrow, hphase, -, hlink⟩ := h hi
      exact ⟨hrow, hphase, rfl, hlink⟩
  carry _ length _ htests h := investigates_carryOut hR z length htests h
  reset _ s _ _ := investigates_of_not (not_investigating_alarmReset s z)
  power _ _ _ _ := investigates_of_not (not_investigating_fresh rfl z)

end

theorem investigationLawKept : Parts.InvestigationLawKept := by
  rintro s t h hstep ⟨z, hz⟩
  have hs : Investigates (fun _ => True) z s := fun hi => ⟨trivial, h ⟨z, hi⟩⟩
  exact (step_keeps (lawKept_investigates (fun _ _ => trivial) z) hs hstep hz).2

/-! ### Where an investigation begins -/

/-- The stage is EVACUATE with a zone in ALARM, and another zone does not investigate. -/
def Evacuating (y z : ZoneId) (s : State) : Prop :=
  s.effects.stage = .evacuate ∧ InAlarm y s ∧ (zoneAt s z).state ≠ .investigating

section
variable {y z : ZoneId}

theorem evacuating_follows : FollowsAlarm (Evacuating y z) where
  congr {s t} h e := by
    obtain ⟨hstage, halarm, hnot⟩ := h
    have hzone (x : ZoneId) : zoneAt t x = zoneAt s x := zoneAt_congr e.monitor x
    exact ⟨e.stage.trans hstage, (congrArg Zone.state (hzone y)).trans halarm, by rwa [hzone]⟩

theorem evacuating_updZone {s : State} {x : ZoneId} {f : Zone → Zone}
    (halarm : (zoneAt s x).state = .alarm → (f (zoneAt s x)).state = .alarm)
    (hnot : (f (zoneAt s x)).state = .investigating → (zoneAt s x).state = .investigating)
    (h : Evacuating y z s) : Evacuating y z (updZone x f s) := by
  refine ⟨h.1, inAlarm_updZone halarm h.2.1, fun hi => ?_⟩
  rcases zoneState_updZone hi with ⟨rfl, hi⟩ | ⟨-, hi⟩
  · exact h.2.2 (hnot hi)
  · exact h.2.2 hi

theorem evacuating_move {s : State} {x : ZoneId} {f : Zone → Zone} (hf : ZoneMove s x (f (zoneAt s x)))
    (h : Evacuating y z s) : Evacuating y z (updZone x f s) :=
  evacuating_updZone hf.alarm (fun hi => (hf.investigating hi).elim id fun hmay => absurd h.1 hmay.1.2.2.2.2) h

theorem evacuating_rules (T : Tables) : AlarmRules T (On T (Evacuating y z)) (On T (Evacuating y z)) := by
  have hfollows : FollowsAlarm (On T (Evacuating y z)) :=
    ⟨fun h e => ⟨e.tables.trans h.1, evacuating_follows.congr h.2 e⟩⟩
  refine hfollows.rules (fun h => h.1) hfollows (fun _ h => h) (fun {s} h => ?_)
    (fun h => ⟨h.1, h.2⟩) id
    (fun _ _ hf _ _ h => ⟨h.1, evacuating_move hf h.2⟩) (fun _ _ hf h => ⟨h.1, evacuating_move hf h.2⟩) (fun _ h => h)
  exact ⟨h.1, (stageOf_eq_evacuate_iff _ _).mpr ⟨y, h.2.2.1⟩, h.2.2⟩

theorem indifferent_evacuating : Indifferent (Evacuating y z) fun T => On T (Evacuating y z) where
  phase _ h := h
  heartbeat _ h := h
  link _ h := h
  window _ _ h := evacuating_updZone id id h
  commit hstage _ h := absurd h.1 hstage

theorem lawKept_evacuating {c : Instr} (hreset : c ≠ .alarmReset) (hpower : ¬PowersOn c) :
    LawKept c (Evacuating y z) fun T => On T (Evacuating y z) :=
  indifferent_evacuating.lawKept evacuating_follows (fun T => (evacuating_rules T).toHandOver) (fun hc => absurd hc hreset)
    (fun hc => absurd hc hpower)

end

/-- ALARM-RESET, answered or not, begins no investigation. -/
theorem alarmReset_begins_none {s t : State} {z : ZoneId} (h : exec .alarmReset s = .next t)
    (hz : (zoneAt s z).state ≠ .investigating) : (zoneAt t z).state ≠ .investigating := by
  have hclosed : PlainClosed fun u => (zoneAt u z).state ≠ .investigating :=
    (FollowsAlarm.mk fun h e => by rw [zoneAt_congr e.monitor]; exact h).plain
  obtain rfl := Host.Outcome.next.inj h
  refine hclosed.handle (fun {u} hu => by rwa [zoneAt_congr (endAct_monitor u)]) 12 (fun args u hu => ?_) hz
  unfold alarmResetOwner
  split
  · exact hu
  · exact not_investigating_alarmReset u z

/-- Staff presence is off, and a zone does not investigate. -/
def Unstaffed (z : ZoneId) (s : State) : Prop := s.phase.staff = false ∧ (zoneAt s z).state ≠ .investigating

theorem zoneLaw_unstaffed (z : ZoneId) : ZoneLaw (Unstaffed z) where
  congr h hmonitor _ _ hstaff := ⟨hstaff.trans h.1, by rw [zoneAt_congr hmonitor]; exact h.2⟩
  move y f hf h := by
    refine ⟨h.1, fun hi => ?_⟩
    rcases zoneState_updZone hi with ⟨rfl, hi⟩ | ⟨-, hi⟩
    · exact (hf.investigating hi).elim h.2 (not_mayInvestigate (.inr (.inl h.1)) z)
    · exact h.2 hi

/-- The lines taken as the tables take force begin no investigation: staff presence is off. -/
theorem powerOnSequence_begins_none (cause : ResetCause) (s : State) (z : ZoneId) :
    (zoneAt (powerOnSequence cause s) z).state ≠ .investigating := by
  have hZ := zoneLaw_unstaffed z
  have hfresh : Unstaffed z (resetBlocks cause s.pending { s.lines with reset := false } (abandonWrite s.store)) :=
    ⟨rfl, not_investigating_fresh rfl z⟩
  have hP := hZ.handOverRules (resetBlocks cause s.pending { s.lines with reset := false } (abandonWrite s.store)).tables
  refine (takeLines_keeps (hP.toCommand (hZ.follows _).plain (callsClosed_toOps (hZ.follows _).calls) (fun h => ?_) (fun h => ?_) (fun args h => ?_))
    ⟨rfl, hfresh⟩).2.2
  · exact ite_keeps h (hP.setLink (fun _ h => h) .up h)
  · exact hP.endInvestigation (hP.setLink (fun _ h => h) .lost h)
  · unfold isolateZoneOwner
    split
    · exact h
    · refine hP.record _ _ _ _ ⟨h.1, h.2.1, fun hi => ?_⟩
      rcases zoneState_updZone hi with ⟨rfl, hi⟩ | ⟨-, hi⟩
      · exact h.2.2 hi
      · exact h.2.2 hi

theorem powersOn_begins_none {c : Instr} {s t : State} {z : ZoneId} (hc : PowersOn c) (h : exec c s = .next t)
    (hz : (zoneAt s z).state ≠ .investigating) : (zoneAt t z).state ≠ .investigating := by
  rcases hc with rfl | rfl
  · exact Host.Outcome.next.inj h ▸ powerOnSequence_begins_none _ s z
  · simp only [exec, execRestartPowerOnSequence] at h
    split at h
    · exact Host.Outcome.next.inj h ▸ powerOnSequence_begins_none _ s z
    · exact Host.Outcome.next.inj h ▸ hz

theorem investigationBegins : Parts.InvestigationBegins := by
  intro c s t z hlaw hexec hs ht
  obtain ⟨hrow, hphase, hstaff, hlink⟩ :=
    kept_of_lawKept (lawKept_investigates (fun _ h => h) z c) (investigates_of_not hs) hexec ht
  refine ⟨fun hstage => ?_, hrow, hphase, hstaff, hlink⟩
  obtain ⟨y, hy⟩ := alarm_of_stage hlaw hstage
  by_cases hreset : c = .alarmReset
  · exact alarmReset_begins_none (hreset ▸ hexec) hs ht
  · by_cases hpower : PowersOn c
    · exact powersOn_begins_none hpower hexec hs ht
    · exact (kept_of_lawKept (lawKept_evacuating hreset hpower) ⟨hstage, hy, hs⟩ hexec).2.2 ht

/-- Settles O31, by what one change of a zone record keeps, carried through every hand-over and command. -/
theorem zoneRecordLawsKept : Obligations.ZoneRecordLawsKept :=
  ⟨mapLawKept, oneInvestigatesKept, investigationLawKept, investigationBegins⟩

end Sys2Proof.Machine
end


section
/-! Every step keeps the law of the isolation windows (R118, R119, R121, R131). -/

namespace Sys2Proof.Machine

/-! ### How many windows are open -/

theorem toList_eq_map {α : Type} {n : Nat} (v : Vector α n) : v.toList = (List.finRange n).map (v[·]) :=
  List.ext_getElem (by simp) (by simp)

theorem openWindows_eq (zones : Vector Zone 66) :
    openWindows zones = (List.finRange 66).countP fun z => zones[z].window.isSome := by
  rw [openWindows, toList_eq_map, List.countP_map]
  rfl

theorem openWindows_mono {old new : Vector Zone 66}
    (h : ∀ z : ZoneId, new[z].window.isSome = true → old[z].window.isSome = true) : openWindows new ≤ openWindows old := by
  rw [openWindows_eq, openWindows_eq]
  exact List.countP_mono_left fun z _ => h z

theorem countP_le_add_one {α : Type} [DecidableEq α] {p q : α → Bool} {x : α} {l : List α} (hl : l.Nodup)
    (h : ∀ y ∈ l, y ≠ x → q y = true → p y = true) : l.countP q ≤ l.countP p + 1 := by
  induction l with
  | nil => exact Nat.zero_le _
  | cons y l ih =>
    obtain ⟨hy, hl⟩ := List.nodup_cons.mp hl
    by_cases hyx : y = x
    · subst hyx
      have hrest : l.countP q ≤ l.countP p :=
        List.countP_mono_left fun z hz => h z (List.mem_cons_of_mem _ hz) fun hzy => hy (hzy ▸ hz)
      have hq : (y :: l).countP q ≤ l.countP q + 1 := by
        rw [List.countP_cons]
        split <;> omega
      have hp : l.countP p ≤ (y :: l).countP p := (List.sublist_cons_self y l).countP_le
      omega
    · have hrest := ih hl fun z hz => h z (List.mem_cons_of_mem _ hz)
      have himp := h y List.mem_cons_self hyx
      rw [List.countP_cons, List.countP_cons]
      split
      next hq => rw [if_pos (himp hq)]; omega
      next => omega

/-- Opening one window opens at most one more. -/
theorem openWindows_le_add_one {old new : Vector Zone 66} (z : ZoneId)
    (h : ∀ y : ZoneId, y ≠ z → new[y].window.isSome = true → old[y].window.isSome = true) :
    openWindows new ≤ openWindows old + 1 := by
  rw [openWindows_eq, openWindows_eq]
  exact countP_le_add_one (List.nodup_finRange 66) fun y _ hy => h y hy

/-! ### The windows by themselves -/

/-- R118: at most four windows are open, each under a STAGE row with isolation allowed in a phase that permits it. -/
def WindowsBounded (s : State) : Prop :=
  openWindows s.monitor.zones ≤ 4 ∧ ∀ z : ZoneId, (zoneAt s z).window.isSome = true →
    (rowOf s z).cls = 1 ∧ (rowOf s z).isolation = 1 ∧ permitsIsolation s.phase.phase = true

/-- No window is open. -/
def NoWindows (s : State) : Prop := ∀ z : ZoneId, (zoneAt s z).window = none

theorem window_updZone {s : State} {y z : ZoneId} {f : Zone → Zone}
    (hf : (f (zoneAt s z)).window = (zoneAt s z).window ∨ (f (zoneAt s z)).window = none)
    (h : (zoneAt (updZone z f s) y).window.isSome = true) : (zoneAt s y).window.isSome = true := by
  by_cases hy : y = z
  · subst hy
    rw [zoneAt_updZone_same] at h
    rcases hf with hf | hf
    · rwa [hf] at h
    · rw [hf] at h
      cases h
  · rwa [zoneAt_updZone_other _ _ hy] at h

theorem noWindows_iff {s : State} : NoWindows s ↔ ∀ z : ZoneId, (zoneAt s z).window.isSome = false :=
  forall_congr' fun _ => Option.isSome_eq_false_iff.trans Option.isNone_iff_eq_none |>.symm

theorem zoneLaw_bounded : ZoneLaw WindowsBounded where
  congr h hmonitor htables hphase _ := by
    simpa only [WindowsBounded, zoneAt, rowOf, hmonitor, htables, hphase] using h
  move _ _ hf h :=
    ⟨(openWindows_mono fun _ hy => window_updZone hf.window hy).trans h.1, fun y hy => h.2 y (window_updZone hf.window hy)⟩

theorem noWindows_updZone {s : State} {z : ZoneId} {f : Zone → Zone}
    (hf : (f (zoneAt s z)).window = (zoneAt s z).window ∨ (f (zoneAt s z)).window = none) (h : NoWindows s) :
    NoWindows (updZone z f s) := by
  rw [noWindows_iff] at h ⊢
  exact fun y => Bool.eq_false_iff.mpr fun hy => absurd (window_updZone (y := y) hf hy) (by simp [h y])

theorem zoneLaw_noWindows : ZoneLaw NoWindows where
  congr h hmonitor _ _ _ z := by rw [zoneAt_congr hmonitor, h z]
  move _ _ hf h := noWindows_updZone hf.window h

/-- One zone has no open window. -/
def Shut (z : ZoneId) (s : State) : Prop := (zoneAt s z).window = none

theorem zoneLaw_shut (z : ZoneId) : ZoneLaw (Shut z) where
  congr h hmonitor _ _ _ := (congrArg Zone.window (zoneAt_congr hmonitor z)).trans h
  move y _ hf h := by
    refine Option.not_isSome_iff_eq_none.mp fun hy => ?_
    rw [Option.isSome_iff_ne_none] at hy
    exact absurd h (Option.isSome_iff_ne_none.mp (window_updZone hf.window (Option.isSome_iff_ne_none.mpr hy)))

section
variable {ho : HandOver} (hho : ∀ z, MonitorClosed ho (Shut z) (Shut z))
include hho

/-- A closed window is shut, whatever its replay brings. -/
theorem closeWindow_shut (cause : CloseCause) (z : ZoneId) (s : State) : Shut z (closeWindow ho cause s z) := by
  unfold closeWindow
  dsimp only
  split
  next hnone => exact Option.isNone_iff_eq_none.mp hnone
  next =>
    refine foldl_keeps (fun _ n h => (hho z).replayDevice z n h) _ _ ((zoneLaw_shut z).record _ _ _ _ ?_)
    exact congrArg Zone.window (zoneAt_updZone_same z _ s)

theorem closeWindows_noWindows (cause : CloseCause) (s : State) : NoWindows (closeWindows ho cause s) := by
  intro z
  have hfold (l : List ZoneId) : ∀ s, (z ∈ l ∨ Shut z s) → Shut z (l.foldl (closeWindow ho cause) s) := by
    induction l with
    | nil => exact fun _ h => h.resolve_left (by simp)
    | cons y l ih =>
      refine fun s h => ih _ ?_
      by_cases hy : z = y
      · exact .inr (hy ▸ closeWindow_shut hho cause y s)
      · exact h.imp (fun hm => (List.mem_cons.mp hm).resolve_left hy) fun hs => (hho z).closeWindow cause y hs
  exact hfold _ s (.inl (List.mem_finRange z))

end

/-- A property without regard to the tables keeps its rules. -/
theorem ZoneLaw.monitorInRise {Z : State → Prop} (hZ : ZoneLaw Z) : MonitorClosed Machine.handOverInRise Z Z where
  record k a b c h := hZ.record k a b c h
  unsettled h := h
  unsettledRecord k a b c h := hZ.record k a b c h
  still z f hf _ _ h := hZ.move z f hf h
  move z f hf h := hZ.move z f hf h
  handed b s _ h := ((hZ.rules s.tables).handOverInRise b ⟨rfl, h⟩).2

theorem ZoneLaw.monitor {Z : State → Prop} (hZ : ZoneLaw Z) : MonitorClosed Machine.handOver Z Z where
  record k a b c h := hZ.record k a b c h
  unsettled h := h
  unsettledRecord k a b c h := hZ.record k a b c h
  still z f hf _ _ h := hZ.move z f hf h
  move z f hf h := hZ.move z f hf h
  handed b _ _ h := hZ.handOver b h

theorem riseToEvacuate_noWindows (s : State) : NoWindows (riseToEvacuate s) :=
  closeWindows_noWindows (fun z => (zoneLaw_shut z).monitorInRise) _ _

/-! ### The windows and the stage -/

/-- No window is open while the stage is EVACUATE. -/
def ShutInAlarm (s : State) : Prop := s.effects.stage = .evacuate → NoWindows s

theorem windowsLaw_iff (s : State) : WindowsLaw s ↔ WindowsBounded s ∧ ShutInAlarm s := by
  constructor
  · rintro ⟨hfew, hopen⟩
    refine ⟨⟨hfew, fun z hz => ⟨(hopen z hz).1, (hopen z hz).2.1, (hopen z hz).2.2.1⟩⟩, fun hstage => noWindows_iff.mpr ?_⟩
    exact fun z => by simpa using fun hz => (hopen z (Option.isSome_iff_ne_none.mpr hz)).2.2.2 hstage
  · rintro ⟨⟨hfew, hopen⟩, hshut⟩
    refine ⟨hfew, fun z hz => ?_⟩
    obtain ⟨hcls, hisolation, hphase⟩ := hopen z hz
    exact ⟨hcls, hisolation, hphase, fun hstage => by simp [hshut hstage z] at hz⟩

/-- Where the stage does not become EVACUATE, it is recomputed without consequences. -/
theorem recomputeStage_eq_id (rise : State → State) {s : State}
    (h : stageOf s.monitor.zones s.monitor.link ≠ .evacuate) : recomputeStage rise s = recomputeStage id s := by
  unfold recomputeStage
  dsimp only
  rw [if_neg h, if_neg h]

theorem onlyTouches_withEffects (s : State) (x : EffectState) : OnlyTouches [.effects] s (s.withEffects x) := by
  intro b hb
  cases b with
  | effects => exact absurd (List.mem_singleton_self _) hb
  | _ => rfl

/-- The stage recomputed for an empty effect set. -/
def calmStage (s : State) : State := recomputeStage id (s.withEffects { s.effects with set := emptyEffects })

theorem calmStage_onlyTouches (s : State) : OnlyTouches [.effects, .links, .log] s (calmStage s) :=
  onlyTouches_trans (onlyTouches_mono (by decide) (onlyTouches_withEffects s _)) (recomputeStage_onlyTouches _)

theorem calmStage_set (s : State) : (calmStage s).effects.set = emptyEffects := recomputeStage_set _

/-- Where no zone is in ALARM, a hand-over recomputes the stage and asks the calls, and nothing else. -/
theorem handOverWith_of_noAlarm (rise curtain : State → State) (entered : Bool) {s : State}
    (h : ∀ z : ZoneId, (zoneAt s z).state ≠ .alarm) :
    handOverWith rise curtain entered s = followInvestigation entered
      (if emptyEffects = s.effects.set then calmStage s else askEvacuation (calmStage s)) := by
  have hset : currentSet s = emptyEffects := effectSetOf_of_noAlarm h
  have hstage : stageOf s.monitor.zones s.monitor.link ≠ .evacuate := fun hst =>
    have ⟨z, hz⟩ := (stageOf_eq_evacuate_iff _ _).mp hst
    h z hz
  have hrecomputed : recomputeStage rise (s.withEffects { s.effects with set := emptyEffects }) = calmStage s :=
    recomputeStage_eq_id rise hstage
  unfold handOverWith
  dsimp only
  rw [hset, hrecomputed]
  unfold deliver
  dsimp only
  rw [calmStage_set, if_neg (show ¬ emptyEffects.curtain = true by decide), calmStage_set]
  rfl

/-- Where no zone is in ALARM, a hand-over changes no zone. -/
theorem handOverWith_monitor_of_noAlarm {rise curtain : State → State} (entered : Bool) {s : State}
    (h : ∀ z : ZoneId, (zoneAt s z).state ≠ .alarm) : (handOverWith rise curtain entered s).monitor = s.monitor := by
  have hP := callsClosed_monitor s.monitor
  have hstage : (calmStage s).monitor = s.monitor := calmStage_onlyTouches s .monitor (by decide)
  rw [handOverWith_of_noAlarm rise curtain entered h]
  exact followInvestigation_of_callsClosed hP entered
    (ite_keeps (P := fun t => t.monitor = s.monitor) hstage (askEvacuation_keeps hP hstage))

/-- A hand-over in which the stage becomes EVACUATE closes every window (R131). -/
theorem handOver_noWindows_of_rise (b : Bool) {s : State} (hnew : stageOf s.monitor.zones s.monitor.link = .evacuate)
    (hold : s.effects.stage ≠ .evacuate) : NoWindows (handOver b s) := by
  have hP := zoneLaw_noWindows.handOverRules
    (recomputeStage riseToEvacuate (s.withEffects { s.effects with set := currentSet s })).tables
  have hrise : NoWindows (recomputeStage riseToEvacuate (s.withEffects { s.effects with set := currentSet s })) := by
    unfold recomputeStage
    dsimp only [withEffects_monitor]
    rw [if_neg (fun he => hold (he.symm.trans hnew)), if_pos hnew]
    exact riseToEvacuate_noWindows _
  have hrules := zoneLaw_noWindows.rules
    (recomputeStage riseToEvacuate (s.withEffects { s.effects with set := currentSet s })).tables
  have hdelivered := hrules.deliver hrules.deliverCurtain s.effects.set ⟨rfl, hrise⟩
  exact (hP.followInvestigation b
    (ite_keeps (c := currentSet s = s.effects.set) ⟨rfl, hrise⟩ hdelivered)).2

theorem handOver_shutInAlarm (b : Bool) {s : State} (h : ShutInAlarm s) : ShutInAlarm (handOver b s) := by
  intro hstage
  by_cases hold : s.effects.stage = .evacuate
  · exact zoneLaw_noWindows.handOver b (h hold)
  · by_cases halarm : ∃ z : ZoneId, (zoneAt s z).state = .alarm
    · exact handOver_noWindows_of_rise b ((stageOf_eq_evacuate_iff _ _).mpr halarm) hold
    · have hnone : ∀ z : ZoneId, (zoneAt s z).state ≠ .alarm := fun z hz => halarm ⟨z, hz⟩
      have hsame : (handOver b s).monitor = s.monitor := handOverWith_monitor_of_noAlarm b hnone
      obtain ⟨z, hz⟩ := alarm_of_stage (handOver_alarmLaw b s) hstage
      exact absurd ((congrArg Zone.state (zoneAt_congr hsame z)).symm.trans hz) (hnone z)

/-- What holds of the windows, beside the law of the effect set and the stage. -/
def WindowsLawful (s : State) : Prop := AlarmLaw s ∧ WindowsBounded s ∧ ShutInAlarm s

/-- What holds of the windows between a change of a zone and its hand-over. -/
def WindowsUnsettled (T : Tables) (s : State) : Prop := s.tables = T ∧ WindowsBounded s ∧ ShutInAlarm s

theorem follows_shutInAlarm : FollowsAlarm ShutInAlarm where
  congr h e hstage := zoneLaw_noWindows.congr (h (e.stage.symm.trans hstage)) e.monitor e.tables e.phase e.staff

theorem follows_windows : FollowsAlarm WindowsLawful where
  congr h e := ⟨alarmLaw_follows.congr h.1 e, zoneLaw_bounded.followsAlarm.congr h.2.1 e, follows_shutInAlarm.congr h.2.2 e⟩

theorem shutInAlarm_move {s : State} {z : ZoneId} {f : Zone → Zone} (hf : ZoneMove s z (f (zoneAt s z)))
    (h : ShutInAlarm s) : ShutInAlarm (updZone z f s) := fun hstage => noWindows_updZone hf.window (h hstage)

theorem windows_rules (T : Tables) : HandOverRules T (On T WindowsLawful) (WindowsUnsettled T) := by
  have hfollows := follows_windows.on T
  exact { hfollows.governor (fun h => h.1), hfollows.handled with
    mark := fun _ h => hfollows.congr h ⟨rfl, rfl, rfl, rfl, rfl, rfl, rfl⟩
    unsettled := fun h => ⟨h.1, h.2.2⟩
    unsettledRecord := fun k a b c h => ⟨(writeRecord_tables _ _ _ _ _).trans h.1, zoneLaw_bounded.record k a b c h.2.1,
      follows_shutInAlarm.congr h.2.2 (sameAlarm_record k a b c _)⟩
    still := fun z f hf hstate hfaulty h =>
      ⟨h.1, alarmLaw_updZone hstate hfaulty h.2.1, zoneLaw_bounded.move z f hf h.2.2.1, shutInAlarm_move hf h.2.2.2⟩
    move := fun z f hf h => ⟨h.1, zoneLaw_bounded.move z f hf h.2.1, shutInAlarm_move hf h.2.2⟩
    handed := fun b s _ h => ⟨((alarmLaw_rules T).handOver b h.1).1, handOver_alarmLaw b s,
      zoneLaw_bounded.handOver b h.2.1, handOver_shutInAlarm b h.2.2⟩ }

theorem windowsLawful_of_none {s : State} (hlaw : AlarmLaw s) (h : NoWindows s) : WindowsLawful s := by
  refine ⟨hlaw, ⟨?_, fun z hz => by simp [h z] at hz⟩, fun _ => h⟩
  have hzero : openWindows s.monitor.zones = 0 := by
    rw [openWindows_eq, List.countP_eq_zero]
    exact fun z _ => Option.not_isSome_iff_eq_none.mpr (h z)
  omega

theorem noWindows_fresh {s : State} (hzones : s.monitor.zones = Vector.replicate 66 freshZone) : NoWindows s :=
  fun z => congrArg Zone.window (zoneAt_fresh hzones z)

/-! ### The commands of the windows -/

theorem isolateTests_ok {s : State} {b : Byte} {z : ZoneId} (h : isolateTests s b = .ok z) :
    (rowOf s z).cls = 1 ∧ (rowOf s z).isolation = 1 ∧ permitsIsolation s.phase.phase = true
      ∧ s.effects.stage ≠ .evacuate ∧ ((zoneAt s z).window = none → openWindows s.monitor.zones < 4) := by
  unfold isolateTests at h
  split at h
  next => cases h
  next y _ =>
    split at h
    next => cases h
    next =>
      split at h
      next => cases h
      next hrow =>
        split at h
        next => cases h
        next hphase =>
          split at h
          next => cases h
          next hstage =>
            split at h
            next => cases h
            next =>
              split at h
              next => cases h
              next hroom =>
                obtain rfl := Except.ok.inj h
                simp only [Bool.not_eq_true', Bool.and_eq_false_iff, decide_eq_false_iff_not, not_or, not_not] at hrow
                refine ⟨hrow.1, hrow.2, by simpa using hphase, hstage, fun hnone => ?_⟩
                simpa [hnone] using hroom

/-- A window opened or renewed where the tests of R118 allow it keeps the law. -/
theorem windowsLawful_opened {s : State} {z : ZoneId} (f : Zone → Zone)
    (hstate : (f (zoneAt s z)).state = (zoneAt s z).state) (hfaulty : (f (zoneAt s z)).faulty = (zoneAt s z).faulty)
    (hmay : (rowOf s z).cls = 1 ∧ (rowOf s z).isolation = 1 ∧ permitsIsolation s.phase.phase = true)
    (hstage : s.effects.stage ≠ .evacuate)
    (hroom : (zoneAt s z).window = none → openWindows s.monitor.zones < 4) (h : WindowsLawful s) :
    WindowsLawful (updZone z f s) := by
  obtain ⟨hlaw, ⟨hfew, hopen⟩, -⟩ := h
  have hother (y : ZoneId) (hy : y ≠ z) (hw : (zoneAt (updZone z f s) y).window.isSome = true) :
      (zoneAt s y).window.isSome = true := by rwa [zoneAt_updZone_other f s hy] at hw
  refine ⟨alarmLaw_updZone hstate hfaulty hlaw, ⟨?_, fun y hy => ?_⟩, fun hst => absurd hst hstage⟩
  · by_cases hnone : (zoneAt s z).window = none
    · exact (openWindows_le_add_one (new := (updZone z f s).monitor.zones) z hother).trans (hroom hnone)
    · refine (openWindows_mono (new := (updZone z f s).monitor.zones) fun y hw => ?_).trans hfew
      by_cases hy : y = z
      · exact hy ▸ Option.isSome_iff_ne_none.mpr hnone
      · exact hother y hy hw
  · by_cases hyz : y = z
    · exact hyz ▸ hmay
    · exact hopen y (hother y hyz hy)

theorem isolateZoneOwner_windows {s : State} (args : List Byte) (h : WindowsLawful s) :
    WindowsLawful (isolateZoneOwner args s).1 := by
  unfold isolateZoneOwner
  split
  next => exact h
  next z hz =>
    obtain ⟨hcls, hisolation, hphase, hstage, hroom⟩ := isolateTests_ok hz
    exact follows_windows.calls.record _ _ _ _ (windowsLawful_opened _ rfl rfl ⟨hcls, hisolation, hphase⟩ hstage hroom h)

/-- A transition into a phase without isolation closes every window (R121). -/
theorem carryOut_noWindows {target : Phase} (length : Nat) (s : State) (h : permitsIsolation target = false) :
    NoWindows (carryOut target length s) := by
  unfold carryOut
  dsimp only
  refine zoneLaw_noWindows.followsAlarm.handled.callsFollowPhase _ target length ?_
  unfold zonesFollowPhase
  dsimp only
  rw [h]
  exact closeWindows_noWindows (fun z => (zoneLaw_shut z).monitor) _ _

theorem changePhase_effects (target : Phase) (s : State) :
    (changePhase target s).effects = { s.effects with noticeDue := true } := by
  unfold changePhase
  dsimp only
  split <;> simp [noticeIsDue]

theorem carryOut_windows {s : State} {target : Phase} (length : Nat) (hnew : target ≠ s.phase.phase)
    (htests : transitionTests s target = none) (h : WindowsLawful s) : WindowsLawful (carryOut target length s) := by
  cases hpermits : permitsIsolation target with
  | false =>
    exact windowsLawful_of_none ((lawKept_alarmLaw .setPhase).carry target length hnew htests h.1)
      (carryOut_noWindows length s hpermits)
  | true =>
    have hold : s.phase.phase ≠ .maintenance := fun hold => by
      rw [target_of_maintenance hold htests] at hpermits
      cases hpermits
    refine carryOut_keeps_law follows_windows.held windows_rules ?_
    rw [if_neg hold]
    obtain ⟨hlaw, ⟨hfew, hopen⟩, hshut⟩ := h
    have hzone (z : ZoneId) : zoneAt (changePhase target s) z = zoneAt s z := zoneAt_congr (changePhase_monitor target s) z
    refine ⟨?_, ⟨?_, fun z hz => ?_⟩, fun hstage z => ?_⟩
    · exact alarmLaw_congr (changePhase_tables _ _) (changePhase_monitor _ _) (by rw [changePhase_effects])
        (by rw [changePhase_effects]) hlaw
    · rwa [changePhase_monitor]
    · rw [hzone] at hz
      obtain ⟨hcls, hisolation, -⟩ := hopen z hz
      rw [rowOf, changePhase_tables, changePhase_phase]
      exact ⟨hcls, hisolation, hpermits⟩
    · rw [changePhase_effects] at hstage
      rw [hzone]
      exact hshut hstage z

theorem quietedZone_window (r : Zone) : (quietedZone r).window = r.window := by
  unfold quietedZone
  split <;> rfl

theorem alarmReset_windows {s : State} (h : WindowsLawful s) : WindowsLawful (alarmReset s) := by
  obtain ⟨-, ⟨hfew, hopen⟩, -⟩ := h
  have hwindow (z : ZoneId) : (zoneAt (alarmReset s) z).window = (zoneAt s z).window := by
    rw [zoneAt_alarmReset, quietedZone_window]
  refine ⟨alarmLaw_alarmReset s, ⟨?_, fun z hz => ?_⟩, fun hstage => ?_⟩
  · refine (openWindows_mono fun z hz => ?_).trans hfew
    exact (congrArg Option.isSome (hwindow z)).symm.trans hz
  · rw [hwindow] at hz
    obtain ⟨hcls, hisolation, hphase⟩ := hopen z hz
    refine ⟨?_, ?_, ?_⟩
    · rwa [rowOf, (moveClosed_tables s.tables).toReach.alarmReset rfl]
    · rwa [rowOf, (moveClosed_tables s.tables).toReach.alarmReset rfl]
    · rwa [alarmReset_phase]
  · obtain ⟨z, hz⟩ := alarm_of_stage (alarmLaw_alarmReset s) hstage
    exact absurd hz (by rw [zoneAt_alarmReset, quietedZone_state]; decide)

theorem lawKept_windows (c : Instr) : LawKept c WindowsLawful WindowsUnsettled where
  follows := follows_windows.held
  calls T := callsClosed_toOps (follows_windows.on T).calls
  rules := windows_rules
  beat {s} h := by
    have hbeat : On s.tables WindowsLawful
        (s.withMonitor { s.monitor with heartbeat := afterS s s.tables.link.heartbeat.toNat }) := ⟨rfl, h⟩
    exact (ite_keeps hbeat ((windows_rules s.tables).setLink (fun _ h => h) .up hbeat)).2
  lost {s} h := by
    have hstopped : On s.tables WindowsLawful (s.withMonitor { s.monitor with heartbeat := none }) := ⟨rfl, h⟩
    exact ((windows_rules s.tables).endInvestigation ((windows_rules s.tables).setLink (fun _ h => h) .lost hstopped)).2
  isolate args h := isolateZoneOwner_windows args h
  staff {s} on h := by
    have hset : On s.tables WindowsLawful
        (writeRecord .staffPresence 0 (boolByte on) 0 (s.withPhase { s.phase with staff := on })) :=
      (windows_rules s.tables).record _ _ _ _ ⟨rfl, h⟩
    exact (ite_keeps hset ((windows_rules s.tables).endInvestigation hset)).2
  carry _ length hnew htests h := carryOut_windows length hnew htests h
  reset _ _ _ h := alarmReset_windows h
  power _ _ _ _ := windowsLawful_of_none (alarmLaw_of_fresh rfl rfl rfl rfl) (noWindows_fresh rfl)

theorem windowsLawKept : Parts.WindowsLawKept := fun s t hlaw h hstep =>
  (windowsLaw_iff t).mpr (step_keeps lawKept_windows ⟨hlaw, (windowsLaw_iff s).mp h⟩ hstep).2

end Sys2Proof.Machine
end


section
/-! Every step keeps ALARM in the drop-demand set exactly while the curtain flag is set (R78, R132, R136). -/

namespace Sys2Proof.Machine

/-! ### The curtain flag of the effect set -/

/-- A zone in ALARM has a row that drops the curtain. -/
def CurtainCalled (s : State) : Prop := ∃ z : ZoneId, InAlarm z s ∧ s.tables.response[z].curtainDrop = 1

theorem foldl_addRow_curtain (rows : Vector ResponseRow 66) (zs : List ZoneId) (e : EffectSet) :
    (zs.foldl (fun e z => addRow e rows[z]) e).curtain = true ↔
      e.curtain = true ∨ ∃ z ∈ zs, rows[z].curtainDrop = 1 := by
  induction zs generalizing e with
  | nil => simp
  | cons z zs ih =>
    have hadded : (addRow e rows[z]).curtain = true ↔ e.curtain = true ∨ rows[z].curtainDrop = 1 := by simp [addRow]
    rw [List.foldl_cons, ih, hadded, List.exists_mem_cons_iff, or_assoc]

theorem currentSet_curtain_iff (s : State) : (currentSet s).curtain = true ↔ CurtainCalled s := by
  rw [currentSet, effectSetOf, foldl_addRow_curtain]
  constructor
  · rintro (h | ⟨z, hz, hrow⟩)
    · cases h
    · exact ⟨z, mem_zonesIn.mp hz, hrow⟩
  · rintro ⟨z, hz, hrow⟩
    exact .inr ⟨z, mem_zonesIn.mpr hz, hrow⟩

theorem set_curtain_iff {s : State} (h : AlarmLaw s) : s.effects.set.curtain = true ↔ CurtainCalled s := by
  rw [h.1]
  exact currentSet_curtain_iff s

theorem inAlarm_of_move {s : State} {x z : ZoneId} {f : Zone → Zone} (hf : ZoneMove s z (f (zoneAt s z)))
    (h : InAlarm x s) : InAlarm x (updZone z f s) := (zoneLaw_inAlarm x).move z f hf h

theorem zoneLaw_called : ZoneLaw CurtainCalled where
  congr h hmonitor htables _ _ :=
    have ⟨z, hz, hrow⟩ := h
    ⟨z, (congrArg Zone.state (zoneAt_congr hmonitor z)).trans hz, by rw [htables]; exact hrow⟩
  move _ _ hf h :=
    have ⟨z, hz, hrow⟩ := h
    ⟨z, inAlarm_of_move hf hz, hrow⟩

/-! ### The demand joined -/

/-- The curtain is called for and ALARM is in the drop-demand set. -/
def Demanded (s : State) : Prop := CurtainCalled s ∧ s.curtain.demands.alarm = true

theorem follows_demanded (T : Tables) : FollowsAlarm (On T Demanded) where
  congr h e := ⟨e.tables.trans h.1, zoneLaw_called.followsAlarm.congr h.2.1 e, e.demand.trans h.2.2⟩

theorem demanded_rules (T : Tables) : AlarmRules T (On T Demanded) (On T Demanded) := by
  have hset {s : State} (x : EffectState) (h : On T Demanded s) : On T Demanded (s.withEffects x) := h
  have hmove {s : State} (z : ZoneId) (f : Zone → Zone) (hf : ZoneMove s z (f (zoneAt s z))) (h : On T Demanded s) :
      On T Demanded (updZone z f s) := ⟨h.1, zoneLaw_called.move z f hf h.2.1, h.2.2⟩
  exact (follows_demanded T).rules (fun h => h.1) (follows_demanded T) (fun _ h => hset _ h) (hset _)
    (fun h => ⟨h.1, h.2.1, rfl⟩) id (fun z f hf _ _ h => hmove z f hf h) hmove (fun _ h => h)

theorem demanded_deliverCurtain {T : Tables} {s : State} (h : On T CurtainCalled s) :
    On T Demanded (deliverCurtain s) := by
  have hD := demanded_rules T
  have hreport (r : CurtainReport) {s : State} (h : On T Demanded s) : On T Demanded (report64 handOverInDelivery r s) :=
    (hD.toMonitor fun b _ h => hD.handOverInDelivery b h).report64 r h
  have hclosed := ((zoneLaw_called.follows T).governor fun h => h.1).closeTest false none h
  have hadded : On T Demanded (addDemand (report64 handOverInDelivery) .alarm (closeTest false none s)) :=
    hD.toGovernorClosed.demandJoins hreport ⟨hclosed.1, hclosed.2, rfl⟩
  unfold deliverCurtain addAlarm
  split
  next hjoined => exact ⟨h.1, h.2, hjoined⟩
  next => exact ite_keeps (hreport _ hadded) hadded

/-! ### The demand and the flag -/

/-- The law of the demand beside that of the effect set and the stage. -/
def DemandLawful (s : State) : Prop := AlarmLaw s ∧ DemandLaw s

/-- What holds of the demand between a change of a zone and its hand-over. -/
def DemandUnsettled (s : State) : Prop := DemandLaw s ∧ (s.effects.set.curtain = true → CurtainCalled s)

theorem follows_demandLawful : FollowsAlarm DemandLawful where
  congr h e := ⟨alarmLaw_follows.congr h.1 e, e.demand.trans (h.2.trans (congrArg EffectSet.curtain e.set.symm))⟩

theorem follows_demandUnsettled : FollowsAlarm DemandUnsettled where
  congr h e := ⟨e.demand.trans (h.1.trans (congrArg EffectSet.curtain e.set.symm)),
    fun hset => zoneLaw_called.followsAlarm.congr (h.2 (e.set ▸ hset)) e⟩

theorem demandUnsettled_of_lawful {s : State} (h : DemandLawful s) : DemandUnsettled s :=
  ⟨h.2, (set_curtain_iff h.1).mp⟩

theorem demandLaw_of_demanded {s : State} (hlaw : AlarmLaw s) (h : Demanded s) : DemandLaw s :=
  h.2.trans ((set_curtain_iff hlaw).mpr h.1).symm

/-- The consequences of a change to EVACUATE keep what is said of the demand. -/
structure RiseKeepsDemand (T : Tables) (rise : State → State) : Prop where
  alarm : ∀ {s}, On T AlarmLaw s → On T AlarmLaw (rise s)
  called : ∀ {s}, On T (fun s => AlarmLaw s ∧ CurtainCalled s) s → On T (fun s => AlarmLaw s ∧ CurtainCalled s) (rise s)
  demanded : ∀ {s}, On T Demanded s → On T Demanded (rise s)
  lawful : ∀ {s}, On T DemandLawful s → On T DemandLawful (rise s)

theorem riseKeepsDemand_id (T : Tables) : RiseKeepsDemand T id := ⟨id, id, id, id⟩

section
variable {T : Tables} {rise : State → State} (hrise : RiseKeepsDemand T rise) {s : State}

theorem deliver_called (old : EffectSet) (hlaw : AlarmLaw s) (h : On T CurtainCalled s) :
    On T Demanded (deliver deliverCurtain old s) := by
  have hD := demanded_rules T
  have hdelivered := demanded_deliverCurtain h
  unfold deliver
  dsimp only
  rw [if_pos ((set_curtain_iff hlaw).mpr h.2)]
  exact hD.askEvacuation (ite_keeps (hD.stream _ hdelivered) hdelivered)

theorem deliver_demandLawful (old : EffectSet) (h : On T DemandLawful s) :
    On T DemandLawful (deliver deliverCurtain old s) := by
  have hA := alarmLaw_rules T
  have hlaw : On T AlarmLaw s := ⟨h.1, h.2.1⟩
  obtain ⟨htables, hdelivered⟩ := hA.deliver (fun h => hA.deliverCurtain h) old hlaw
  by_cases hcalled : CurtainCalled s
  · exact ⟨htables, hdelivered, demandLaw_of_demanded hdelivered (deliver_called old h.2.1 ⟨h.1, hcalled⟩).2⟩
  · have hset : ¬ s.effects.set.curtain = true := fun hset => hcalled ((set_curtain_iff h.2.1).mp hset)
    have hfollows := follows_demandLawful.on T
    unfold deliver
    dsimp only
    rw [if_neg hset]
    exact hfollows.handled.askEvacuation (ite_keeps (hfollows.plain.stream _ h) h)

include hrise in
/-- Where the curtain was not called for before the change, the hand-over has the demand follow. -/
theorem recomputeStage_demandLawful (hset : s.effects.set = currentSet s) (h : On T DemandUnsettled s) :
    On T DemandLawful (recomputeStage rise s) := by
  obtain ⟨htables, hdemand, hcalled⟩ := h
  unfold recomputeStage
  dsimp only
  split
  next hstage => exact ⟨htables, ⟨hset, hstage.symm⟩, hdemand⟩
  next =>
    have hchanged : On T DemandLawful (setStage (stageOf s.monitor.zones s.monitor.link) s) := by
      refine ⟨?_, ⟨?_, ?_⟩, ?_⟩
      · simpa [setStage, noticeIsDue] using htables
      · simpa [setStage, noticeIsDue, currentSet] using hset
      · simp [setStage, noticeIsDue]
      · simpa [DemandLaw, setStage, noticeIsDue] using hdemand
    exact ite_keeps (hrise.lawful hchanged) hchanged

include hrise in
theorem handOverWith_demandLaw (b : Bool) (h : On T DemandUnsettled s) :
    DemandLaw (handOverWith rise deliverCurtain b s) := by
  have hA := alarmLaw_rules T
  have hD := demanded_rules T
  have hlaw : AlarmLaw (handOverWith rise deliverCurtain b s) :=
    (hA.handOverWith hrise.alarm (fun h => hA.deliverCurtain h) b h.1).2
  obtain ⟨htables, hdemand, hset⟩ := h
  by_cases hcalled : CurtainCalled s
  · refine demandLaw_of_demanded hlaw ?_
    cases hold : s.effects.set.curtain with
    | true =>
      exact (hD.handOverWith hrise.demanded (fun h => hD.deliverCurtain h) b ⟨htables, hcalled, hdemand.trans hold⟩).2
    | false =>
      have hchanged : currentSet s ≠ s.effects.set := fun he => by
        have hnew := (currentSet_curtain_iff s).mpr hcalled
        rw [he, hold] at hnew
        cases hnew
      obtain ⟨htables', hlaw', hcalled'⟩ := (zoneLaw_called.lawful T).recomputeStage hrise.called
        (s := s.withEffects { s.effects with set := currentSet s }) rfl ⟨htables, hcalled⟩
      unfold handOverWith
      dsimp only
      rw [if_neg hchanged]
      exact (hD.followInvestigation b (deliver_called _ hlaw' ⟨htables', hcalled'⟩)).2
  · have hnew : (currentSet s).curtain = false := Bool.eq_false_iff.mpr fun hc => hcalled ((currentSet_curtain_iff s).mp hc)
    have hold : s.effects.set.curtain = false := Bool.eq_false_iff.mpr fun hc => hcalled (hset hc)
    have hfollows := follows_demandLawful.on T
    have hstage := recomputeStage_demandLawful hrise (s := s.withEffects { s.effects with set := currentSet s }) rfl
      ⟨htables, hdemand.trans (hold.trans hnew.symm), fun hc => absurd hc (by simp [hnew])⟩
    have hdelivered := deliver_demandLawful s.effects.set hstage
    exact (hfollows.handled.followInvestigation b
      (ite_keeps (c := currentSet s = s.effects.set) hstage hdelivered)).2.2

end

theorem demandUnsettled_move {s : State} {z : ZoneId} {f : Zone → Zone} (hf : ZoneMove s z (f (zoneAt s z)))
    (h : DemandUnsettled s) : DemandUnsettled (updZone z f s) := ⟨h.1, fun hset => zoneLaw_called.move z f hf (h.2 hset)⟩

/-- A hand-over that restores the law of the demand keeps it through the moves of the zones. -/
theorem demandLaw_monitor {T : Tables} {ho : HandOver} (handed : ∀ b {s}, On T DemandUnsettled s → On T DemandLawful (ho b s)) :
    MonitorClosed ho (On T DemandLawful) (On T DemandUnsettled) where
  record _ _ _ _ h := ⟨(writeRecord_tables _ _ _ _ _).trans h.1, follows_demandLawful.calls.record _ _ _ _ h.2⟩
  unsettled h := ⟨h.1, demandUnsettled_of_lawful h.2⟩
  unsettledRecord _ _ _ _ h :=
    ⟨(writeRecord_tables _ _ _ _ _).trans h.1, follows_demandUnsettled.calls.record _ _ _ _ h.2⟩
  still _ _ _ hstate hfaulty h := ⟨h.1, alarmLaw_updZone hstate hfaulty h.2.1, h.2.2⟩
  move _ _ hf h := ⟨h.1, demandUnsettled_move hf h.2⟩
  handed b _ _ h := handed b h

theorem handOverInRise_demandLawful {T : Tables} (b : Bool) {s : State} (h : On T DemandUnsettled s) :
    On T DemandLawful (handOverInRise b s) :=
  have ⟨htables, hlaw⟩ := (alarmLaw_rules T).handOverInRise b h.1
  ⟨htables, hlaw, handOverWith_demandLaw (riseKeepsDemand_id T) b h⟩

theorem riseKeepsDemand_riseToEvacuate (T : Tables) : RiseKeepsDemand T riseToEvacuate where
  alarm h := (alarmLaw_rules T).riseToEvacuate h
  called h := (zoneLaw_called.lawful T).riseToEvacuate h
  demanded h := (demanded_rules T).riseToEvacuate h
  lawful h := by
    have hfollows := follows_demandLawful.on T
    exact (demandLaw_monitor fun b _ h => handOverInRise_demandLawful b h).closeWindows _
      (hfollows.handled.suppressOrdinary (hfollows.handled.endCall _ _ h))

theorem handOver_demandLawful {T : Tables} (b : Bool) {s : State} (h : On T DemandUnsettled s) :
    On T DemandLawful (handOver b s) :=
  have ⟨htables, hlaw⟩ := (alarmLaw_rules T).handOver b h.1
  ⟨htables, hlaw, handOverWith_demandLaw (riseKeepsDemand_riseToEvacuate T) b h⟩

theorem demandLaw_rules (T : Tables) : HandOverRules T (On T DemandLawful) (On T DemandUnsettled) := by
  have hfollows := follows_demandLawful.on T
  exact { hfollows.governor (fun h => h.1), hfollows.handled, demandLaw_monitor fun b _ h => handOver_demandLawful b h with
    mark := fun _ h => hfollows.congr h ⟨rfl, rfl, rfl, rfl, rfl, rfl, rfl⟩ }

/-! ### The commands -/

theorem indifferent_demandLaw : Indifferent DemandLawful fun T => On T DemandUnsettled where
  phase _ h := h
  heartbeat _ h := h
  link _ h := h
  window _ _ h := ⟨alarmLaw_updZone rfl rfl h.1, h.2⟩
  commit hstage _ h := ⟨alarmLaw_commitTables hstage h.1, h.2⟩

theorem alarmReset_demandLaw (s : State) : DemandLaw (alarmReset s) := by
  rw [DemandLaw, alarmReset_curtain, alarmReset_set]
  rfl

theorem lawKept_demandLaw (c : Instr) : LawKept c DemandLawful fun T => On T DemandUnsettled :=
  indifferent_demandLaw.lawKept follows_demandLawful demandLaw_rules
    (fun _ s _ _ => ⟨alarmLaw_alarmReset s, alarmReset_demandLaw s⟩)
    (fun _ _ _ _ => ⟨alarmLaw_of_fresh rfl rfl rfl rfl, rfl⟩)

theorem demandLawKept : Parts.DemandLawKept := fun _ _ hlaw h hstep => (step_keeps lawKept_demandLaw ⟨hlaw, h⟩ hstep).2

/-- Settles O40: a change to EVACUATE closes every window and suppresses, and the delivery of a set that newly calls for
the curtain has ALARM join the demands; both are restored by each hand-over. -/
theorem alarmBoundLawsKept : Obligations.AlarmBoundLawsKept := by
  unfold Obligations.AlarmBoundLawsKept
  exact ⟨windowsLawKept, demandLawKept⟩

end Sys2Proof.Machine
end


section
/-! What the Call Sequencer's operations do to the calls (R142 to R159), but for placing, starting and joining one: calls
end, and those left hold no more than they did. -/

namespace Sys2Proof.Machine

/-! ### Areas -/

theorem hasArea_oneArea (a b : AreaId) : hasArea (oneArea a) b = decide (b = a) := by
  rw [hasArea, oneArea, BitVec.getLsbD_ofNat, Nat.testBit_two_pow]
  simp [Fin.ext_iff, eq_comm, b.isLt]

theorem hasArea_or (x y : AreaSet) (a : AreaId) : hasArea (x ||| y) a = (hasArea x a || hasArea y a) := BitVec.getLsbD_or

theorem hasArea_dropArea (x : AreaSet) (a b : AreaId) : hasArea (dropArea x a) b = (hasArea x b && decide (b ≠ a)) := by
  have hone := hasArea_oneArea a b
  unfold hasArea at hone ⊢
  rw [dropArea, BitVec.getLsbD_and, BitVec.getLsbD_not, hone]
  simp [b.isLt]

theorem hasArea_zero (a : AreaId) : hasArea 0 a = false := BitVec.getLsbD_zero

theorem mem_areasOf {x : AreaSet} {a : AreaId} : a ∈ areasOf x ↔ hasArea x a = true := by simp [areasOf]

/-! ### Calls that go on or end -/

/-- A call goes on: it runs or waits as it did, for the areas it asked for, and holds no more than it did. -/
structure Later (old new : Call) : Prop where
  running : new.running = old.running
  priority : new.priority = old.priority
  requested : new.requested = old.requested
  held : ∀ a, hasArea new.held a = true → hasArea old.held a = true

theorem later_refl (c : Call) : Later c c := ⟨rfl, rfl, rfl, fun _ h => h⟩

theorem Later.trans {c d e : Call} (h : Later c d) (k : Later d e) : Later c e :=
  ⟨k.running.trans h.running, k.priority.trans h.priority, k.requested.trans h.requested, fun a ha => h.held a (k.held a ha)⟩

/-- Some calls end, leaving the table and the pending list; the others go on. -/
structure ShrinksBy (ended : EntryId → Bool) (old new : CallState) : Prop where
  list : new.pendingList = old.pendingList.filter fun e => !ended e
  gone : ∀ e, ended e = true → new.table[e] = none
  kept : ∀ e, ended e = false → Option.Rel Later old.table[e] new.table[e]

/-- Some calls end, and nothing decides that but the calls, the links and the log. -/
structure Shrinks (s t : State) : Prop where
  calls : ∃ ended, ShrinksBy ended s.calls t.calls
  tables : t.tables = s.tables
  phase : t.phase = s.phase
  effects : t.effects = s.effects

theorem optionRel_refl (o : Option Call) : Option.Rel Later o o := by
  cases o with
  | none => exact .none
  | some c => exact .some (later_refl c)

theorem optionRel_none {o : Option Call} (h : Option.Rel Later none o) : o = none := by
  cases h
  rfl

theorem optionRel_some {o : Option Call} {c : Call} (h : Option.Rel Later o (some c)) : ∃ d, o = some d ∧ Later d c := by
  cases h with
  | some h => exact ⟨_, rfl, h⟩

theorem optionRel_trans {o p q : Option Call} (h : Option.Rel Later o p) (k : Option.Rel Later p q) : Option.Rel Later o q := by
  cases h with
  | none => exact k
  | some h =>
    cases k with
    | some k => exact .some (h.trans k)

theorem ShrinksBy.trans {f g : EntryId → Bool} {a b c : CallState} (h : ShrinksBy f a b) (k : ShrinksBy g b c) :
    ShrinksBy (fun e => f e || g e) a c where
  list := by
    rw [k.list, h.list, List.filter_filter]
    exact congrArg (fun p => a.pendingList.filter p) (funext fun e => by simp [Bool.and_comm])
  gone e he := by
    rcases Bool.or_eq_true_iff.mp he with he | he
    · cases hg : g e with
      | true => exact k.gone e hg
      | false =>
        have hkept := k.kept e hg
        rw [h.gone e he] at hkept
        exact optionRel_none hkept
    · exact k.gone e he
  kept e he := by
    obtain ⟨hf, hg⟩ := Bool.or_eq_false_iff.mp he
    exact optionRel_trans (h.kept e hf) (k.kept e hg)

/-- Nothing but other parts of the Call Sequencer changes. -/
theorem shrinksBy_of_same {old new : CallState} (htable : new.table = old.table) (hlist : new.pendingList = old.pendingList) :
    ShrinksBy (fun _ => false) old new where
  list := by simp [hlist]
  gone _ h := nomatch h
  kept e _ := by
    rw [htable]
    exact optionRel_refl _

theorem shrinks_refl (s : State) : Shrinks s s := ⟨⟨_, shrinksBy_of_same rfl rfl⟩, rfl, rfl, rfl⟩

namespace Shrinks

variable {s t u : State}

theorem trans (h : Shrinks s t) (k : Shrinks t u) : Shrinks s u :=
  have ⟨_, hf⟩ := h.calls
  have ⟨_, kg⟩ := k.calls
  ⟨⟨_, hf.trans kg⟩, k.tables.trans h.tables, k.phase.trans h.phase, k.effects.trans h.effects⟩

theorem none (h : Shrinks s t) {e : EntryId} (he : callAt s e = none) : callAt t e = none := by
  obtain ⟨ended, hby⟩ := h.calls
  cases hended : ended e with
  | true => exact hby.gone e hended
  | false =>
    have hkept := hby.kept e hended
    rw [show s.calls.table[e] = Option.none from he] at hkept
    exact optionRel_none hkept

theorem some (h : Shrinks s t) {e : EntryId} {c : Call} (he : callAt t e = some c) :
    ∃ d, callAt s e = some d ∧ Later d c := by
  obtain ⟨ended, hby⟩ := h.calls
  cases hended : ended e with
  | true => exact nomatch (hby.gone e hended).symm.trans he
  | false =>
    have hkept := hby.kept e hended
    rw [show t.calls.table[e] = Option.some c from he] at hkept
    obtain ⟨d, hd, hlater⟩ := optionRel_some hkept
    exact ⟨d, hd, hlater⟩

end Shrinks

/-! ### What leaves the calls as they are, or has them go on -/

theorem shrinks_of_same {s t : State} (htable : t.calls.table = s.calls.table)
    (hlist : t.calls.pendingList = s.calls.pendingList) (htables : t.tables = s.tables) (hphase : t.phase = s.phase)
    (heffects : t.effects = s.effects) : Shrinks s t := ⟨⟨_, shrinksBy_of_same htable hlist⟩, htables, hphase, heffects⟩

section
variable {s : State}

theorem shrinks_record (k : EventKind) (a b c : Byte) (s : State) : Shrinks s (writeRecord k a b c s) :=
  shrinks_of_same (by simp) (by simp) (by simp) (by simp) (by simp)

theorem shrinks_offer (q : QueueId) (f : Frame) (s : State) : Shrinks s (offer q f s) :=
  shrinks_of_same (by simp) (by simp) (by simp) (by simp) (by simp)

theorem shrinks_setFlash (areas : AreaSet) (f : FlashState) (s : State) : Shrinks s (setFlash areas f s) :=
  shrinks_of_same rfl rfl rfl rfl rfl

theorem shrinks_markFreed (s : State) : Shrinks s (markFreed s) := shrinks_of_same rfl rfl rfl rfl rfl

theorem callAt_putCall_same (e : EntryId) (c : Option Call) (s : State) : callAt (putCall e c s) e = c := putAt_same _ _ _

theorem callAt_putCall_other {d e : EntryId} (c : Option Call) (s : State) (h : d ≠ e) :
    callAt (putCall e c s) d = callAt s d := putAt_other _ _ h

theorem shrinks_putCall {e : EntryId} {c d : Call} (h : callAt s e = some c) (hlater : Later c d) :
    Shrinks s (putCall e (some d) s) := by
  refine ⟨⟨fun _ => false, ⟨by simp [putCall], fun _ h => (nomatch h), fun x _ => ?_⟩⟩, rfl, rfl, rfl⟩
  by_cases hx : x = e
  · subst hx
    have hnew := callAt_putCall_same x (some d) s
    rw [show s.calls.table[x] = some c from h, show (putCall x (some d) s).calls.table[x] = some d from hnew]
    exact .some hlater
  · have hnew := callAt_putCall_other (some d) s hx
    rw [show (putCall e (some d) s).calls.table[x] = s.calls.table[x] from hnew]
    exact optionRel_refl _

theorem shrinks_sendToArea (cmd x y : Byte) (a : AreaId) (s : State) : Shrinks s (sendToArea cmd x y s a) := by
  unfold sendToArea sendCommand
  split
  · exact shrinks_offer _ _ _
  · exact shrinks_refl s

theorem shrinks_foldl {α : Type} {f : State → α → State} (hf : ∀ s a, Shrinks s (f s a)) (l : List α) (s : State) :
    Shrinks s (l.foldl f s) := foldl_keeps (P := Shrinks s) (fun _ a h => h.trans (hf _ a)) l s (shrinks_refl s)

theorem shrinks_sendToAreas (areas : AreaSet) (cmd x y : Byte) (s : State) : Shrinks s (sendToAreas areas cmd x y s) :=
  shrinks_foldl (fun s a => shrinks_sendToArea cmd x y a s) _ s

/-! ### Calls that end -/

/-- The entry whose call ends is free, and its place in the pending list too. -/
theorem shrinks_endCall (o : CallOutcome) (e : EntryId) (s : State) : Shrinks s (endCall o e s) := by
  cases h : callAt s e with
  | none => rw [endCall_of_none o h]; exact shrinks_refl s
  | some c =>
    have hsent : Shrinks s (if stopsUnits s.tables o c then sendToAreas c.held cmdStop 0 0 s else s) :=
      ite_keeps (shrinks_sendToAreas _ _ _ _ s) (shrinks_refl s)
    unfold endCall
    rw [h]
    dsimp only
    generalize (if stopsUnits s.tables o c then sendToAreas c.held cmdStop 0 0 s else s) = u at hsent
    refine (hsent.trans ?_).trans (shrinks_record _ _ _ _ _)
    refine Shrinks.trans (t := u.withCalls { u.calls with
      table := putAt u.calls.table e none
      pendingList := u.calls.pendingList.filter fun x => x != e
      freed := u.calls.freed || u.calls.pendingList.contains e || c.held != 0 }) ?_ (shrinks_setFlash _ _ _)
    refine ⟨⟨fun x => decide (x = e), ⟨?_, fun x hx => ?_, fun x hx => ?_⟩⟩, rfl, rfl, rfl⟩
    · exact congrArg (fun p => u.calls.pendingList.filter p) (funext fun x => by simp [bne, beq_eq_decide])
    · exact of_decide_eq_true hx ▸ putAt_same _ _ _
    · have hother : (putAt u.calls.table e none)[x] = u.calls.table[x] := putAt_other _ _ (of_decide_eq_false hx)
      have hrel := optionRel_refl u.calls.table[x]
      exact hother.symm ▸ hrel

theorem shrinks_suppressOrdinary (s : State) : Shrinks s (suppressOrdinary s) :=
  (shrinks_foldl (fun x e => shrinks_endCall .suppressed e x) _ s).trans
    (shrinks_foldl (fun x e => ite_keeps (shrinks_endCall .suppressed e x) (shrinks_refl x)) _ _)

/-! ### Steps -/

theorem later_repeatStep (c : Call) (st : StepBytes) : Later c (repeatStep c st) := by
  unfold repeatStep
  dsimp only
  split_ifs <;> exact ⟨rfl, rfl, rfl, fun _ h => h⟩

theorem shrinks_runSteps (n : Nat) (e : EntryId) (s : State) : Shrinks s (runSteps n e s) := by
  induction n generalizing s with
  | zero => exact shrinks_refl s
  | succ n ih =>
    unfold runSteps
    split
    next => exact shrinks_refl s
    next c hc =>
      have hput {t : State} {d : Call} (hsent : t.calls = s.calls) (hst : Shrinks s t) (hlater : Later c d) :
          Shrinks s (putCall e (some d) t) := hst.trans (shrinks_putCall ((callAt_congr hsent e).trans hc) hlater)
      dsimp only
      split
      · exact hput (sendToAreas_calls _ _ _ _ s) (shrinks_sendToAreas _ _ _ _ s) ⟨rfl, rfl, rfl, fun _ h => h⟩
      · exact hput (sendToAreas_calls _ _ _ _ s) (shrinks_sendToAreas _ _ _ _ s) ⟨rfl, rfl, rfl, fun _ h => h⟩
      · exact (shrinks_setFlash _ _ s).trans
          (shrinks_putCall (c := c) ((callAt_congr rfl e).trans hc) ⟨rfl, rfl, rfl, fun _ h => h⟩)
      · exact hput rfl (shrinks_refl s) ⟨rfl, rfl, rfl, fun _ h => h⟩
      · exact (hput rfl (shrinks_refl s) (later_repeatStep c _)).trans (ih _)
      · exact shrinks_endCall _ _ s

theorem later_moveCursor (c : Call) (n : Nat) : Later c (moveCursor c n) := ⟨rfl, rfl, rfl, fun _ h => h⟩

theorem shrinks_stepEnds (e : EntryId) (s : State) : Shrinks s (stepEnds e s) := by
  unfold stepEnds
  split
  next => exact shrinks_refl s
  next hc => exact (shrinks_putCall hc (later_moveCursor _ _)).trans (shrinks_runSteps _ _ _)

/-! ### Areas lost -/

theorem later_loseArea (t : Tables) (a : AreaId) (c : Call) : Later c (loseArea t a c) :=
  ⟨rfl, rfl, rfl, fun b hb => by
    rw [loseArea, hasArea_dropArea, Bool.and_eq_true] at hb
    exact hb.1⟩

theorem sendToArea_calls (cmd x y : Byte) (a : AreaId) (s : State) : (sendToArea cmd x y s a).calls = s.calls := by
  unfold sendToArea sendCommand
  split
  · exact offer_calls _ _ _
  · rfl

/-- The holder of an area loses it (R147 steps 1 to 3). -/
def areaLost (l : EntryId) (c : Call) (a : AreaId) (s : State) : State :=
  let c1 := loseArea s.tables a c
  let s1 := setFlash (oneArea a) .inactive (putCall l (some c1) (sendToArea cmdStop 0 0 s a))
  if c1.held != 0 && c1.awaiting.isEmpty && !c.awaiting.isEmpty then stepEnds l s1 else s1

theorem shrinks_areaLost {l : EntryId} {c : Call} (a : AreaId) (hc : callAt s l = some c) :
    Shrinks s (areaLost l c a s) := by
  have hlost : Shrinks s (setFlash (oneArea a) .inactive
      (putCall l (some (loseArea s.tables a c)) (sendToArea cmdStop 0 0 s a))) :=
    ((shrinks_sendToArea _ _ _ a s).trans
      (shrinks_putCall ((callAt_congr (sendToArea_calls _ _ _ a s) l).trans hc) (later_loseArea _ _ _))).trans
      (shrinks_setFlash _ _ _)
  exact ite_keeps (P := Shrinks s) (hlost.trans (shrinks_stepEnds _ _)) hlost

/-- The call that loses the area holds it no longer. -/
theorem callAt_areaLost {l : EntryId} {c d : Call} {a : AreaId} (h : callAt (areaLost l c a s) l = some d) :
    hasArea d.held a = false := by
  have hput : callAt (setFlash (oneArea a) .inactive
      (putCall l (some (loseArea s.tables a c)) (sendToArea cmdStop 0 0 s a))) l = some (loseArea s.tables a c) :=
    callAt_putCall_same _ _ _
  have hlost : Shrinks (setFlash (oneArea a) .inactive
      (putCall l (some (loseArea s.tables a c)) (sendToArea cmdStop 0 0 s a))) (areaLost l c a s) :=
    ite_keeps (P := Shrinks _) (shrinks_stepEnds _ _) (shrinks_refl _)
  obtain ⟨x, hx, hlater⟩ := hlost.some h
  obtain rfl := Option.some.inj (hput.symm.trans hx)
  refine Bool.eq_false_iff.mpr fun hd => ?_
  have hdropped := hlater.held a hd
  rw [loseArea, hasArea_dropArea] at hdropped
  simp at hdropped

/-! ### The holder of an area -/

theorem holderOf_some {cs : CallState} {a : AreaId} {l : EntryId} (h : holderOf cs a = some l) :
    ∃ c, cs.table[l] = some c ∧ c.running = true ∧ hasArea c.held a = true := by
  have hfound := List.find?_some h
  split at hfound
  next c hc => exact ⟨c, hc, (Bool.and_eq_true_iff.mp hfound).1, (Bool.and_eq_true_iff.mp hfound).2⟩
  next => cases hfound

theorem holderOf_none {cs : CallState} {a : AreaId} (h : holderOf cs a = none) {l : EntryId} {c : Call}
    (hc : cs.table[l] = some c) (hrun : c.running = true) : hasArea c.held a = false := by
  have hfound := List.find?_eq_none.mp h l (List.mem_finRange l)
  rw [hc] at hfound
  simpa [hrun] using hfound

theorem preempt_of_free {a : AreaId} (w : EntryId) (takes : Bool) (h : holderOf s.calls a = none) :
    preempt w takes s a = s := by
  rw [preempt, h]

theorem preempt_of_self {a : AreaId} {w : EntryId} (takes : Bool) (h : holderOf s.calls a = some w) :
    preempt w takes s a = s := by
  rw [preempt, h]
  exact if_pos rfl

theorem preempt_of_holder {a : AreaId} {w l : EntryId} {c : Call} (takes : Bool) (h : holderOf s.calls a = some l)
    (hl : l ≠ w) (hc : callAt s l = some c) :
    preempt w takes s a =
      let s3 := if takes then takeArea w a (areaLost l c a s) else markFreed (areaLost l c a s)
      if (loseArea s.tables a c).held = 0 then endCall .preempted l s3 else s3 := by
  rw [preempt, h]
  dsimp only
  rw [if_neg hl, hc]
  rfl

/-- A call takes an area where a property is kept by calls that end and by the call taking it. -/
theorem seizeArea_rule {Q : State → Prop} {w : EntryId} {a : AreaId} (hshrink : ∀ {s t}, Q s → Shrinks s t → Q t)
    (htake : ∀ {s}, Q s → Q (takeArea w a s)) {s : State} (hfree : holderOf s.calls a = none → Q s)
    (hself : holderOf s.calls a = some w → Q s)
    (hlost : ∀ l c, holderOf s.calls a = some l → l ≠ w → callAt s l = some c → Q (areaLost l c a s)) :
    Q (seizeArea w s a) := by
  refine htake ?_
  cases h : holderOf s.calls a with
  | none => rw [preempt_of_free w true h]; exact hfree h
  | some l =>
    by_cases hl : l = w
    · subst hl
      rw [preempt_of_self true h]
      exact hself h
    · obtain ⟨c, hc, -, -⟩ := holderOf_some h
      have htaken := htake (hlost l c h hl hc)
      rw [preempt_of_holder true h hl hc]
      exact ite_keeps (P := Q) (hshrink htaken (shrinks_endCall _ _ _)) htaken

/-- A call that goes to wait has an area freed for it alone. -/
theorem shrinks_preempt_free (w : EntryId) (a : AreaId) (s : State) : Shrinks s (preempt w false s a) := by
  cases h : holderOf s.calls a with
  | none => rw [preempt_of_free w false h]; exact shrinks_refl s
  | some l =>
    by_cases hl : l = w
    · subst hl
      rw [preempt_of_self false h]
      exact shrinks_refl s
    · obtain ⟨c, hc, -, -⟩ := holderOf_some h
      have hmarked := (shrinks_areaLost a hc).trans (shrinks_markFreed _)
      rw [preempt_of_holder false h hl hc]
      exact ite_keeps (P := Shrinks s) (hmarked.trans (shrinks_endCall _ _ _)) hmarked

theorem shrinks_clearArea (e : EntryId) (priority : Nat) (a : AreaId) (s : State) :
    Shrinks s (clearArea e priority s a) := by
  unfold clearArea
  split
  · exact ite_keeps (shrinks_preempt_free e a s) (shrinks_refl s)
  · exact shrinks_refl s

end

end Sys2Proof.Machine
end


section
/-! What the Call Sequencer's commands keep (R145 to R163): a law kept by calls that end or go on, by a call admitted,
started or left to wait, and by the evacuation call as it grows. -/

namespace Sys2Proof.Machine

/-! ### Admission and examination, apart -/

theorem callAt_placeCall_same (e : EntryId) (p : ProgramId) (o : Origin) (areas : AreaSet) (s : State) :
    callAt (placeCall e p o areas s) e = some (newCall (freeNumber s.calls 10 s.calls.nextNumber) p
      s.tables.programs[p].cls.toNat o areas) := putAt_same _ _ _

theorem callAt_placeCall_other {d e : EntryId} (p : ProgramId) (o : Origin) (areas : AreaSet) (s : State) (h : d ≠ e) :
    callAt (placeCall e p o areas s) d = callAt s d := putAt_other _ _ h

/-- A pending call leaves the list to start (R148). -/
def leavesList (e : EntryId) (c : Call) (s : State) : State :=
  let s1 := putCall e (some { c with deadline := none }) s
  s1.withCalls { s1.calls with pendingList := s1.calls.pendingList.filter fun x => x != e, freed := true }

theorem examineCall_of_starts {s : State} {e : EntryId} {c : Call} (hc : callAt s e = some c)
    (hlist : s.calls.pendingList.contains e = true)
    (hfree : ¬ (areasOf c.requested).any fun a =>
      areaBlocked s c.priority (s.calls.pendingList.takeWhile fun x => x != e) a) :
    examineCall s e = startRunning e (leavesList e c s) := by
  rw [examineCall, hc]
  dsimp only
  rw [hlist, if_neg hfree]
  rfl

/-- What the tests of START-CALL leave of an entry and a program: an ordinary call, where calls are permitted and the
stage is below EVACUATE. -/
def AdmissibleOrdinary (s : State) (e : EntryId) (p : ProgramId) : Prop :=
  2 ≤ e.val ∧ 2 ≤ s.tables.programs[p].cls.toNat ∧ permitsCalls s.phase.phase = true ∧ s.effects.stage ≠ .evacuate

/-- A call of the Effect Unit: entry 0 or 1, and a program of the ALARM record. -/
def AdmissibleAlarm (s : State) (e : EntryId) (p : ProgramId) : Prop :=
  e.val < 2 ∧ (programIdOf s.tables.alarm.evacProgram = some p ∨ programIdOf s.tables.alarm.staffProgram = some p)

theorem two_le_of_ordinary : ∀ e ∈ ordinaryEntries, 2 ≤ e.val := by decide

theorem startCallTests_ok {s : State} {b : Byte} {areas : AreaSet} {e : EntryId} {p : ProgramId}
    (h : startCallTests s b areas = .ok (e, p)) : callAt s e = none ∧ AdmissibleOrdinary s e p := by
  unfold startCallTests ordinaryTests at h
  split at h
  next => cases h
  next q _ =>
    split at h
    next => cases h
    next =>
      split at h
      next => cases h
      next d htests =>
        obtain ⟨rfl, rfl⟩ := Prod.mk.inj (Except.ok.inj h)
        split_ifs at htests with hclass hphase hstage
        split at htests
        next => cases htests
        next d' hfree =>
          obtain rfl := Except.ok.inj htests
          have hnone : (callAt s d').isNone = true :=
            List.find?_some (p := fun e => (callAt s e).isNone) (l := ordinaryEntries) hfree
          have hentry : 2 ≤ d'.val := two_le_of_ordinary d' (List.mem_of_find?_eq_some hfree)
          exact ⟨Option.isNone_iff_eq_none.mp hnone, hentry, Nat.le_of_not_lt hclass, by simpa using hphase, hstage⟩

theorem inStep_some {s : State} {e : EntryId} {kind : Byte} {c : Call} (h : inStep s e kind = some c) :
    callAt s e = some c := by
  unfold inStep at h
  split at h
  next hc =>
    split at h
    next => exact h ▸ hc
    next => cases h
  next => cases h

/-! ### A law of the calls -/

/-- A law `P` of the calls, with what is left of it while the call of an entry is being placed, `B`, and while it is
starting, `S`; of a call placed, for those of the Effect Unit alone. -/
structure SequencerCore (P : State → Prop) (B S : EntryId → State → Prop) : Prop where
  shrink : ∀ {s t}, P s → Shrinks s t → P t
  placedShrink : ∀ {s t} e, B e s → Shrinks s t → B e t
  place : ∀ {s} e p o areas, P s → callAt s e = none → AdmissibleAlarm s e p → B e (placeCall e p o areas s)
  placedGone : ∀ {s} e, B e s → callAt s e = none → P s
  placedStarts : ∀ {s} e c, B e s → callAt s e = some c → (∀ a, hasArea c.requested a = true →
    areaBlocked s c.priority (aheadOfNew s c.priority) a = false) → S e s
  alarmStarts : ∀ {s} e, B e s → e.val < 2 → S e s
  examined : ∀ {s} e c, P s → callAt s e = some c → e ∈ s.calls.pendingList → (∀ a, hasArea c.requested a = true →
    areaBlocked s c.priority (s.calls.pendingList.takeWhile fun x => x != e) a = false) → S e (leavesList e c s)
  seize : ∀ {s} e a, S e s → (∀ c, callAt s e = some c → hasArea c.requested a = true) → S e (seizeArea e s a)
  startGone : ∀ {s} e, S e s → callAt s e = none → P s
  run : ∀ {s} e c, S e s → callAt s e = some c → P (putCall e (some { moveCursor c 0 with running := true }) s)
  join : ∀ {s} e priority n areas, B e s → 2 ≤ e.val →
    (∀ c, callAt s e = some c → c.priority = priority ∧ c.requested = areas) →
    P (joinPending e priority n ((areasOf areas).foldl (clearArea e priority) s))
  grow : ∀ {s} c a, P s → callAt s 0 = some c →
    P (seizeArea 0 (putCall 0 (some { c with requested := c.requested ||| oneArea a }) s) a)

/-- A law of the calls, kept as ordinary calls are placed too. -/
structure SequencerLaw (P : State → Prop) (B S : EntryId → State → Prop) : Prop extends SequencerCore P B S where
  placeOrdinary : ∀ {s} e p o areas, P s → callAt s e = none → AdmissibleOrdinary s e p → B e (placeCall e p o areas s)

/-- The call of an entry, if it is there, has this value. -/
def CallHas {α : Type} (e : EntryId) (f : Call → α) (v : α) (s : State) : Prop := ∀ c, callAt s e = some c → f c = v

section
variable {α : Type} {e : EntryId} {f : Call → α} {v : α} {s : State}

theorem callHas_of_callAt {c : Call} (h : callAt s e = some c) : CallHas e f (f c) s :=
  fun d hd => by rw [Option.some.inj (h.symm.trans hd)]

theorem callHas_shrinks {t : State} (hf : ∀ {c d}, Later c d → f d = f c) (h : CallHas e f v s) (hst : Shrinks s t) :
    CallHas e f v t := fun _ hc =>
  have ⟨d, hd, hlater⟩ := hst.some hc
  (hf hlater).trans (h d hd)

theorem takeArea_of_some {w : EntryId} {a : AreaId} {c : Call} (h : callAt s w = some c) :
    takeArea w a s = putCall w (some { c with held := c.held ||| oneArea a }) s := by rw [takeArea, h]

theorem takeArea_of_none {w : EntryId} {a : AreaId} (h : callAt s w = none) : takeArea w a s = s := by rw [takeArea, h]

theorem callAt_takeArea_other {d w : EntryId} (a : AreaId) (h : d ≠ w) : callAt (takeArea w a s) d = callAt s d := by
  unfold takeArea
  split
  · rfl
  · exact callAt_putCall_other _ _ h

theorem callHas_takeArea {w : EntryId} {a : AreaId} (hf : ∀ c x, f { c with held := x } = f c) (h : CallHas e f v s) :
    CallHas e f v (takeArea w a s) := by
  intro d hd
  by_cases he : e = w
  · subst he
    cases hc : callAt s e with
    | none => exact h d (takeArea_of_none (a := a) hc ▸ hd)
    | some c =>
      rw [takeArea_of_some hc, callAt_putCall_same] at hd
      obtain rfl := Option.some.inj hd
      exact (hf c _).trans (h c hc)
  · exact h d (callAt_takeArea_other a he ▸ hd)

theorem callHas_seizeArea {w : EntryId} {a : AreaId} (hlater : ∀ {c d}, Later c d → f d = f c)
    (hheld : ∀ c x, f { c with held := x } = f c) (h : CallHas e f v s) : CallHas e f v (seizeArea w s a) :=
  seizeArea_rule (Q := CallHas e f v) (callHas_shrinks hlater) (callHas_takeArea hheld) (fun _ => h) (fun _ => h)
    fun _ _ _ _ hc => callHas_shrinks hlater h (shrinks_areaLost a hc)

end

namespace SequencerCore

variable {P : State → Prop} {B S : EntryId → State → Prop} (hP : SequencerCore P B S) {s : State}
include hP

theorem record : RecordClosed P where
  record _ _ _ _ h := hP.shrink h (shrinks_record _ _ _ _ _)
  offer _ _ h := hP.shrink h (shrinks_offer _ _ _)

theorem startRunning (e : EntryId) (h : S e s) : P (startRunning e s) := by
  unfold Machine.startRunning
  split
  next hnone => exact hP.startGone e h hnone
  next c0 hc0 =>
    have hseized (l : List AreaId) (hl : ∀ a ∈ l, hasArea c0.requested a = true) :
        S e (l.foldl (seizeArea e) s) ∧ CallHas e Call.requested c0.requested (l.foldl (seizeArea e) s) := by
      have hasks : CallHas e Call.requested c0.requested s := callHas_of_callAt hc0
      clear hc0
      induction l generalizing s with
      | nil => exact ⟨h, hasks⟩
      | cons a l ih =>
        exact ih (hP.seize e a h fun c hc => hasks c hc ▸ hl a List.mem_cons_self)
          (fun b hb => hl b (List.mem_cons_of_mem _ hb)) (callHas_seizeArea Later.requested (fun _ _ => rfl) hasks)
    obtain ⟨hstarting, -⟩ := hseized (areasOf c0.requested) fun a ha => mem_areasOf.mp ha
    dsimp only
    split
    next hnone => exact hP.startGone e hstarting hnone
    next c hc =>
      exact hP.shrink (hP.run e c hstarting hc) ((shrinks_record _ _ _ _ _).trans (shrinks_runSteps _ _ _))

theorem examineCall (e : EntryId) (h : P s) : P (examineCall s e) := by
  cases hc : callAt s e with
  | none =>
    rw [Machine.examineCall, hc]
    exact h
  | some c =>
    cases hlist : s.calls.pendingList.contains e with
    | false =>
      rw [Machine.examineCall, hc]
      dsimp only
      rw [hlist]
      exact h
    | true =>
      by_cases hblocked : (areasOf c.requested).any fun a =>
          areaBlocked s c.priority (s.calls.pendingList.takeWhile fun x => x != e) a
      · rw [Machine.examineCall, hc]
        dsimp only
        rw [hlist, if_pos hblocked]
        exact h
      · rw [examineCall_of_starts hc hlist hblocked]
        refine hP.startRunning e (hP.examined e c h hc (List.contains_iff_mem.mp hlist) fun a ha => ?_)
        rw [Bool.not_eq_true, List.any_eq_false] at hblocked
        exact Bool.eq_false_iff.mpr (hblocked a (mem_areasOf.mpr ha))

theorem examine (h : P s) : P (examine s) := foldl_keeps (fun _ e hs => hP.examineCall e hs) _ _ h

theorem calls (x : CallState) (htable : x.table = s.calls.table) (hlist : x.pendingList = s.calls.pendingList)
    (h : P s) : P (s.withCalls x) := hP.shrink h (shrinks_of_same htable hlist rfl rfl rfl)

theorem settleFor (n : Nat) (h : P s) : P (settleFor n s) := by
  induction n generalizing s with
  | zero => exact h
  | succ n ih => exact ite_keeps (ih (hP.examine (hP.calls _ rfl rfl h))) h

theorem settle (h : P s) : P (settle s) := hP.calls _ rfl rfl (hP.settleFor _ h)

/-! ### The calls of the Effect Unit -/

theorem startAlarmCall (e : EntryId) (p : ProgramId) (o : Origin) (areas : AreaSet) (hfree : callAt s e = none)
    (hadmit : AdmissibleAlarm s e p) (h : P s) : P (startAlarmCall e p o areas s) :=
  hP.startRunning e (hP.alarmStarts e (hP.place e p o areas h hfree hadmit) hadmit.1)

theorem growArea (a : AreaId) (h : P s) : P (growArea s a) := by
  unfold Machine.growArea
  split
  next => exact h
  next c hc => exact ite_keeps h (hP.grow c a h hc)

theorem askEvacuation (h : P s) : P (askEvacuation s) := by
  unfold Machine.askEvacuation
  dsimp only
  split
  next => exact h
  next =>
    split
    next => exact h
    next p hp =>
      split
      next hfree => exact hP.startAlarmCall 0 p _ _ hfree ⟨by decide, .inl hp⟩ h
      next => exact foldl_keeps (fun _ a hs => hP.growArea a hs) _ _ h

theorem askStaff (h : P s) : P (askStaff s) := by
  unfold Machine.askStaff
  split
  next => exact h
  next p hp =>
    split
    next hfree =>
      obtain ⟨hnone, -⟩ := Bool.and_eq_true_iff.mp hfree
      exact hP.startAlarmCall 1 p _ _ (Option.isNone_iff_eq_none.mp hnone) ⟨by decide, .inr hp⟩ h
    next => exact h

/-! ### The interval clock -/

theorem setProgress (i : Fin 6) (x : Progress) (h : P s) : P (setProgress i x s) := hP.calls _ rfl rfl h

theorem startInterval (length : Nat) (h : P s) : P (startInterval length s) := by
  refine foldl_keeps (fun x i hx => ?_) _ _ (hP.calls _ rfl rfl h)
  exact ite_keeps (hP.setProgress _ _ hx) (ite_keeps (hP.record.record _ _ _ _ (hP.setProgress _ _ hx))
    (hP.setProgress _ _ hx))

/-! ### Together -/

theorem handled : CallsHandled P :=
  { hP.record with
    endCall := fun _ _ h => hP.shrink h (shrinks_endCall _ _ _)
    suppressOrdinary := fun h => hP.shrink h (shrinks_suppressOrdinary _)
    askEvacuation := fun h => hP.askEvacuation h
    askStaff := fun h => hP.askStaff h
    settle := fun h => hP.settle h
    startInterval := fun length h => hP.startInterval length h
    stopInterval := fun h => hP.calls _ rfl rfl h }

theorem stepEnds (e : EntryId) (h : P s) : P (Machine.settle (stepEnds e s)) :=
  hP.settle (hP.shrink h (shrinks_stepEnds e s))

theorem unitAnswers (unit message : Byte) (h : P s) : P (unitAnswers unit message s) := by
  unfold Machine.unitAnswers
  split
  next => exact h
  next =>
    split
    next => exact h
    next e _ =>
      split
      next => exact h
      next c hc =>
        have hput : P (putCall e (some { c with awaiting := c.awaiting.filter fun x => x != unit }) s) :=
          hP.shrink h (shrinks_putCall hc ⟨rfl, rfl, rfl, fun _ h => h⟩)
        exact ite_keeps (ite_keeps (hP.stepEnds e hput) hput) h

theorem flashTurn (e : EntryId) (h : P s) : P (flashTurn e s) := by
  unfold Machine.flashTurn
  split
  next => exact h
  next c hc =>
    dsimp only
    split
    next => exact h
    next =>
      have hturned (d : Call) (hd : Later c d) (areas : AreaSet) (f : FlashState) :
          P (setFlash areas f (putCall e (some d) s)) :=
        hP.shrink h ((shrinks_putCall (inStep_some hc) hd).trans (shrinks_setFlash _ _ _))
      have hlater (x : Timer) (f : Option FlashProgress) : Later c { c with stepTimer := x, flash := f } :=
        ⟨rfl, rfl, rfl, fun _ h => h⟩
      exact ite_keeps (hturned _ (hlater _ _) _ _) (ite_keeps (hturned _ (hlater _ _) _ _)
        (hP.stepEnds e (hP.shrink h (shrinks_setFlash _ _ _))))

end SequencerCore

namespace SequencerLaw

variable {P : State → Prop} {B S : EntryId → State → Prop} (hP : SequencerLaw P B S) {s : State}
include hP

theorem admitCall (e : EntryId) (p : ProgramId) (o : Origin) (areas : AreaSet) (hfree : callAt s e = none)
    (hadmit : AdmissibleOrdinary s e p) (h : P s) : P (admitCall e p o areas s) := by
  have hplaced := hP.placeOrdinary e p o areas h hfree hadmit
  have hnew := callAt_placeCall_same e p o areas s
  have hcall (c : Call) (hc : callAt (placeCall e p o areas s) e = some c) :
      c.priority = s.tables.programs[p].cls.toNat ∧ c.requested = areas := by
    obtain rfl := Option.some.inj (hnew.symm.trans hc)
    exact ⟨rfl, rfl⟩
  unfold Machine.admitCall
  dsimp only
  split
  next hstarts =>
    refine hP.startRunning e (hP.placedStarts e _ hplaced hnew fun a ha => ?_)
    have hopen := List.all_eq_true.mp hstarts a (mem_areasOf.mpr ha)
    rw [Bool.not_eq_true'] at hopen
    exact hopen
  next =>
    split
    next =>
      exact hP.placedGone e (hP.placedShrink e hplaced (shrinks_endCall _ _ _)) (callAt_endCall_same _ _ _)
    next => exact hP.join e _ _ areas hplaced hadmit.1 hcall

theorem fireIfDue (i : Fin 6) (h : P s) : P (fireIfDue s i) := by
  unfold Machine.fireIfDue
  split
  next =>
    unfold fireEntry
    dsimp only
    split
    next => exact hP.record.record _ _ _ _ (hP.setProgress _ _ h)
    next e p htests =>
      obtain ⟨hfree, hadmit⟩ := startCallTests_ok htests
      exact hP.admitCall e p _ _ hfree hadmit (hP.setProgress _ _ h)
  next => exact h

theorem clockTick (h : P s) : P (clockTick s) := by
  have hfired := foldl_keeps (fun _ i hs => hP.fireIfDue i hs) (List.finRange 6) _
    (hP.calls (s := s) { s.calls with remaining := s.calls.remaining - 1, clock := afterS s 1 } rfl rfl h)
  have hended {u : State} (hu : P u) : P (intervalEnds u) := hP.calls _ rfl rfl (hP.record.record _ _ _ _ hu)
  exact hP.settle (ite_keeps (hended hfired) hfired)

theorem ops : SequencerOps P where
  takeCallDone f h := ite_keeps (hP.unitAnswers _ _ h) h
  startCallOwner args h := by
    unfold startCallOwner
    split
    next => exact h
    next e p htests =>
      obtain ⟨hfree, hadmit⟩ := startCallTests_ok htests
      exact hP.settle (hP.admitCall e p _ _ hfree hadmit h)
  cancelCallOwner args h := by
    unfold cancelCallOwner
    split
    next => exact h
    next =>
      split
      next => exact h
      next => exact hP.shrink h (shrinks_endCall _ _ _)
  extendIntervalOwner args h := by
    unfold extendIntervalOwner
    split
    next => exact h
    next => exact hP.calls _ rfl rfl h
  timedStepEnds kind e h := by
    unfold timedStepEnds
    split
    next => exact hP.stepEnds e h
    next => exact h
  messageLimit e h := by
    unfold messageLimit
    split
    next => exact h
    next => exact hP.stepEnds e (foldl_keeps (fun _ _ hx => hP.record.record _ _ _ _ hx) _ _ h)
  flashTurn e h := hP.flashTurn e h
  deadlineOut e h := by
    unfold deadlineOut
    split
    next => exact ite_keeps (hP.settle (hP.shrink h (shrinks_endCall _ _ _))) h
    next => exact h
  clockTick h := hP.clockTick h

end SequencerLaw

end Sys2Proof.Machine
end


section
/-! Every step keeps the law of the areas and the law of the pending list (R142, R146, R149): as laws of the calls. -/

namespace Sys2Proof.Machine

/-! ### The areas -/

/-- An area is held by at most one call. -/
def Exclusive (s : State) : Prop := ∀ (d e : EntryId) (x y : Call) (a : AreaId), callAt s d = some x → callAt s e = some y →
  hasArea x.held a = true → hasArea y.held a = true → d = e

/-- A PENDING call but that of one entry holds no area and is an ordinary one; an area is held by at most one call. -/
structure HolderStarting (w : EntryId) (s : State) : Prop where
  waiting : ∀ e c, e ≠ w → callAt s e = some c → c.running = false → c.held = 0 ∧ 2 ≤ e.val
  exclusive : Exclusive s

/-- The call just placed holds nothing. -/
def HolderPlaced (w : EntryId) (s : State) : Prop := HolderStarting w s ∧ CallHas w Call.held 0 s

theorem eq_zero_of_noArea {x : AreaSet} (h : ∀ a : AreaId, hasArea x a = false) : x = 0 :=
  BitVec.eq_of_getLsbD_eq fun i hi => (h ⟨i, hi⟩).trans (BitVec.getLsbD_zero).symm

theorem Later.held_zero {c d : Call} (h : Later c d) (hc : c.held = 0) : d.held = 0 :=
  eq_zero_of_noArea fun a => Bool.eq_false_iff.mpr fun ha => by
    have hold := h.held a ha
    rw [hc, hasArea_zero] at hold
    cases hold

theorem exclusive_shrinks {s t : State} (h : Exclusive s) (hst : Shrinks s t) : Exclusive t := by
  intro d e x y a hx hy hxa hya
  obtain ⟨x', hx', hxl⟩ := hst.some hx
  obtain ⟨y', hy', hyl⟩ := hst.some hy
  exact h d e x' y' a hx' hy' (hxl.held a hxa) (hyl.held a hya)

theorem waiting_shrinks {s t : State} {e : EntryId} {c : Call} (hst : Shrinks s t) (hc : callAt t e = some c)
    (hrun : c.running = false)
    (h : ∀ c, callAt s e = some c → c.running = false → c.held = 0 ∧ 2 ≤ e.val) : c.held = 0 ∧ 2 ≤ e.val := by
  obtain ⟨d, hd, hlater⟩ := hst.some hc
  obtain ⟨hheld, he⟩ := h d hd (hlater.running ▸ hrun)
  exact ⟨hlater.held_zero hheld, he⟩

theorem holderLaw_iff (s : State) : HolderLaw s.calls ↔
    (∀ e c, callAt s e = some c → c.running = false → c.held = 0 ∧ 2 ≤ e.val) ∧ Exclusive s := Iff.rfl

theorem holderLaw_shrinks {s t : State} (h : HolderLaw s.calls) (hst : Shrinks s t) : HolderLaw t.calls :=
  ⟨fun e _ hc hrun => waiting_shrinks hst hc hrun (h.1 e), exclusive_shrinks h.2 hst⟩

theorem holderStarting_shrinks {w : EntryId} {s t : State} (h : HolderStarting w s) (hst : Shrinks s t) :
    HolderStarting w t :=
  ⟨fun e _ he hc hrun => waiting_shrinks hst hc hrun fun d => h.waiting e d he, exclusive_shrinks h.exclusive hst⟩

theorem holderPlaced_shrinks {w : EntryId} {s t : State} (h : HolderPlaced w s) (hst : Shrinks s t) :
    HolderPlaced w t := by
  refine ⟨holderStarting_shrinks h.1 hst, fun c hc => ?_⟩
  obtain ⟨d, hd, hlater⟩ := hst.some hc
  exact hlater.held_zero (h.2 d hd)

theorem holderStarting_of_law {s : State} (w : EntryId) (h : HolderLaw s.calls) : HolderStarting w s :=
  ⟨fun e c _ => h.1 e c, h.2⟩

/-- The law holds where the call of the entry runs, or is not there. -/
theorem holderLaw_of_starting {s : State} {w : EntryId} (h : HolderStarting w s) (hw : CallHas w Call.running true s) :
    HolderLaw s.calls := by
  refine ⟨fun e c hc hrun => ?_, h.exclusive⟩
  by_cases he : e = w
  · subst he
    exact nomatch hrun.symm.trans (hw c hc)
  · exact h.waiting e c he hc hrun

/-- A call replaced by one that runs as it did and holds what it did. -/
theorem holderStarting_putCall {s : State} {w : EntryId} {c d : Call} (hc : callAt s w = some c) (hheld : d.held = c.held)
    (h : HolderStarting w s) : HolderStarting w (putCall w (some d) s) := by
  have hcall (e : EntryId) (x : Call) (hx : callAt (putCall w (some d) s) e = some x) :
      ∃ y, callAt s e = some y ∧ x.held = y.held := by
    by_cases he : e = w
    · subst he
      rw [callAt_putCall_same] at hx
      exact ⟨c, hc, Option.some.inj hx ▸ hheld⟩
    · exact ⟨x, callAt_putCall_other (some d) s he ▸ hx, rfl⟩
  refine ⟨fun e x he hx => h.waiting e x he (callAt_putCall_other (some d) s he ▸ hx), fun e f x y a hx hy hxa hya => ?_⟩
  obtain ⟨x', hx', hxe⟩ := hcall e x hx
  obtain ⟨y', hy', hye⟩ := hcall f y hy
  exact h.exclusive e f x' y' a hx' hy' (hxe ▸ hxa) (hye ▸ hya)

/-! ### An area taken -/

/-- No call but that of one entry holds an area. -/
def OthersLack (w : EntryId) (a : AreaId) (s : State) : Prop :=
  ∀ e c, e ≠ w → callAt s e = some c → hasArea c.held a = false

theorem othersLack_shrinks {w : EntryId} {a : AreaId} {s t : State} (h : OthersLack w a s) (hst : Shrinks s t) :
    OthersLack w a t := fun e c he hc => by
  obtain ⟨d, hd, hlater⟩ := hst.some hc
  exact Bool.eq_false_iff.mpr fun ha => Bool.eq_false_iff.mp (h e d he hd) (hlater.held a ha)

theorem othersLack_takeArea {w : EntryId} {a : AreaId} {s : State} (h : OthersLack w a s) : OthersLack w a (takeArea w a s) :=
  fun e c he hc => h e c he (callAt_takeArea_other a he ▸ hc)

theorem holderStarting_takeArea {w : EntryId} {a : AreaId} {s : State} (h : HolderStarting w s) (hlack : OthersLack w a s) :
    HolderStarting w (takeArea w a s) := by
  cases hw : callAt s w with
  | none => rw [takeArea_of_none hw]; exact h
  | some c =>
    have hcall (e : EntryId) (x : Call) (b : AreaId) (hx : callAt (takeArea w a s) e = some x) (hb : hasArea x.held b = true) :
        (e = w ∧ b = a) ∨ ∃ y, callAt s e = some y ∧ hasArea y.held b = true := by
      by_cases he : e = w
      · subst he
        rw [takeArea_of_some hw, callAt_putCall_same] at hx
        obtain rfl := Option.some.inj hx
        rw [hasArea_or, hasArea_oneArea, Bool.or_eq_true, decide_eq_true_eq] at hb
        exact hb.elim (fun hb => .inr ⟨c, hw, hb⟩) fun hb => .inl ⟨rfl, hb⟩
      · exact .inr ⟨x, callAt_takeArea_other a he ▸ hx, hb⟩
    have hnone (e : EntryId) (x : Call) (hx : callAt s e = some x) (hb : hasArea x.held a = true) : e = w := by
      by_contra he
      exact Bool.eq_false_iff.mp (hlack e x he hx) hb
    refine ⟨fun e x he hx => h.waiting e x he (callAt_takeArea_other a he ▸ hx), fun d e x y b hx hy hxb hyb => ?_⟩
    rcases hcall d x b hx hxb with ⟨rfl, rfl⟩ | ⟨x', hx', hxb'⟩
    · rcases hcall e y b hy hyb with ⟨rfl, -⟩ | ⟨y', hy', hyb'⟩
      · rfl
      · exact (hnone e y' hy' hyb').symm
    · rcases hcall e y b hy hyb with ⟨rfl, rfl⟩ | ⟨y', hy', hyb'⟩
      · exact hnone d x' hx' hxb'
      · exact h.exclusive d e x' y' b hx' hy' hxb' hyb'

/-- Where the holder of an area has lost it, no call but the one that starts holds it. -/
theorem othersLack_of_free {w : EntryId} {a : AreaId} {s : State} (h : HolderStarting w s)
    (hfree : holderOf s.calls a = none) : OthersLack w a s := fun e c he hc => by
  cases hrun : c.running with
  | true => exact holderOf_none hfree hc hrun
  | false => rw [(h.waiting e c he hc hrun).1, hasArea_zero]

theorem othersLack_of_self {w : EntryId} {a : AreaId} {s : State} (h : HolderStarting w s)
    (hself : holderOf s.calls a = some w) : OthersLack w a s := fun e c he hc => by
  obtain ⟨x, hx, -, hxa⟩ := holderOf_some hself
  exact Bool.eq_false_iff.mpr fun ha => he (h.exclusive e w c x a hc hx ha hxa)

theorem othersLack_areaLost {w l : EntryId} {c : Call} {a : AreaId} {s : State} (h : HolderStarting w s)
    (hc : callAt s l = some c) (ha : hasArea c.held a = true) : OthersLack w a (areaLost l c a s) := fun e d _ hd => by
  by_cases hel : e = l
  · exact callAt_areaLost (hel ▸ hd)
  · obtain ⟨x, hx, hlater⟩ := (shrinks_areaLost a hc).some hd
    exact Bool.eq_false_iff.mpr fun hda => hel (h.exclusive e l x c a hx hc (hlater.held a hda) ha)

theorem holderStarting_seizeArea {w : EntryId} {a : AreaId} {s : State} (h : HolderStarting w s) :
    HolderStarting w (seizeArea w s a) := by
  refine (seizeArea_rule (Q := fun s => HolderStarting w s ∧ OthersLack w a s)
    (fun h hst => ⟨holderStarting_shrinks h.1 hst, othersLack_shrinks h.2 hst⟩)
    (fun h => ⟨holderStarting_takeArea h.1 h.2, othersLack_takeArea h.2⟩)
    (fun hfree => ⟨h, othersLack_of_free h hfree⟩) (fun hself => ⟨h, othersLack_of_self h hself⟩)
    fun l c hl _ hc => ⟨holderStarting_shrinks h (shrinks_areaLost a hc), ?_⟩).1
  obtain ⟨d, hd, -, hda⟩ := holderOf_some hl
  obtain rfl := Option.some.inj (hc.symm.trans hd)
  exact othersLack_areaLost h hc hda

/-- The evacuation call takes an area it did not ask for before (R158). -/
theorem holderLaw_grow {s : State} {c : Call} (a : AreaId) (h : HolderLaw s.calls) (hc : callAt s 0 = some c) :
    HolderLaw (seizeArea 0 (putCall 0 (some { c with requested := c.requested ||| oneArea a }) s) a).calls := by
  have hrun : c.running = true := by
    by_contra hwait
    exact absurd (h.1 0 c hc (Bool.eq_false_iff.mpr hwait)).2 (by decide)
  have hput : CallHas 0 Call.running true (putCall 0 (some { c with requested := c.requested ||| oneArea a }) s) :=
    fun d hd => by rw [← Option.some.inj ((callAt_putCall_same 0 _ s).symm.trans hd)]; exact hrun
  exact holderLaw_of_starting
    (holderStarting_seizeArea (holderStarting_putCall hc (by rfl) (holderStarting_of_law 0 h)))
    (callHas_seizeArea Later.running (fun _ _ => rfl) hput)

theorem callAt_leavesList (d e : EntryId) (c : Call) (s : State) :
    callAt (leavesList e c s) d = callAt (putCall e (some { c with deadline := none }) s) d := rfl

theorem holderPlaced_placeCall {s : State} {e : EntryId} (p : ProgramId) (o : Origin) (areas : AreaSet)
    (h : HolderLaw s.calls) : HolderPlaced e (placeCall e p o areas s) := by
  have hnew := callAt_placeCall_same e p o areas s
  have hholds (d : EntryId) (x : Call) (a : AreaId) (hx : callAt (placeCall e p o areas s) d = some x)
      (ha : hasArea x.held a = true) : callAt s d = some x := by
    by_cases hd : d = e
    · subst hd
      obtain rfl := Option.some.inj (hnew.symm.trans hx)
      exact nomatch (hasArea_zero a).symm.trans ha
    · rwa [callAt_placeCall_other p o areas s hd] at hx
  refine ⟨⟨fun d x hd hx => h.1 d x ((callAt_placeCall_other p o areas s hd).symm.trans hx), fun d f x y a hx hy hxa hya => ?_⟩,
    fun c hc => ?_⟩
  · exact h.2 d f x y a (hholds d x a hx hxa) (hholds f y a hy hya) hxa hya
  · obtain rfl := Option.some.inj (hnew.symm.trans hc)
    rfl

theorem callAt_joinPending_other {d e : EntryId} (priority n : Nat) (s : State) (hd : d ≠ e) :
    callAt (joinPending e priority n s) d = callAt s d := by
  unfold joinPending
  split
  · rfl
  · exact callAt_putCall_other _ s hd

theorem callAt_joinPending_same {e : EntryId} {c : Call} (priority n : Nat) {s : State} (hc : callAt s e = some c) :
    callAt (joinPending e priority n s) e = some { c with deadline := afterS s n } := by
  unfold joinPending
  rw [hc]
  exact callAt_putCall_same _ _ _

theorem joinPending_of_none {e : EntryId} (priority n : Nat) {s : State} (hc : callAt s e = none) :
    joinPending e priority n s = s := by rw [joinPending, hc]

/-- A call of the list after a join is one of before, but for the deadline. -/
theorem callAt_joinPending {d e : EntryId} {x : Call} {priority n : Nat} {s : State}
    (hx : callAt (joinPending e priority n s) d = some x) :
    ∃ y, callAt s d = some y ∧ x.running = y.running ∧ x.held = y.held ∧ x.requested = y.requested
      ∧ x.priority = y.priority := by
  by_cases hd : d = e
  · subst hd
    cases hc : callAt s d with
    | none =>
      rw [joinPending_of_none priority n hc, hc] at hx
      cases hx
    | some c =>
      rw [callAt_joinPending_same priority n hc] at hx
      obtain rfl := Option.some.inj hx
      exact ⟨c, rfl, rfl, rfl, rfl, rfl⟩
  · rw [callAt_joinPending_other priority n s hd] at hx
    exact ⟨x, hx, rfl, rfl, rfl, rfl⟩

theorem holderLaw_joinPending {s : State} {e : EntryId} (priority n : Nat) (he : 2 ≤ e.val) (h : HolderPlaced e s) :
    HolderLaw (joinPending e priority n s).calls := by
  obtain ⟨hstart, hnew⟩ := h
  refine ⟨fun d x hx hrun => ?_, fun d f x y a hx hy hxa hya => ?_⟩
  · obtain ⟨y, hy, hyrun, hyheld, -, -⟩ := callAt_joinPending (d := d) hx
    rw [hyheld]
    by_cases hd : d = e
    · subst hd
      exact ⟨hnew y hy, he⟩
    · exact hstart.waiting d y hd hy (hyrun ▸ hrun)
  · obtain ⟨x', hx', -, hxheld, -, -⟩ := callAt_joinPending (d := d) hx
    obtain ⟨y', hy', -, hyheld, -, -⟩ := callAt_joinPending (d := f) hy
    exact hstart.exclusive d f x' y' a hx' hy' (hxheld ▸ hxa) (hyheld ▸ hya)

theorem shrinks_clearAreas (e : EntryId) (priority : Nat) (areas : AreaSet) (s : State) :
    Shrinks s ((areasOf areas).foldl (clearArea e priority) s) := shrinks_foldl (fun s a => shrinks_clearArea e priority a s) _ s

theorem sequencerLaw_holder : SequencerLaw (fun s => HolderLaw s.calls) HolderPlaced HolderStarting where
  shrink h hst := holderLaw_shrinks h hst
  placedShrink _ h hst := holderPlaced_shrinks h hst
  place _ p o areas h _ _ := holderPlaced_placeCall p o areas h
  placeOrdinary _ p o areas h _ _ := holderPlaced_placeCall p o areas h
  placedGone _ h hnone := holderLaw_of_starting h.1 fun _ hc => nomatch hnone.symm.trans hc
  placedStarts _ _ h _ _ := h.1
  alarmStarts _ h _ := h.1
  examined e c h hc _ _ :=
    have hput := holderStarting_putCall (d := { c with deadline := none }) hc rfl (holderStarting_of_law e h)
    ⟨hput.waiting, hput.exclusive⟩
  seize _ _ h _ := holderStarting_seizeArea h
  startGone _ h hnone := holderLaw_of_starting h fun _ hc => nomatch hnone.symm.trans hc
  run e c h hc :=
    holderLaw_of_starting (holderStarting_putCall (d := { moveCursor c 0 with running := true }) hc rfl h)
      fun d hd => by rw [← Option.some.inj ((callAt_putCall_same e _ _).symm.trans hd)]
  join e priority n areas h he _ :=
    holderLaw_joinPending priority n he (holderPlaced_shrinks h (shrinks_clearAreas e priority areas _))
  grow _ a h hc := holderLaw_grow a h hc

/-! ### The pending list -/

/-- The call of an entry is PENDING. -/
def IsPending (s : State) (e : EntryId) : Prop := ∃ c, callAt s e = some c ∧ c.running = false

/-- The pending list holds the entries of the PENDING calls, but for one entry, which it does not hold. -/
structure PendingStarting (w : EntryId) (s : State) : Prop where
  listed : ∀ e, e ≠ w → (e ∈ s.calls.pendingList ↔ IsPending s e)
  absent : w ∉ s.calls.pendingList

/-- The call just placed waits. -/
def PendingPlaced (w : EntryId) (s : State) : Prop := PendingStarting w s ∧ CallHas w Call.running false s

theorem pendingLaw_iff (s : State) : PendingLaw s.calls ↔ ∀ e, e ∈ s.calls.pendingList ↔ IsPending s e := Iff.rfl

/-- Of two states, the listed entry in one is PENDING there exactly where it was in the other. -/
theorem listed_shrinks {s t : State} {e : EntryId} (hst : Shrinks s t) (h : e ∈ s.calls.pendingList ↔ IsPending s e) :
    e ∈ t.calls.pendingList ↔ IsPending t e := by
  obtain ⟨ended, hby⟩ := hst.calls
  rw [hby.list, List.mem_filter, h]
  cases hended : ended e with
  | true =>
    have hgone : callAt t e = none := hby.gone e hended
    simp [IsPending, hgone]
  | false =>
    have hkept : Option.Rel Later (callAt s e) (callAt t e) := hby.kept e hended
    rw [Bool.not_false, and_iff_left rfl]
    constructor
    · rintro ⟨c, hc, hrun⟩
      rw [hc] at hkept
      cases ht : callAt t e with
      | none => rw [ht] at hkept; cases hkept
      | some d =>
        rw [ht] at hkept
        cases hkept with
        | some hlater => exact ⟨d, ht, hlater.running.trans hrun⟩
    · rintro ⟨d, hd, hrun⟩
      obtain ⟨c, hc, hlater⟩ := hst.some hd
      exact ⟨c, hc, hlater.running ▸ hrun⟩

theorem mem_list_of_shrinks {s t : State} {e : EntryId} (hst : Shrinks s t) (h : e ∈ t.calls.pendingList) :
    e ∈ s.calls.pendingList := by
  obtain ⟨ended, hby⟩ := hst.calls
  rw [hby.list] at h
  exact (List.mem_filter.mp h).1

theorem pendingStarting_shrinks {w : EntryId} {s t : State} (h : PendingStarting w s) (hst : Shrinks s t) :
    PendingStarting w t :=
  ⟨fun e he => listed_shrinks hst (h.listed e he), fun hw => h.absent (mem_list_of_shrinks hst hw)⟩

theorem isPending_congr {s t : State} {e : EntryId} (h : callAt t e = callAt s e) : IsPending t e ↔ IsPending s e := by
  rw [IsPending, h, IsPending]

/-- A call replaced by one that runs or waits as it did. -/
theorem isPending_putCall {s : State} {w : EntryId} {c d : Call} (hc : callAt s w = some c) (hrun : d.running = c.running)
    (e : EntryId) : IsPending (putCall w (some d) s) e ↔ IsPending s e := by
  by_cases he : e = w
  · subst he
    rw [IsPending, callAt_putCall_same, IsPending, hc]
    exact ⟨fun ⟨x, hx, hxr⟩ => ⟨c, rfl, hrun ▸ Option.some.inj hx ▸ hxr⟩,
      fun ⟨x, hx, hxr⟩ => ⟨d, rfl, hrun ▸ Option.some.inj hx ▸ hxr⟩⟩
  · exact isPending_congr (callAt_putCall_other _ _ he)

theorem isPending_takeArea (w : EntryId) (a : AreaId) (s : State) (e : EntryId) :
    IsPending (takeArea w a s) e ↔ IsPending s e := by
  cases hc : callAt s w with
  | none => rw [takeArea_of_none hc]
  | some c => rw [takeArea_of_some hc]; exact isPending_putCall hc (by rfl) e

theorem takeArea_list (w : EntryId) (a : AreaId) (s : State) :
    (takeArea w a s).calls.pendingList = s.calls.pendingList := by
  unfold takeArea
  split <;> rfl

theorem pendingLaw_takeArea {w : EntryId} {a : AreaId} {s : State} (h : PendingLaw s.calls) :
    PendingLaw (takeArea w a s).calls := fun e => by
  rw [takeArea_list]
  exact (h e).trans (isPending_takeArea w a s e).symm

theorem pendingStarting_takeArea {v w : EntryId} {a : AreaId} {s : State} (h : PendingStarting w s) :
    PendingStarting w (takeArea v a s) :=
  ⟨fun e he => by rw [takeArea_list, h.listed e he, isPending_takeArea], by rw [takeArea_list]; exact h.absent⟩

theorem pendingStarting_seizeArea {w : EntryId} {a : AreaId} {s : State} (h : PendingStarting w s) :
    PendingStarting w (seizeArea w s a) :=
  seizeArea_rule (Q := PendingStarting w) pendingStarting_shrinks pendingStarting_takeArea (fun _ => h) (fun _ => h)
    fun _ _ _ _ hc => pendingStarting_shrinks h (shrinks_areaLost a hc)

theorem pendingLaw_shrinks {s t : State} (h : PendingLaw s.calls) (hst : Shrinks s t) : PendingLaw t.calls :=
  fun e => listed_shrinks hst (h e)

theorem pendingLaw_grow {s : State} {c : Call} (a : AreaId) (h : PendingLaw s.calls) (hc : callAt s 0 = some c) :
    PendingLaw (seizeArea 0 (putCall 0 (some { c with requested := c.requested ||| oneArea a }) s) a).calls := by
  have hput : PendingLaw (putCall 0 (some { c with requested := c.requested ||| oneArea a }) s).calls :=
    fun e => (h e).trans (isPending_putCall hc (by rfl) e).symm
  exact seizeArea_rule (Q := fun s => PendingLaw s.calls) pendingLaw_shrinks pendingLaw_takeArea (fun _ => hput)
    (fun _ => hput) fun _ _ _ _ hc => pendingLaw_shrinks hput (shrinks_areaLost a hc)

/-- The law holds where the call of the entry runs, or is not there. -/
theorem pendingLaw_of_starting {s : State} {w : EntryId} (h : PendingStarting w s) (hw : CallHas w Call.running true s) :
    PendingLaw s.calls := by
  intro e
  by_cases he : e = w
  · subst he
    exact ⟨fun hmem => absurd hmem h.absent, fun ⟨c, hc, hrun⟩ => nomatch (hw c hc).symm.trans hrun⟩
  · exact h.listed e he

theorem pendingPlaced_placeCall {s : State} {e : EntryId} (p : ProgramId) (o : Origin) (areas : AreaSet)
    (hfree : callAt s e = none) (h : PendingLaw s.calls) : PendingPlaced e (placeCall e p o areas s) := by
  have hlist : (placeCall e p o areas s).calls.pendingList = s.calls.pendingList := rfl
  refine ⟨⟨fun d hd => ?_, fun hmem => ?_⟩, fun c hc => ?_⟩
  · rw [hlist, isPending_congr (callAt_placeCall_other p o areas s hd)]
    exact h d
  · rw [hlist] at hmem
    obtain ⟨c, hc, -⟩ := (h e).mp hmem
    exact nomatch hfree.symm.trans hc
  · rw [← Option.some.inj ((callAt_placeCall_same e p o areas s).symm.trans hc)]
    rfl

theorem list_joinPending {s : State} {e : EntryId} {c : Call} (priority n : Nat) (hc : callAt s e = some c) :
    (joinPending e priority n s).calls.pendingList
      = s.calls.pendingList.takeWhile (fun x => decide (priorityAt s x ≤ priority)) ++ [e]
        ++ s.calls.pendingList.dropWhile (fun x => decide (priorityAt s x ≤ priority)) := by
  unfold joinPending
  rw [hc]
  rfl

theorem mem_joinPending {s : State} {e : EntryId} {c : Call} (priority n : Nat) (hc : callAt s e = some c) (d : EntryId) :
    d ∈ (joinPending e priority n s).calls.pendingList ↔ d = e ∨ d ∈ s.calls.pendingList := by
  have hsplit : d ∈ s.calls.pendingList ↔ d ∈ s.calls.pendingList.takeWhile (fun x => decide (priorityAt s x ≤ priority))
      ∨ d ∈ s.calls.pendingList.dropWhile (fun x => decide (priorityAt s x ≤ priority)) := by
    rw [← List.mem_append, List.takeWhile_append_dropWhile]
  rw [list_joinPending priority n hc, List.mem_append, List.mem_append, List.mem_singleton, hsplit]
  tauto

theorem pendingLaw_joinPending {s : State} {e : EntryId} (priority n : Nat) (h : PendingPlaced e s) :
    PendingLaw (joinPending e priority n s).calls := by
  obtain ⟨hstart, hnew⟩ := h
  cases hc : callAt s e with
  | none =>
    rw [joinPending_of_none priority n hc]
    exact pendingLaw_of_starting hstart fun _ hd => nomatch hc.symm.trans hd
  | some c =>
    intro d
    rw [mem_joinPending priority n hc]
    by_cases hd : d = e
    · subst hd
      exact ⟨fun _ => ⟨_, callAt_joinPending_same priority n hc, hnew c hc⟩, fun _ => .inl rfl⟩
    · rw [or_iff_right hd, hstart.listed d hd]
      exact (isPending_congr (callAt_joinPending_other priority n s hd)).symm

theorem pendingStarting_leavesList {s : State} {e : EntryId} (c : Call)
    (h : PendingLaw s.calls) : PendingStarting e (leavesList e c s) := by
  refine ⟨fun d hd => ?_, by simp [leavesList]⟩
  have hlist : d ∈ (leavesList e c s).calls.pendingList ↔ d ∈ s.calls.pendingList := by
    simp [leavesList, putCall, hd]
  rw [hlist, isPending_congr ((callAt_leavesList d e c s).trans (callAt_putCall_other _ s hd))]
  exact h d

theorem sequencerLaw_pending : SequencerLaw (fun s => PendingLaw s.calls) PendingPlaced PendingStarting where
  shrink h hst := pendingLaw_shrinks h hst
  placedShrink _ h hst := ⟨pendingStarting_shrinks h.1 hst, callHas_shrinks Later.running h.2 hst⟩
  place _ p o areas h hfree _ := pendingPlaced_placeCall p o areas hfree h
  placeOrdinary _ p o areas h hfree _ := pendingPlaced_placeCall p o areas hfree h
  placedGone _ h hnone := pendingLaw_of_starting h.1 fun _ hc => nomatch hnone.symm.trans hc
  placedStarts _ _ h _ _ := h.1
  alarmStarts _ h _ := h.1
  examined _ c h _ _ _ := pendingStarting_leavesList c h
  seize _ _ h _ := pendingStarting_seizeArea h
  startGone _ h hnone := pendingLaw_of_starting h fun _ hc => nomatch hnone.symm.trans hc
  run {s} e c h hc := by
    have hput : PendingStarting e (putCall e (some { moveCursor c 0 with running := true }) s) :=
      ⟨fun d hd => (h.listed d hd).trans (isPending_congr (callAt_putCall_other _ s hd)).symm, h.absent⟩
    exact pendingLaw_of_starting hput
      fun d hd => by rw [← Option.some.inj ((callAt_putCall_same e _ _).symm.trans hd)]
  join e priority n areas h _ _ :=
    have hst := shrinks_clearAreas e priority areas _
    pendingLaw_joinPending priority n ⟨pendingStarting_shrinks h.1 hst, callHas_shrinks Later.running h.2 hst⟩
  grow _ a h hc := pendingLaw_grow a h hc

end Sys2Proof.Machine
end


section
/-! The law of the waiting calls (R139, R142, R146) as a law of the calls. -/

namespace Sys2Proof.Machine

/-! ### Lists in order -/

/-- In an ordered list a member is met before another, or does not come after it. -/
theorem mem_takeWhile_or {α : Type} [DecidableEq α] {r : α → α → Prop} {l : List α} {d e : α} (h : l.Pairwise r)
    (he : e ∈ l) (hd : d ∈ l) (hne : d ≠ e) : d ∈ l.takeWhile (fun x => x != e) ∨ r e d := by
  induction l with
  | nil => cases hd
  | cons x l ih =>
    obtain ⟨hx, hl⟩ := List.pairwise_cons.mp h
    by_cases hxe : x = e
    · subst hxe
      exact .inr (hx d ((List.mem_cons.mp hd).resolve_left hne))
    · rw [List.takeWhile_cons_of_pos (by simpa using hxe), List.mem_cons]
      rcases List.mem_cons.mp hd with rfl | hd
      · exact .inl (.inl rfl)
      · have he' := (List.mem_cons.mp he).resolve_left (Ne.symm hxe)
        exact (ih hl he' hd).imp_left .inr

theorem mem_dropWhile_le {α : Type} {f : α → Nat} {n : Nat} {l : List α} {x : α}
    (h : l.Pairwise fun a b => f a ≤ f b) (hx : x ∈ l.dropWhile fun a => decide (f a ≤ n)) : n ≤ f x := by
  induction l with
  | nil => cases hx
  | cons y l ih =>
    obtain ⟨hy, hl⟩ := List.pairwise_cons.mp h
    by_cases hyn : f y ≤ n
    · rw [List.dropWhile_cons_of_pos (by simpa using hyn)] at hx
      exact ih hl hx
    · rw [List.dropWhile_cons_of_neg (by simpa using hyn)] at hx
      rcases List.mem_cons.mp hx with rfl | hx
      · omega
      · have := hy x hx
        omega

/-- A member joined behind those that do not exceed it keeps a list in order. -/
theorem pairwise_join {α : Type} {f : α → Nat} {e : α} {l : List α} (h : l.Pairwise fun a b => f a ≤ f b) :
    (l.takeWhile (fun a => decide (f a ≤ f e)) ++ [e] ++ l.dropWhile fun a => decide (f a ≤ f e)).Pairwise
      fun a b => f a ≤ f b := by
  have hfront (x : α) (hx : x ∈ l.takeWhile fun a => decide (f a ≤ f e)) : f x ≤ f e := by
    simpa using List.mem_takeWhile_imp hx
  have hback (x : α) (hx : x ∈ l.dropWhile fun a => decide (f a ≤ f e)) : f e ≤ f x := mem_dropWhile_le h hx
  rw [List.append_assoc, List.pairwise_append, List.singleton_append, List.pairwise_cons]
  refine ⟨h.sublist (List.takeWhile_sublist _), ⟨hback, h.sublist (List.dropWhile_sublist _)⟩, fun x hx y hy => ?_⟩
  rcases List.mem_cons.mp hy with rfl | hy
  · exact hfront x hx
  · exact (hfront x hx).trans (hback y hy)

/-! ### The law, of the waiting calls of some entries -/

theorem priorityAt_some {s : State} {e : EntryId} {c : Call} (h : callAt s e = some c) : priorityAt s e = c.priority := by
  rw [priorityAt, h]

theorem priorityAt_none {s : State} {e : EntryId} (h : callAt s e = none) : priorityAt s e = 4 := by rw [priorityAt, h]

theorem priorityAt_congr {s t : State} {e : EntryId} (h : callAt t e = callAt s e) : priorityAt t e = priorityAt s e := by
  rw [priorityAt, h, priorityAt]

/-- Entries 0 and 1 hold the alarm's calls; the pending list is in order; and no PENDING call of some entries requests an
area that a lower call holds. -/
structure Waits (D : EntryId → Prop) (s : State) : Prop where
  classes : ∀ e c, callAt s e = some c → (e.val < 2 ↔ c.priority < 2)
  sorted : s.calls.pendingList.Pairwise fun d e => priorityAt s d ≤ priorityAt s e
  lower : ∀ d e x y a, D d → callAt s d = some x → callAt s e = some y → x.running = false →
    hasArea x.requested a = true → hasArea y.held a = true → y.priority ≤ x.priority

theorem waitingLaw_iff (s : State) : WaitingLaw s ↔ Waits (fun _ => True) s :=
  ⟨fun ⟨h1, h2, h3⟩ => ⟨h1, h2, fun d e x y a _ => h3 d e x y a⟩,
    fun h => ⟨h.classes, h.sorted, fun d e x y a => h.lower d e x y a trivial⟩⟩

theorem Waits.mono {D E : EntryId → Prop} {s : State} (h : Waits D s) (hED : ∀ e, E e → D e) : Waits E s :=
  ⟨h.classes, h.sorted, fun d e x y a hd => h.lower d e x y a (hED d hd)⟩

theorem waits_shrinks {D : EntryId → Prop} {s t : State} (h : Waits D s) (hst : Shrinks s t) : Waits D t := by
  refine ⟨fun e c hc => ?_, ?_, fun d e x y a hd hx hy hrun hreq hheld => ?_⟩
  · obtain ⟨x, hx, hlater⟩ := hst.some hc
    rw [hlater.priority]
    exact h.classes e x hx
  · obtain ⟨ended, hby⟩ := hst.calls
    have hprio (e : EntryId) (he : e ∈ s.calls.pendingList.filter fun e => !ended e) : priorityAt t e = priorityAt s e := by
      have hkept : Option.Rel Later (callAt s e) (callAt t e) :=
        hby.kept e (by simpa using (List.mem_filter.mp he).2)
      cases hold : callAt s e with
      | none =>
        rw [hold] at hkept
        rw [priorityAt_none hold, priorityAt_none (optionRel_none hkept)]
      | some c =>
        cases hnew : callAt t e with
        | none => rw [hold, hnew] at hkept; cases hkept
        | some d =>
          rw [hold, hnew] at hkept
          cases hkept with
          | some hlater => rw [priorityAt_some hold, priorityAt_some hnew, hlater.priority]
    rw [hby.list]
    refine (h.sorted.sublist List.filter_sublist).imp_of_mem fun hx hy hxy => ?_
    rwa [hprio _ hx, hprio _ hy]
  · obtain ⟨x', hx', hxl⟩ := hst.some hx
    obtain ⟨y', hy', hyl⟩ := hst.some hy
    rw [hxl.priority, hyl.priority]
    exact h.lower d e x' y' a hd hx' hy' (hxl.running ▸ hrun) (hxl.requested ▸ hreq) (hyl.held a hheld)

/-- The call of an entry does not stand behind a PENDING call that requests one of its areas. -/
def Foremost (w : EntryId) (s : State) : Prop := ∀ c a d x, callAt s w = some c → hasArea c.requested a = true → d ≠ w →
  callAt s d = some x → x.running = false → hasArea x.requested a = true → c.priority ≤ x.priority

theorem foremost_shrinks {w : EntryId} {s t : State} (h : Foremost w s) (hst : Shrinks s t) : Foremost w t := by
  intro c a d x hc ha hd hx hrun hxa
  obtain ⟨c', hc', hcl⟩ := hst.some hc
  obtain ⟨x', hx', hxl⟩ := hst.some hx
  rw [hcl.priority, hxl.priority]
  exact h c' a d x' hc' (hcl.requested ▸ ha) hd hx' (hxl.running ▸ hrun) (hxl.requested ▸ hxa)

/-! ### An area taken -/

/-- A call after an area is taken is one of before, and holds no more but that area where it is the taker. -/
theorem callAt_takeArea {w e : EntryId} {a : AreaId} {s : State} {x : Call} (hx : callAt (takeArea w a s) e = some x) :
    ∃ y, callAt s e = some y ∧ x.priority = y.priority ∧ x.requested = y.requested ∧ x.running = y.running
      ∧ ∀ b, hasArea x.held b = true → hasArea y.held b = true ∨ (e = w ∧ b = a) := by
  by_cases he : e = w
  · subst he
    cases hc : callAt s e with
    | none =>
      rw [takeArea_of_none hc, hc] at hx
      cases hx
    | some c =>
      rw [takeArea_of_some hc, callAt_putCall_same] at hx
      obtain rfl := Option.some.inj hx
      refine ⟨c, rfl, rfl, rfl, rfl, fun b hb => ?_⟩
      rw [hasArea_or, hasArea_oneArea, Bool.or_eq_true, decide_eq_true_eq] at hb
      exact hb.imp_right fun hb => ⟨rfl, hb⟩
  · exact ⟨x, callAt_takeArea_other a he ▸ hx, rfl, rfl, rfl, fun b hb => .inl hb⟩

theorem priorityAt_takeArea (w e : EntryId) (a : AreaId) (s : State) : priorityAt (takeArea w a s) e = priorityAt s e := by
  by_cases he : e = w
  · subst he
    cases hc : callAt s e with
    | none => rw [takeArea_of_none hc]
    | some c => rw [takeArea_of_some hc, priorityAt_some (callAt_putCall_same _ _ _), priorityAt_some hc]
  · exact priorityAt_congr (callAt_takeArea_other a he)

theorem foremost_takeArea {w v : EntryId} {a : AreaId} {s : State} (h : Foremost w s) : Foremost w (takeArea v a s) := by
  intro c b d x hc hb hd hx hrun hxb
  obtain ⟨c', hc', hcp, hcr, -, -⟩ := callAt_takeArea hc
  obtain ⟨x', hx', hxp, hxr, hxrun, -⟩ := callAt_takeArea hx
  rw [hcp, hxp]
  exact h c' b d x' hc' (hcr ▸ hb) hd hx' (hxrun ▸ hrun) (hxr ▸ hxb)

theorem waits_takeArea {w : EntryId} {a : AreaId} {s : State} (h : Waits (· ≠ w) s) (hfore : Foremost w s)
    (hasks : CallHas w (fun c => hasArea c.requested a) true s) : Waits (· ≠ w) (takeArea w a s) := by
  refine ⟨fun e c hc => ?_, ?_, fun d e x y b hd hx hy hrun hreq hheld => ?_⟩
  · obtain ⟨c', hc', hp, -⟩ := callAt_takeArea hc
    rw [hp]
    exact h.classes e c' hc'
  · rw [takeArea_list]
    exact h.sorted.imp fun hxy => by rwa [priorityAt_takeArea, priorityAt_takeArea]
  · obtain ⟨x', hx', hxp, hxr, hxrun, -⟩ := callAt_takeArea hx
    obtain ⟨y', hy', hyp, -, -, hyh⟩ := callAt_takeArea hy
    rw [hxp, hyp]
    rcases hyh b hheld with hyb | ⟨rfl, rfl⟩
    · exact h.lower d e x' y' b hd hx' hy' (hxrun ▸ hrun) (hxr ▸ hreq) hyb
    · exact hfore y' b d x' hy' (hasks y' hy') hd hx' (hxrun ▸ hrun) (hxr ▸ hreq)

theorem waits_seizeArea {w : EntryId} {a : AreaId} {s : State} (h : Waits (· ≠ w) s) (hfore : Foremost w s)
    (hasks : CallHas w (fun c => hasArea c.requested a) true s) :
    Waits (· ≠ w) (seizeArea w s a) ∧ Foremost w (seizeArea w s a) := by
  have hlater {c d : Call} (hcd : Later c d) : hasArea d.requested a = hasArea c.requested a := by rw [hcd.requested]
  have hshrink {s t : State}
      (h : Waits (· ≠ w) s ∧ Foremost w s ∧ CallHas w (fun c => hasArea c.requested a) true s) (hst : Shrinks s t) :
      Waits (· ≠ w) t ∧ Foremost w t ∧ CallHas w (fun c => hasArea c.requested a) true t :=
    ⟨waits_shrinks h.1 hst, foremost_shrinks h.2.1 hst, callHas_shrinks hlater h.2.2 hst⟩
  have hseized := seizeArea_rule
    (Q := fun s => Waits (· ≠ w) s ∧ Foremost w s ∧ CallHas w (fun c => hasArea c.requested a) true s)
    hshrink (fun h => ⟨waits_takeArea h.1 h.2.1 h.2.2, foremost_takeArea h.2.1, callHas_takeArea (fun _ _ => rfl) h.2.2⟩)
    (fun _ => ⟨h, hfore, hasks⟩) (fun _ => ⟨h, hfore, hasks⟩)
    fun _ _ _ _ hc => hshrink ⟨h, hfore, hasks⟩ (shrinks_areaLost a hc)
  exact ⟨hseized.1, hseized.2.1⟩

/-! ### A call placed and started -/

/-- A call replaced by one of the same priority. -/
theorem priorityAt_putCall {s : State} {w : EntryId} {c d : Call} (hc : callAt s w = some c) (hp : d.priority = c.priority)
    (e : EntryId) : priorityAt (putCall w (some d) s) e = priorityAt s e := by
  by_cases he : e = w
  · subst he
    rw [priorityAt_some (callAt_putCall_same _ _ _), priorityAt_some hc, hp]
  · exact priorityAt_congr (callAt_putCall_other _ _ he)

/-- A call replaced by one of the same priority that holds what it did; nothing is said of its own requests. -/
theorem waits_putCall {s : State} {w : EntryId} {c d : Call} (hc : callAt s w = some c) (hp : d.priority = c.priority)
    (hheld : d.held = c.held) (h : Waits (· ≠ w) s) : Waits (· ≠ w) (putCall w (some d) s) := by
  have hcall (e : EntryId) (x : Call) (hx : callAt (putCall w (some d) s) e = some x) :
      ∃ y, callAt s e = some y ∧ x.priority = y.priority ∧ x.held = y.held := by
    by_cases he : e = w
    · subst he
      rw [callAt_putCall_same] at hx
      obtain rfl := Option.some.inj hx
      exact ⟨c, hc, hp, hheld⟩
    · exact ⟨x, callAt_putCall_other (some d) s he ▸ hx, rfl, rfl⟩
  refine ⟨fun e x hx => ?_, ?_, fun f e x y a hf hx hy hrun hreq hxy => ?_⟩
  · obtain ⟨y, hy, hxp, -⟩ := hcall e x hx
    rw [hxp]
    exact h.classes e y hy
  · exact h.sorted.imp fun hxy => by rwa [priorityAt_putCall hc hp, priorityAt_putCall hc hp]
  · obtain ⟨y', hy', hyp, hyh⟩ := hcall e y hy
    rw [hyp]
    exact h.lower f e x y' a hf (callAt_putCall_other (some d) s hf ▸ hx) hy' hrun hreq (hyh ▸ hxy)

theorem waits_placeCall {s : State} {e : EntryId} {p : ProgramId} (o : Origin) (areas : AreaSet)
    (hclass : e.val < 2 ↔ s.tables.programs[p].cls.toNat < 2) (habsent : e ∉ s.calls.pendingList)
    (h : Waits (fun _ => True) s) : Waits (· ≠ e) (placeCall e p o areas s) := by
  have hnew := callAt_placeCall_same e p o areas s
  have hold (d : EntryId) (hd : d ≠ e) : callAt (placeCall e p o areas s) d = callAt s d :=
    callAt_placeCall_other p o areas s hd
  refine ⟨fun d x hx => ?_, ?_, fun d f x y a hd hx hy hrun hreq hheld => ?_⟩
  · by_cases hd : d = e
    · subst hd
      rw [← Option.some.inj (hnew.symm.trans hx)]
      exact hclass
    · exact h.classes d x (hold d hd ▸ hx)
  · have hlist : (placeCall e p o areas s).calls.pendingList = s.calls.pendingList := rfl
    rw [hlist]
    refine h.sorted.imp_of_mem fun hx hy hxy => ?_
    rwa [priorityAt_congr (hold _ fun he => habsent (he ▸ hx)), priorityAt_congr (hold _ fun he => habsent (he ▸ hy))]
  · by_cases hf : f = e
    · subst hf
      rw [← Option.some.inj (hnew.symm.trans hy)] at hheld
      exact nomatch (hasArea_zero a).symm.trans hheld
    · exact h.lower d f x y a trivial (hold d hd ▸ hx) (hold f hf ▸ hy) hrun hreq hheld

theorem areaBlocked_false {s : State} {n : Nat} {ahead : List EntryId} {a : AreaId} (h : areaBlocked s n ahead a = false)
    {d : EntryId} {x : Call} (hd : d ∈ ahead) (hx : callAt s d = some x) : hasArea x.requested a = false := by
  obtain ⟨-, hahead⟩ := Bool.or_eq_false_iff.mp h
  have hnot := List.any_eq_false.mp hahead d hd
  rw [hx] at hnot
  exact Bool.eq_false_iff.mpr hnot

/-- A call just placed that no call of its rank stands in the way of. -/
theorem foremost_of_placed {s : State} {e : EntryId} {c : Call} (hc : callAt s e = some c) (hlisted : PendingStarting e s)
    (hfree : ∀ a, hasArea c.requested a = true → areaBlocked s c.priority (aheadOfNew s c.priority) a = false) :
    Foremost e s := by
  intro c' a d x hc' ha hd hx hrun hxa
  obtain rfl := Option.some.inj (hc.symm.trans hc')
  by_contra hless
  have hahead : d ∈ aheadOfNew s c.priority := by
    refine List.mem_filter.mpr ⟨(hlisted.listed d hd).mpr ⟨x, hx, hrun⟩, ?_⟩
    rw [priorityAt_some hx]
    exact decide_eq_true (Nat.le_of_not_le hless)
  exact Bool.eq_false_iff.mp (areaBlocked_false (hfree a ha) hahead hx) hxa

/-- The calls of the Effect Unit stand before every PENDING call. -/
theorem foremost_of_alarm {s : State} {e : EntryId} (he : e.val < 2) (hholder : HolderStarting e s)
    (h : Waits (· ≠ e) s) : Foremost e s := by
  intro c a d x hc _ hd hx hrun _
  have hc2 := (h.classes e c hc).mp he
  have hd2 := (hholder.waiting d x hd hx hrun).2
  have hx2 : ¬ x.priority < 2 := fun hx2 => absurd ((h.classes d x hx).mpr hx2) (by omega)
  omega

/-- A call examined that no call before it in the list stands in the way of. -/
theorem foremost_of_examined {s : State} {e : EntryId} {c : Call} (hc : callAt s e = some c)
    (hpending : PendingLaw s.calls) (hlist : e ∈ s.calls.pendingList) (h : Waits (fun _ => True) s)
    (hfree : ∀ a, hasArea c.requested a = true →
      areaBlocked s c.priority (s.calls.pendingList.takeWhile fun x => x != e) a = false) : Foremost e s := by
  intro c' a d x hc' ha hd hx hrun hxa
  obtain rfl := Option.some.inj (hc.symm.trans hc')
  rcases mem_takeWhile_or h.sorted hlist ((hpending d).mpr ⟨x, hx, hrun⟩) hd with hahead | hle
  · exact absurd hxa (Bool.eq_false_iff.mp (areaBlocked_false (hfree a ha) hahead hx))
  · rwa [priorityAt_some hc, priorityAt_some hx] at hle

/-! ### A call left to wait -/

/-- No call below a rank holds an area. -/
def Cleared (n : Nat) (a : AreaId) (s : State) : Prop :=
  ∀ l y, callAt s l = some y → hasArea y.held a = true → y.priority ≤ n

theorem cleared_shrinks {n : Nat} {a : AreaId} {s t : State} (h : Cleared n a s) (hst : Shrinks s t) : Cleared n a t :=
  fun l y hy ha => by
    obtain ⟨x, hx, hlater⟩ := hst.some hy
    rw [hlater.priority]
    exact h l x hx (hlater.held a ha)

theorem cleared_of_lack {n : Nat} {e : EntryId} {a : AreaId} {s : State} (hlack : OthersLack e a s)
    (hnew : CallHas e Call.held 0 s) : Cleared n a s := fun l y hy ha => by
  by_cases hl : l = e
  · subst hl
    rw [hnew y hy, hasArea_zero] at ha
    cases ha
  · exact absurd ha (Bool.eq_false_iff.mp (hlack l y hl hy))

theorem cleared_clearArea {n : Nat} {e : EntryId} {a : AreaId} {s : State} (h : HolderPlaced e s) :
    Cleared n a (clearArea e n s a) := by
  obtain ⟨hstart, hnew⟩ := h
  unfold clearArea
  cases hholder : holderOf s.calls a with
  | none => exact cleared_of_lack (othersLack_of_free hstart hholder) hnew
  | some l =>
    obtain ⟨c, hc, -, hca⟩ := holderOf_some hholder
    have hle : l ≠ e := fun hle => by
      subst hle
      rw [hnew c hc, hasArea_zero] at hca
      cases hca
    dsimp only
    split
    next =>
      have hlost : Shrinks s (areaLost l c a s) := shrinks_areaLost a hc
      have hcleared : Cleared n a (markFreed (areaLost l c a s)) :=
        cleared_of_lack (othersLack_areaLost hstart hc hca)
          (holderPlaced_shrinks ⟨hstart, hnew⟩ (hlost.trans (shrinks_markFreed _))).2
      rw [preempt_of_holder false hholder hle hc]
      exact ite_keeps (P := Cleared n a) (cleared_shrinks hcleared (shrinks_endCall _ _ _)) hcleared
    next hlow =>
      intro f y hy ha
      obtain rfl := hstart.exclusive f l y c a hy hc ha hca
      rw [priorityAt_some hy] at hlow
      exact Nat.le_of_not_lt hlow

theorem cleared_clearAreas {n : Nat} {e : EntryId} (l : List AreaId) {s : State} (h : HolderPlaced e s) :
    ∀ a ∈ l, Cleared n a (l.foldl (clearArea e n) s) := by
  induction l generalizing s with
  | nil => exact fun _ h => nomatch h
  | cons b l ih =>
    have hnext := holderPlaced_shrinks h (shrinks_clearArea e n b s)
    intro a ha
    rcases List.mem_cons.mp ha with rfl | ha
    · exact cleared_shrinks (cleared_clearArea h) (shrinks_foldl (fun s a => shrinks_clearArea e n a s) l _)
    · exact ih hnext a ha

theorem priorityAt_joinPending (d e : EntryId) (priority n : Nat) (s : State) :
    priorityAt (joinPending e priority n s) d = priorityAt s d := by
  by_cases hd : d = e
  · subst hd
    cases hc : callAt s d with
    | none => rw [joinPending_of_none priority n hc]
    | some c => rw [priorityAt_some (callAt_joinPending_same priority n hc), priorityAt_some hc]
  · exact priorityAt_congr (callAt_joinPending_other priority n s hd)

theorem waits_joinPending {s : State} {e : EntryId} {priority : Nat} (n : Nat)
    (hcall : CallHas e Call.priority priority s)
    (hclear : ∀ c, callAt s e = some c → ∀ a, hasArea c.requested a = true → Cleared priority a s)
    (h : Waits (· ≠ e) s) : Waits (fun _ => True) (joinPending e priority n s) := by
  cases hc : callAt s e with
  | none =>
    rw [joinPending_of_none priority n hc]
    refine ⟨h.classes, h.sorted, fun d f x y a _ hx => h.lower d f x y a (fun hd => ?_) hx⟩
    exact nomatch (hd ▸ hx).symm.trans hc
  | some c =>
    have hprio : priorityAt s e = priority := (priorityAt_some hc).trans (hcall c hc)
    refine ⟨fun d x hx => ?_, ?_, fun d f x y a _ hx hy hrun hreq hheld => ?_⟩
    · obtain ⟨y, hy, -, -, -, hp⟩ := callAt_joinPending (d := d) hx
      rw [hp]
      exact h.classes d y hy
    · rw [list_joinPending priority n hc, ← hprio]
      exact (pairwise_join h.sorted).imp fun hxy => by
        rwa [priorityAt_joinPending, priorityAt_joinPending]
    · obtain ⟨x', hx', hxrun, -, hxr, hxp⟩ := callAt_joinPending (d := d) hx
      obtain ⟨y', hy', -, hyh, -, hyp⟩ := callAt_joinPending (d := f) hy
      rw [hxp, hyp]
      by_cases hd : d = e
      · subst hd
        rw [hcall x' hx']
        exact hclear x' hx' a (hxr ▸ hreq) f y' hy' (hyh ▸ hheld)
      · exact h.lower d f x' y' a hd hx' hy' (hxrun ▸ hrun) (hxr ▸ hreq) (hyh ▸ hheld)

/-! ### Together -/

/-- The laws of the tables, of the areas, of the list and of the waiting calls, but for a call that starts. -/
structure WaitingStarting (w : EntryId) (s : State) : Prop where
  tables : TablesLaw s
  holder : HolderStarting w s
  pending : PendingStarting w s
  waits : Waits (· ≠ w) s
  foremost : Foremost w s

/-- The same, of a call just placed. -/
structure WaitingPlaced (w : EntryId) (s : State) : Prop where
  tables : TablesLaw s
  holder : HolderPlaced w s
  pending : PendingPlaced w s
  waits : Waits (· ≠ w) s

/-- The laws of the tables, of the areas, of the list and of the waiting calls. -/
structure WaitingLawful (s : State) : Prop where
  tables : TablesLaw s
  holder : HolderLaw s.calls
  pending : PendingLaw s.calls
  waits : Waits (fun _ => True) s

theorem tablesLaw_congr {s t : State} (htables : t.tables = s.tables) (h : TablesLaw s) : TablesLaw t := by
  rwa [TablesLaw, htables]

theorem waitingLawful_of_starting {w : EntryId} {s : State} (h : WaitingStarting w s)
    (hw : CallHas w Call.running true s) : WaitingLawful s where
  tables := h.tables
  holder := holderLaw_of_starting h.holder hw
  pending := pendingLaw_of_starting h.pending hw
  waits := ⟨h.waits.classes, h.waits.sorted, fun d e x y a _ hx hy hrun =>
    h.waits.lower d e x y a (fun hd => nomatch hrun.symm.trans (hw x (hd ▸ hx))) hx hy hrun⟩

theorem waitingStarting_seizeArea {w : EntryId} {a : AreaId} {s : State} (h : WaitingStarting w s)
    (hasks : ∀ c, callAt s w = some c → hasArea c.requested a = true) : WaitingStarting w (seizeArea w s a) := by
  have hwaits := waits_seizeArea h.waits h.foremost hasks
  exact ⟨tablesLaw_congr (seizeArea_keeps (moveClosed_tables s.tables).toCallsClosed w a rfl) h.tables,
    holderStarting_seizeArea h.holder, pendingStarting_seizeArea h.pending, hwaits.1, hwaits.2⟩

theorem waitingPlaced_shrinks {w : EntryId} {s t : State} (h : WaitingPlaced w s) (hst : Shrinks s t) :
    WaitingPlaced w t where
  tables := tablesLaw_congr hst.tables h.tables
  holder := holderPlaced_shrinks h.holder hst
  pending := ⟨pendingStarting_shrinks h.pending.1 hst, callHas_shrinks Later.running h.pending.2 hst⟩
  waits := waits_shrinks h.waits hst

theorem class_of_alarm {s : State} {e : EntryId} {p : ProgramId} (htables : TablesLaw s) (h : AdmissibleAlarm s e p) :
    e.val < 2 ↔ s.tables.programs[p].cls.toNat < 2 := by
  obtain ⟨hstaff, hevac⟩ := valid_alarm_programs s.tables htables
  obtain ⟨he, hp | hp⟩ := h
  · rw [hevac p hp]
    exact iff_of_true he (by decide)
  · rw [hstaff p hp]
    exact iff_of_true he (by decide)

theorem class_of_ordinary {s : State} {e : EntryId} {p : ProgramId} (h : AdmissibleOrdinary s e p) :
    e.val < 2 ↔ s.tables.programs[p].cls.toNat < 2 := by
  obtain ⟨he, hclass, -⟩ := h
  omega

theorem waitingPlaced_placeCall {s : State} {e : EntryId} {p : ProgramId} (o : Origin) (areas : AreaSet)
    (hfree : callAt s e = none) (hclass : e.val < 2 ↔ s.tables.programs[p].cls.toNat < 2) (h : WaitingLawful s) :
    WaitingPlaced e (placeCall e p o areas s) := by
  have habsent : e ∉ s.calls.pendingList := fun hmem =>
    have ⟨_, hc, _⟩ := (h.pending e).mp hmem
    nomatch hfree.symm.trans hc
  exact ⟨h.tables, holderPlaced_placeCall p o areas h.holder, pendingPlaced_placeCall p o areas hfree h.pending,
    waits_placeCall o areas hclass habsent h.waits⟩

theorem waitingLawful_join {s : State} {e : EntryId} (priority n : Nat) (areas : AreaSet) (h : WaitingPlaced e s)
    (he : 2 ≤ e.val) (hcall : ∀ c, callAt s e = some c → c.priority = priority ∧ c.requested = areas) :
    WaitingLawful (joinPending e priority n ((areasOf areas).foldl (clearArea e priority) s)) := by
  have hst := shrinks_clearAreas e priority areas s
  have hnext := waitingPlaced_shrinks h hst
  have hprio : CallHas e Call.priority priority ((areasOf areas).foldl (clearArea e priority) s) :=
    callHas_shrinks Later.priority (fun c hc => (hcall c hc).1) hst
  have hasks : CallHas e Call.requested areas ((areasOf areas).foldl (clearArea e priority) s) :=
    callHas_shrinks Later.requested (fun c hc => (hcall c hc).2) hst
  exact ⟨tablesLaw_congr (joinPending_keeps (moveClosed_tables _).toCallsClosed e priority n rfl) hnext.tables,
    holderLaw_joinPending priority n he hnext.holder, pendingLaw_joinPending priority n hnext.pending,
    waits_joinPending n hprio (fun c hc a ha => cleared_clearAreas (areasOf areas) h.holder a
      (mem_areasOf.mpr (hasks c hc ▸ ha))) hnext.waits⟩

/-- A call examined leaves the list to start. -/
theorem waitingStarting_leavesList {s : State} {e : EntryId} {c : Call} (hc : callAt s e = some c)
    (hlist : e ∈ s.calls.pendingList) (h : WaitingLawful s) (hfree : ∀ a, hasArea c.requested a = true →
      areaBlocked s c.priority (s.calls.pendingList.takeWhile fun x => x != e) a = false) :
    WaitingStarting e (leavesList e c s) := by
  have hput : Shrinks s (putCall e (some { c with deadline := none }) s) :=
    shrinks_putCall hc ⟨rfl, rfl, rfl, fun _ h => h⟩
  have hholder := holderStarting_shrinks (holderStarting_of_law e h.holder) hput
  have hwaits := waits_shrinks (h.waits.mono fun _ _ => trivial : Waits (· ≠ e) s) hput
  have hfore := foremost_shrinks (foremost_of_examined hc h.pending hlist h.waits hfree) hput
  exact ⟨h.tables, ⟨hholder.waiting, hholder.exclusive⟩, pendingStarting_leavesList c h.pending,
    ⟨hwaits.classes, hwaits.sorted.sublist List.filter_sublist, hwaits.lower⟩, hfore⟩

theorem waitingLawful_grow {s : State} {c : Call} (a : AreaId) (h : WaitingLawful s) (hc : callAt s 0 = some c) :
    WaitingLawful (seizeArea 0 (putCall 0 (some { c with requested := c.requested ||| oneArea a }) s) a) := by
  have hrun : c.running = true := by
    by_contra hwait
    exact absurd (h.holder.1 0 c hc (Bool.eq_false_iff.mpr hwait)).2 (by decide)
  have hnew := callAt_putCall_same 0 (some { c with requested := c.requested ||| oneArea a }) s
  have hruns : CallHas 0 Call.running true (putCall 0 (some { c with requested := c.requested ||| oneArea a }) s) :=
    fun d hd => by rw [← Option.some.inj (hnew.symm.trans hd)]; exact hrun
  have hpending : PendingStarting 0 (putCall 0 (some { c with requested := c.requested ||| oneArea a }) s) := by
    refine ⟨fun e _ => (h.pending e).trans (isPending_putCall hc (by rfl) e).symm, fun hmem => ?_⟩
    obtain ⟨d, hd, hwait⟩ := (h.pending 0).mp hmem
    obtain rfl := Option.some.inj (hc.symm.trans hd)
    exact nomatch hrun.symm.trans hwait
  have hholder := holderStarting_putCall (d := { c with requested := c.requested ||| oneArea a }) hc rfl
    (holderStarting_of_law 0 h.holder)
  have hwaits := waits_putCall (d := { c with requested := c.requested ||| oneArea a }) hc rfl rfl
    (h.waits.mono fun _ _ => trivial)
  have hstart : WaitingStarting 0 (putCall 0 (some { c with requested := c.requested ||| oneArea a }) s) :=
    ⟨h.tables, hholder, hpending, hwaits, foremost_of_alarm (by decide) hholder hwaits⟩
  refine waitingLawful_of_starting (waitingStarting_seizeArea hstart fun d hd => ?_)
    (callHas_seizeArea Later.running (fun _ _ => rfl) hruns)
  rw [← Option.some.inj (hnew.symm.trans hd)]
  simp [hasArea_or, hasArea_oneArea]

theorem sequencerLaw_waiting : SequencerLaw WaitingLawful WaitingPlaced WaitingStarting where
  shrink h hst := ⟨tablesLaw_congr hst.tables h.tables, holderLaw_shrinks h.holder hst, pendingLaw_shrinks h.pending hst,
    waits_shrinks h.waits hst⟩
  placedShrink _ h hst := waitingPlaced_shrinks h hst
  place _ _ o areas h hfree hadmit := waitingPlaced_placeCall o areas hfree (class_of_alarm h.tables hadmit) h
  placeOrdinary _ _ o areas h hfree hadmit := waitingPlaced_placeCall o areas hfree (class_of_ordinary hadmit) h
  placedGone {s} e h hnone := by
    have hgone : CallHas e Call.running true s := fun c hc => nomatch hnone.symm.trans hc
    exact ⟨h.tables, holderLaw_of_starting h.holder.1 hgone, pendingLaw_of_starting h.pending.1 hgone,
      h.waits.classes, h.waits.sorted,
      fun d f x y a _ hx => h.waits.lower d f x y a (fun hd => nomatch (hd ▸ hx).symm.trans hnone) hx⟩
  placedStarts _ _ h hc hfree := ⟨h.tables, h.holder.1, h.pending.1, h.waits, foremost_of_placed hc h.pending.1 hfree⟩
  alarmStarts _ h he := ⟨h.tables, h.holder.1, h.pending.1, h.waits, foremost_of_alarm he h.holder.1 h.waits⟩
  examined _ _ h hc hlist hfree := waitingStarting_leavesList hc hlist h hfree
  seize _ _ h hasks := waitingStarting_seizeArea h hasks
  startGone _ h hnone := waitingLawful_of_starting h fun _ hc => nomatch hnone.symm.trans hc
  run {s} e c h hc := by
    have hnew := callAt_putCall_same e (some { moveCursor c 0 with running := true }) s
    have hruns : CallHas e Call.running true (putCall e (some { moveCursor c 0 with running := true }) s) :=
      fun d hd => by rw [← Option.some.inj (hnew.symm.trans hd)]
    have hpending : PendingStarting e (putCall e (some { moveCursor c 0 with running := true }) s) :=
      ⟨fun d hd => (h.pending.listed d hd).trans (isPending_congr (callAt_putCall_other _ s hd)).symm, h.pending.absent⟩
    have hholder := holderStarting_putCall (d := { moveCursor c 0 with running := true }) hc rfl h.holder
    have hwaits := waits_putCall (d := { moveCursor c 0 with running := true }) hc rfl rfl h.waits
    exact ⟨h.tables, holderLaw_of_starting hholder hruns, pendingLaw_of_starting hpending hruns, hwaits.classes,
      hwaits.sorted, fun d f x y a _ hx hy hrun => hwaits.lower d f x y a
        (fun hd => nomatch hrun.symm.trans (hruns x (hd ▸ hx))) hx hy hrun⟩
  join _ priority n areas h he hcall := waitingLawful_join priority n areas h he hcall
  grow _ a h hc := waitingLawful_grow a h hc

end Sys2Proof.Machine
end


section
/-! Every step keeps the laws of the areas, of the pending list, of the tables and of the waiting calls (R5, R25, R29, R139,
R142, R146, R149). -/

namespace Sys2Proof.Machine

/-! ### A law of the calls through the commands -/

/-- A law that speaks of nothing but the calls and the tables, kept by the Call Sequencer for the calls of the Effect
Unit. -/
structure CallCore (Z : State → Prop) (B S : EntryId → State → Prop) : Prop extends SequencerCore Z B S where
  congr : ∀ {s t}, Z s → t.calls = s.calls → t.tables = s.tables → Z t

theorem CallsHandled.and {P Q : State → Prop} (hP : CallsHandled P) (hQ : CallsHandled Q) :
    CallsHandled fun s => P s ∧ Q s where
  record k a b c h := ⟨hP.record k a b c h.1, hQ.record k a b c h.2⟩
  offer q f h := ⟨hP.offer q f h.1, hQ.offer q f h.2⟩
  endCall o e h := ⟨hP.endCall o e h.1, hQ.endCall o e h.2⟩
  suppressOrdinary h := ⟨hP.suppressOrdinary h.1, hQ.suppressOrdinary h.2⟩
  askEvacuation h := ⟨hP.askEvacuation h.1, hQ.askEvacuation h.2⟩
  askStaff h := ⟨hP.askStaff h.1, hQ.askStaff h.2⟩
  settle h := ⟨hP.settle h.1, hQ.settle h.2⟩
  startInterval n h := ⟨hP.startInterval n h.1, hQ.startInterval n h.2⟩
  stopInterval h := ⟨hP.stopInterval h.1, hQ.stopInterval h.2⟩

theorem SequencerOps.and {P Q : State → Prop} (hP : SequencerOps P) (hQ : SequencerOps Q) :
    SequencerOps fun s => P s ∧ Q s where
  takeCallDone f h := ⟨hP.takeCallDone f h.1, hQ.takeCallDone f h.2⟩
  startCallOwner args h := ⟨hP.startCallOwner args h.1, hQ.startCallOwner args h.2⟩
  cancelCallOwner args h := ⟨hP.cancelCallOwner args h.1, hQ.cancelCallOwner args h.2⟩
  extendIntervalOwner args h := ⟨hP.extendIntervalOwner args h.1, hQ.extendIntervalOwner args h.2⟩
  timedStepEnds k e h := ⟨hP.timedStepEnds k e h.1, hQ.timedStepEnds k e h.2⟩
  messageLimit e h := ⟨hP.messageLimit e h.1, hQ.messageLimit e h.2⟩
  flashTurn e h := ⟨hP.flashTurn e h.1, hQ.flashTurn e h.2⟩
  deadlineOut e h := ⟨hP.deadlineOut e h.1, hQ.deadlineOut e h.2⟩
  clockTick h := ⟨hP.clockTick h.1, hQ.clockTick h.2⟩

theorem callsHandled_on {P : State → Prop} (T : Tables) (hP : CallsHandled P) : CallsHandled (On T P) :=
  (callsHandled_of_closed (moveClosed_tables T).toCallsClosed).and hP

theorem sequencerOps_on {P : State → Prop} (T : Tables) (hP : SequencerOps P) : SequencerOps (On T P) :=
  (callsClosed_toOps (moveClosed_tables T).toCallsClosed).and hP

namespace CallCore

variable {Z : State → Prop} {B S : EntryId → State → Prop} (hZ : CallCore Z B S)
include hZ

theorem follows : FollowsHeld Z := ⟨fun h e hcalls => hZ.congr h hcalls e.tables⟩

/-- Nothing that a hand-over changes but the calls is spoken of. -/
theorem rules (T : Tables) : AlarmRules T (On T Z) (On T Z) :=
  { (hZ.follows.on T).governor fun h => h.1, callsHandled_on T hZ.toSequencerCore.handled with
    stream := fun _ h => ⟨h.1, hZ.congr h.2 rfl rfl⟩
    alarmJoins := fun h => ⟨h.1, hZ.congr h.2 rfl rfl⟩
    mark := fun _ h => ⟨h.1, hZ.congr h.2 rfl rfl⟩
    unsettled := fun h => h
    unsettledRecord := fun k a b c h => (hZ.follows.on T).recordClosed.record k a b c h
    unsettledSet := fun _ h => ⟨h.1, hZ.congr h.2 rfl rfl⟩
    unsettledStage := fun h => ⟨h.1, hZ.congr h.2 rfl rfl⟩
    unsettledMark := fun _ h => ⟨h.1, hZ.congr h.2 rfl rfl⟩
    still := fun _ _ _ _ _ h => ⟨h.1, hZ.congr h.2 rfl rfl⟩
    move := fun _ _ _ h => ⟨h.1, hZ.congr h.2 rfl rfl⟩
    settled := fun _ h => h }

theorem indifferent (hcommit : ∀ {s}, validate s.working = none → Z s → Z (commitTables s)) :
    Indifferent Z fun T => On T Z where
  phase _ h := hZ.congr h rfl rfl
  heartbeat _ h := hZ.congr h rfl rfl
  link _ h := ⟨h.1, hZ.congr h.2 rfl rfl⟩
  window _ _ h := hZ.congr h rfl rfl
  commit _ hvalid h := hcommit hvalid h

theorem alarmReset {s : State} (h : Z s) : Z (alarmReset s) := by
  have hrecord {s : State} (k : EventKind) (a b c : Byte) (h : Z s) : Z (writeRecord k a b c s) :=
    hZ.follows.recordClosed.record k a b c h
  have hend {s : State} (o : CallOutcome) (e : EntryId) (h : Z s) : Z (endCall o e s) :=
    hZ.shrink h (shrinks_endCall o e s)
  have hguards {s : State} (h : Z s) : Z (markGuards s) :=
    hZ.congr h (markGuards_onlyTouches s .calls (by decide)) (markGuards_onlyTouches s .tables (by decide))
  have hquiet {s : State} (z : ZoneId) (h : Z s) : Z (quietZone s z) :=
    ite_keeps h (hrecord _ _ _ _ (hZ.congr h rfl rfl))
  have hquieted : Z ((List.finRange 66).foldl quietZone s) := foldl_keeps (fun _ z hx => hquiet z hx) _ _ h
  have hdelivered {u : State} (old : EffectSet) (hu : Z u) : Z (deliverEmpty old u) := by
    have hcleared : Z (updCurtain (fun c => { c with demands := { c.demands with alarm := false } }) u) :=
      hZ.congr hu rfl rfl
    exact hend _ _ (ite_keeps (hguards hcleared) hcleared)
  have hstage {u : State} (hu : Z u) : Z (recomputeStage id u) :=
    hZ.congr hu (recomputeStage_onlyTouches u .calls (by decide)) (recomputeStage_onlyTouches u .tables (by decide))
  unfold Machine.alarmReset
  dsimp only
  generalize (List.finRange 66).foldl quietZone s = u at hquieted
  refine hrecord _ _ _ _ (hstage (hend _ _ (hdelivered _ ?_)))
  exact hZ.congr hquieted rfl rfl

end CallCore

/-- A law that speaks of nothing but the calls and the tables, kept by the Call Sequencer. -/
structure CallLaw (Z : State → Prop) (B S : EntryId → State → Prop) : Prop extends CallCore Z B S, SequencerLaw Z B S

theorem loadedTables_valid (i : StoreImage) : validate (loadedTables i) = none := by
  unfold loadedTables
  split
  next hgood =>
    obtain ⟨-, hvalid⟩ := Bool.and_eq_true_iff.mp hgood
    exact Option.isNone_iff_eq_none.mp hvalid
  next => exact defaultTables_valid

theorem CallLaw.lawKept {Z : State → Prop} {B S : EntryId → State → Prop} (hZ : CallLaw Z B S)
    (hcommit : ∀ {s}, validate s.working = none → Z s → Z (commitTables s))
    (hfresh : ∀ {s}, s.calls = freshCalls → TablesLaw s → Z s) (c : Instr) : LawKept c Z fun T => On T Z :=
  (hZ.indifferent hcommit).lawKeptOfHeld hZ.follows (fun T => sequencerOps_on T hZ.toSequencerLaw.ops)
    (fun T => (hZ.rules T).toHandOver) (fun _ _ _ h => hZ.alarmReset h)
    (fun _ _ s _ => hfresh rfl (loadedTables_valid (abandonWrite s.store).image))

/-! ### The four laws -/

theorem callAt_fresh {s : State} (h : s.calls = freshCalls) (e : EntryId) : callAt s e = none := by
  rw [callAt, h]
  exact Vector.getElem_replicate e.isLt

theorem list_fresh {s : State} (h : s.calls = freshCalls) : s.calls.pendingList = [] := by rw [h]; rfl

theorem holderLaw_fresh {s : State} (h : s.calls = freshCalls) : HolderLaw s.calls :=
  ⟨fun e _ hc => (nomatch (callAt_fresh h e).symm.trans hc), fun d _ _ _ _ hx => (nomatch (callAt_fresh h d).symm.trans hx)⟩

theorem pendingLaw_fresh {s : State} (h : s.calls = freshCalls) : PendingLaw s.calls := fun e => by
  rw [list_fresh h]
  exact ⟨fun hmem => (nomatch hmem), fun ⟨_, hc, _⟩ => (nomatch (callAt_fresh h e).symm.trans hc)⟩

theorem waits_fresh {s : State} (h : s.calls = freshCalls) : Waits (fun _ => True) s where
  classes e _ hc := nomatch (callAt_fresh h e).symm.trans hc
  sorted := by
    rw [list_fresh h]
    exact .nil
  lower d _ _ _ _ _ hx := nomatch (callAt_fresh h d).symm.trans hx

theorem callLaw_holder : CallLaw (fun s => HolderLaw s.calls) HolderPlaced HolderStarting :=
  { sequencerLaw_holder with congr := fun h hcalls _ => hcalls.symm ▸ h }

theorem callLaw_pending : CallLaw (fun s => PendingLaw s.calls) PendingPlaced PendingStarting :=
  { sequencerLaw_pending with congr := fun h hcalls _ => hcalls.symm ▸ h }

theorem waits_congr {D : EntryId → Prop} {s t : State} (hcalls : t.calls = s.calls) (h : Waits D s) : Waits D t := by
  have hcall (e : EntryId) : callAt t e = callAt s e := callAt_congr hcalls e
  refine ⟨fun e c hc => h.classes e c (hcall e ▸ hc), ?_, fun d e x y a hd hx hy =>
    h.lower d e x y a hd (hcall d ▸ hx) (hcall e ▸ hy)⟩
  rw [hcalls]
  exact h.sorted.imp fun hxy => by rwa [priorityAt_congr (hcall _), priorityAt_congr (hcall _)]

theorem callLaw_waiting : CallLaw WaitingLawful WaitingPlaced WaitingStarting :=
  { sequencerLaw_waiting with
    congr := fun h hcalls htables =>
      ⟨tablesLaw_congr htables h.tables, hcalls.symm ▸ h.holder, hcalls.symm ▸ h.pending, waits_congr hcalls h.waits⟩ }

theorem lawKept_holder (c : Instr) : LawKept c (fun s => HolderLaw s.calls) fun T => On T fun s => HolderLaw s.calls :=
  callLaw_holder.lawKept (fun _ h => h) (fun h _ => holderLaw_fresh h) c

theorem lawKept_pending (c : Instr) :
    LawKept c (fun s => PendingLaw s.calls) fun T => On T fun s => PendingLaw s.calls :=
  callLaw_pending.lawKept (fun _ h => h) (fun h _ => pendingLaw_fresh h) c

theorem lawKept_waiting (c : Instr) : LawKept c WaitingLawful fun T => On T WaitingLawful :=
  callLaw_waiting.lawKept
    (fun {s} hvalid h => ⟨hvalid, h.holder, h.pending, waits_congr (s := s) rfl h.waits⟩)
    (fun h htables => ⟨htables, holderLaw_fresh h, pendingLaw_fresh h, waits_fresh h⟩) c

theorem zoneLaw_tables : ZoneLaw TablesLaw where
  congr h _ htables _ _ := tablesLaw_congr htables h
  move _ _ _ h := h

theorem indifferent_tables : Indifferent TablesLaw fun T => On T TablesLaw where
  phase _ h := h
  heartbeat _ h := h
  link _ h := h
  window _ _ h := h
  commit _ hvalid _ := hvalid

theorem lawKept_tables (c : Instr) : LawKept c TablesLaw fun T => On T TablesLaw :=
  indifferent_tables.lawKept zoneLaw_tables.followsAlarm zoneLaw_tables.handOverRules
    (fun _ _ _ h => tablesLaw_congr ((moveClosed_tables _).toReach.alarmReset rfl) h)
    (fun _ _ s _ => loadedTables_valid (abandonWrite s.store).image)

theorem areasLawKept : Parts.AreasLawKept := fun _ _ h hstep => step_keeps lawKept_holder h hstep

theorem pendingLawKept : Parts.PendingLawKept := fun _ _ h hstep => step_keeps lawKept_pending h hstep

theorem tablesLawKept : Parts.TablesLawKept := fun _ _ h hstep => step_keeps lawKept_tables h hstep

theorem waitingLawKept : Parts.WaitingLawKept := fun s t htables hholder hpending hwaiting hstep =>
  (waitingLaw_iff t).mpr
    (step_keeps lawKept_waiting ⟨htables, hholder, hpending, (waitingLaw_iff s).mp hwaiting⟩ hstep).waits

end Sys2Proof.Machine
end


section
/-! Every step keeps the law of suppression (R157): no ordinary call while the stage is EVACUATE or the phase permits
none. -/

namespace Sys2Proof.Machine

/-! ### No ordinary call -/

/-- No ordinary call is running or pending. -/
def NoOrdinary (s : State) : Prop := ∀ e : EntryId, 2 ≤ e.val → callAt s e = none

theorem noOrdinary_shrinks {s t : State} (h : NoOrdinary s) (hst : Shrinks s t) : NoOrdinary t :=
  fun e he => hst.none (h e he)

theorem noOrdinary_takeArea {w : EntryId} {a : AreaId} {s : State} (h : NoOrdinary s) : NoOrdinary (takeArea w a s) := by
  intro e he
  by_cases hew : e = w
  · subst hew
    rw [takeArea_of_none (h e he)]
    exact h e he
  · rw [callAt_takeArea_other a hew]
    exact h e he

theorem noOrdinary_seizeArea {w : EntryId} {a : AreaId} {s : State} (h : NoOrdinary s) : NoOrdinary (seizeArea w s a) :=
  seizeArea_rule (Q := NoOrdinary) noOrdinary_shrinks noOrdinary_takeArea (fun _ => h) (fun _ => h)
    fun _ _ _ _ hc => noOrdinary_shrinks h (shrinks_areaLost a hc)

/-- A call replaced by another leaves the free entries free. -/
theorem noOrdinary_putCall {s : State} {w : EntryId} {c : Call} (d : Call) (hc : callAt s w = some c) (h : NoOrdinary s) :
    NoOrdinary (putCall w (some d) s) := by
  intro e he
  by_cases hew : e = w
  · subst hew
    exact nomatch (h e he).symm.trans hc
  · rw [callAt_putCall_other _ _ hew]
    exact h e he

theorem noOrdinary_joinPending {s : State} {e : EntryId} (priority n : Nat) (h : NoOrdinary s) :
    NoOrdinary (joinPending e priority n s) := by
  cases hc : callAt s e with
  | none => rw [joinPending_of_none priority n hc]; exact h
  | some c =>
    intro d hd
    have hde : d ≠ e := by
      rintro rfl
      exact nomatch (h d hd).symm.trans hc
    rw [callAt_joinPending_other priority n s hde]
    exact h d hd

theorem noOrdinary_placeAlarm {s : State} {e : EntryId} {p : ProgramId} (o : Origin) (areas : AreaSet)
    (hadmit : AdmissibleAlarm s e p) (h : NoOrdinary s) : NoOrdinary (placeCall e p o areas s) := by
  intro d hd
  have hde : d ≠ e := fun hde => absurd hadmit.1 (by subst hde; omega)
  rw [callAt_placeCall_other p o areas s hde]
  exact h d hd

/-- What the stage and the phase may bar: ordinary calls (R157). -/
def Barred (C : Stage → Phase → Prop) (s : State) : Prop := C s.effects.stage s.phase.phase → NoOrdinary s

/-- The calls of the Effect Unit leave the bar as it is. -/
theorem sequencerCore_barred (C : Stage → Phase → Prop) :
    SequencerCore (Barred C) (fun _ => Barred C) (fun _ => Barred C) := by
  have hsame {s t : State} (h : Barred C s) (heffects : t.effects = s.effects) (hphase : t.phase = s.phase)
      (hcalls : NoOrdinary s → NoOrdinary t) : Barred C t := fun hbar => hcalls (h (by rwa [heffects, hphase] at hbar))
  have hclosed (s : State) : CallsClosed fun t => t.effects = s.effects ∧ t.phase = s.phase :=
    { record := fun k a b c h => ⟨(writeRecord_effects k a b c _).trans h.1, (writeRecord_phase k a b c _).trans h.2⟩
      offer := fun q f h => ⟨(offer_effects q f _).trans h.1, (offer_phase q f _).trans h.2⟩
      calls := fun _ h => h }
  have hshrink {s t : State} (h : Barred C s) (hst : Shrinks s t) : Barred C t :=
    hsame h hst.effects hst.phase fun hn => noOrdinary_shrinks hn hst
  have hseize {s : State} (w : EntryId) (a : AreaId) (h : Barred C s) : Barred C (seizeArea w s a) := by
    obtain ⟨heffects, hphase⟩ := seizeArea_keeps (hclosed s) w a ⟨rfl, rfl⟩
    exact hsame h heffects hphase noOrdinary_seizeArea
  have hput {s : State} {w : EntryId} {c : Call} (d : Call) (hc : callAt s w = some c) (h : Barred C s) :
      Barred C (putCall w (some d) s) := hsame h rfl rfl (noOrdinary_putCall d hc)
  exact
    { shrink := hshrink
      placedShrink := fun _ h hst => hshrink h hst
      place := fun _ _ o areas h _ hadmit => hsame h rfl rfl (noOrdinary_placeAlarm o areas hadmit)
      placedGone := fun _ h _ => h
      placedStarts := fun _ _ h _ _ => h
      alarmStarts := fun _ h _ => h
      examined := fun e c h hc _ _ => hput (w := e) { c with deadline := none } hc h
      seize := fun e a h _ => hseize e a h
      startGone := fun _ h _ => h
      run := fun _ _ h hc => hput _ hc h
      join := fun {s} e priority n areas h _ _ => by
        have hst := shrinks_clearAreas e priority areas s
        obtain ⟨heffects, hphase⟩ := joinPending_keeps (hclosed ((areasOf areas).foldl (clearArea e priority) s)) e priority
          n ⟨rfl, rfl⟩
        exact hsame (hshrink h hst) heffects hphase (noOrdinary_joinPending priority n)
      grow := fun _ a h hc => hseize 0 a (hput _ hc h) }

/-- What bars ordinary calls bars START-CALL too. -/
theorem sequencerLaw_barred {C : Stage → Phase → Prop} (hC : ∀ st ph, C st ph → st = .evacuate ∨ permitsCalls ph = false) :
    SequencerLaw (Barred C) (fun _ => Barred C) (fun _ => Barred C) :=
  { sequencerCore_barred C with
    placeOrdinary := fun _ _ _ _ _ _ hadmit hbar => by
      obtain ⟨-, -, hphase, hstage⟩ := hadmit
      rcases hC _ _ hbar with hst | hph
      · exact absurd hst hstage
      · exact nomatch hph.symm.trans hphase }

/-! ### Suppression -/

theorem foldl_endCall_none {l : List EntryId} {s : State} {e : EntryId} (h : e ∈ l) :
    callAt (l.foldl (fun x e => endCall .suppressed e x) s) e = none := by
  induction l generalizing s with
  | nil => cases h
  | cons d l ih =>
    have hst := shrinks_foldl (fun x e => shrinks_endCall .suppressed e x) l (endCall .suppressed d s)
    by_cases hed : e = d
    · subst hed
      exact hst.none (callAt_endCall_same _ _ _)
    · exact ih ((List.mem_cons.mp h).resolve_left hed)

/-- The running calls of some entries, ended. -/
def endRunning (x : State) (e : EntryId) : State := if runsIn x e then endCall .suppressed e x else x

theorem shrinks_endRunning (x : State) (e : EntryId) : Shrinks x (endRunning x e) :=
  ite_keeps (shrinks_endCall .suppressed e x) (shrinks_refl x)

theorem foldl_endRunning_none {l : List EntryId} {s : State} {e : EntryId}
    (h : callAt s e = none ∨ (CallHas e Call.running true s ∧ e ∈ l)) : callAt (l.foldl endRunning s) e = none := by
  induction l generalizing s with
  | nil => exact h.resolve_right fun ⟨_, hmem⟩ => nomatch hmem
  | cons d l ih =>
    refine ih ?_
    rcases h with hnone | ⟨hrun, hmem⟩
    · exact .inl ((shrinks_endRunning s d).none hnone)
    · by_cases hed : e = d
      · subst hed
        left
        cases hc : callAt s e with
        | none => exact (shrinks_endRunning s e).none hc
        | some c =>
          have hruns : runsIn s e = true := by rw [runsIn, hc]; exact hrun c hc
          rw [endRunning, if_pos hruns]
          exact callAt_endCall_same _ _ _
      · exact .inr ⟨callHas_shrinks Later.running hrun (shrinks_endRunning s d), (List.mem_cons.mp hmem).resolve_left hed⟩

theorem mem_ordinaryEntries : ∀ e : EntryId, 2 ≤ e.val → e ∈ ordinaryEntries := by decide

/-- Suppression ends every ordinary call. -/
theorem suppressOrdinary_noOrdinary {s : State} (h : PendingLaw s.calls) : NoOrdinary (suppressOrdinary s) := by
  intro e he
  have hst := shrinks_foldl (fun x e => shrinks_endCall .suppressed e x) s.calls.pendingList s
  refine foldl_endRunning_none ?_
  by_cases hlist : e ∈ s.calls.pendingList
  · exact .inl (foldl_endCall_none hlist)
  · refine .inr ⟨fun d hd => ?_, mem_ordinaryEntries e he⟩
    obtain ⟨c, hc, hlater⟩ := hst.some hd
    rw [hlater.running]
    exact Bool.not_eq_false _ ▸ fun hrun => hlist ((h e).mpr ⟨c, hc, hrun⟩)

/-! ### Below the stage -/

/-- The law of the list, and no ordinary call while the stage is EVACUATE. -/
def StageBars (s : State) : Prop := PendingLaw s.calls ∧ Barred (fun st _ => st = .evacuate) s

/-- The law of the list, and no ordinary call at all. -/
def NoneListed (s : State) : Prop := PendingLaw s.calls ∧ NoOrdinary s

theorem SequencerCore.and {P Q : State → Prop} {B C S R : EntryId → State → Prop} (hP : SequencerCore P B S)
    (hQ : SequencerCore Q C R) :
    SequencerCore (fun s => P s ∧ Q s) (fun e s => B e s ∧ C e s) fun e s => S e s ∧ R e s where
  shrink h hst := ⟨hP.shrink h.1 hst, hQ.shrink h.2 hst⟩
  placedShrink e h hst := ⟨hP.placedShrink e h.1 hst, hQ.placedShrink e h.2 hst⟩
  place e p o areas h hfree hadmit := ⟨hP.place e p o areas h.1 hfree hadmit, hQ.place e p o areas h.2 hfree hadmit⟩
  placedGone e h hnone := ⟨hP.placedGone e h.1 hnone, hQ.placedGone e h.2 hnone⟩
  placedStarts e c h hc hfree := ⟨hP.placedStarts e c h.1 hc hfree, hQ.placedStarts e c h.2 hc hfree⟩
  alarmStarts e h he := ⟨hP.alarmStarts e h.1 he, hQ.alarmStarts e h.2 he⟩
  examined e c h hc hlist hfree := ⟨hP.examined e c h.1 hc hlist hfree, hQ.examined e c h.2 hc hlist hfree⟩
  seize e a h hasks := ⟨hP.seize e a h.1 hasks, hQ.seize e a h.2 hasks⟩
  startGone e h hnone := ⟨hP.startGone e h.1 hnone, hQ.startGone e h.2 hnone⟩
  run e c h hc := ⟨hP.run e c h.1 hc, hQ.run e c h.2 hc⟩
  join e priority n areas h he hcall := ⟨hP.join e priority n areas h.1 he hcall, hQ.join e priority n areas h.2 he hcall⟩
  grow c a h hc := ⟨hP.grow c a h.1 hc, hQ.grow c a h.2 hc⟩

theorem SequencerLaw.and {P Q : State → Prop} {B C S R : EntryId → State → Prop} (hP : SequencerLaw P B S)
    (hQ : SequencerLaw Q C R) :
    SequencerLaw (fun s => P s ∧ Q s) (fun e s => B e s ∧ C e s) fun e s => S e s ∧ R e s :=
  { hP.toSequencerCore.and hQ.toSequencerCore with
    placeOrdinary := fun e p o areas h hfree hadmit =>
      ⟨hP.placeOrdinary e p o areas h.1 hfree hadmit, hQ.placeOrdinary e p o areas h.2 hfree hadmit⟩ }

theorem barred_always (s : State) : Barred (fun _ _ => True) s ↔ NoOrdinary s := ⟨fun h => h trivial, fun h _ => h⟩

theorem callCore_none : CallCore NoneListed (fun e s => PendingPlaced e s ∧ Barred (fun _ _ => True) s)
    (fun e s => PendingStarting e s ∧ Barred (fun _ _ => True) s) := by
  have hcore := sequencerLaw_pending.toSequencerCore.and (sequencerCore_barred fun _ _ => True)
  have hfun : (fun s : State => PendingLaw s.calls ∧ Barred (fun _ _ => True) s) = NoneListed :=
    funext fun s => propext (and_congr_right fun _ => barred_always s)
  rw [hfun] at hcore
  exact { hcore with
    congr := fun h hcalls _ => ⟨hcalls.symm ▸ h.1, fun e he => (callAt_congr hcalls e).trans (h.2 e he)⟩ }

theorem sequencerLaw_stageBars : SequencerLaw StageBars
    (fun e s => PendingPlaced e s ∧ Barred (fun st _ => st = .evacuate) s)
    (fun e s => PendingStarting e s ∧ Barred (fun st _ => st = .evacuate) s) :=
  sequencerLaw_pending.and (sequencerLaw_barred fun _ _ h => .inl h)

theorem stageBars_congr {s t : State} (h : StageBars s) (hcalls : t.calls = s.calls)
    (hstage : t.effects.stage = s.effects.stage) : StageBars t :=
  ⟨hcalls.symm ▸ h.1, fun hst e he => (callAt_congr hcalls e).trans (h.2 (hstage.symm.trans hst) e he)⟩

theorem follows_stageBars : FollowsHeld StageBars := ⟨fun h e hcalls => stageBars_congr h hcalls e.stage⟩

theorem stageBars_of_none {s : State} (h : NoneListed s) : StageBars s := ⟨h.1, fun _ => h.2⟩

/-- A change to EVACUATE leaves no ordinary call. -/
theorem riseToEvacuate_none {s : State} (h : PendingLaw s.calls) : NoneListed (riseToEvacuate s) := by
  have hrules := callCore_none.rules s.tables
  have hP := sequencerLaw_pending.toSequencerCore
  have hended : PendingLaw (endCall .alertOver 1 s).calls := hP.shrink h (shrinks_endCall _ _ _)
  have hsuppressed : NoneListed (suppressOrdinary (endCall .alertOver 1 s)) :=
    ⟨hP.shrink hended (shrinks_suppressOrdinary _), suppressOrdinary_noOrdinary hended⟩
  have htables : (suppressOrdinary (endCall .alertOver 1 s)).tables = s.tables :=
    ((shrinks_endCall _ _ s).trans (shrinks_suppressOrdinary _)).tables
  exact ((hrules.toMonitor fun b _ h => hrules.handOverInRise b h).closeWindows _ ⟨htables, hsuppressed⟩).2

theorem recomputeStage_stageBars {s : State} (h : StageBars s) : StageBars (recomputeStage riseToEvacuate s) := by
  have hcalls (st : Stage) : (setStage st s).calls = s.calls := by simp [setStage, noticeIsDue]
  unfold recomputeStage
  dsimp only
  split
  next => exact h
  next =>
    split
    next hrise => exact stageBars_of_none (riseToEvacuate_none ((hcalls _).symm ▸ h.1))
    next hlow =>
      refine ⟨(hcalls _).symm ▸ h.1, fun hst => absurd hst ?_⟩
      simpa [setStage, noticeIsDue] using hlow

theorem handOver_stageBars (b : Bool) {s : State} (h : StageBars s) : StageBars (handOver b s) := by
  have hset : StageBars (s.withEffects { s.effects with set := currentSet s }) := stageBars_congr h rfl rfl
  have hrisen := recomputeStage_stageBars hset
  have hlaw := (alarmLaw_rules s.tables).recomputeStage (fun h => (alarmLaw_rules s.tables).riseToEvacuate h)
    (s := s.withEffects { s.effects with set := currentSet s }) rfl rfl
  have hhandled := sequencerLaw_stageBars.toSequencerCore.handled
  have hdelivered {u : State} (old : EffectSet) (hu : On s.tables AlarmLaw u) (h : StageBars u) :
      StageBars (deliver deliverCurtain old u) := by
    by_cases hcurtain : u.effects.set.curtain = true
    · obtain ⟨z, hz, -⟩ := (set_curtain_iff hu.2).mp hcurtain
      have hnone : NoOrdinary u := h.2 (stage_of_alarm hu.2 hz)
      have hrules := callCore_none.rules s.tables
      exact stageBars_of_none (hrules.deliver (fun h => hrules.deliverCurtain h) old ⟨hu.1, h.1, hnone⟩).2
    · have hguards : StageBars (markGuards u) :=
        stageBars_congr h (markGuards_onlyTouches u .calls (by decide))
          (congrArg EffectState.stage (markGuards_onlyTouches u .effects (by decide)))
      unfold deliver
      dsimp only
      rw [if_neg hcurtain]
      exact hhandled.askEvacuation (ite_keeps hguards h)
  exact hhandled.followInvestigation b (ite_keeps hrisen (hdelivered _ hlaw hrisen))

theorem stageBars_rules (T : Tables) : HandOverRules T (On T StageBars) (On T StageBars) :=
  { (follows_stageBars.on T).governor fun h => h.1,
    callsHandled_on T sequencerLaw_stageBars.toSequencerCore.handled with
    mark := fun _ h => ⟨h.1, stageBars_congr h.2 rfl rfl⟩
    unsettled := fun h => h
    unsettledRecord := fun k a b c h => (follows_stageBars.on T).recordClosed.record k a b c h
    still := fun _ _ _ _ _ h => ⟨h.1, stageBars_congr h.2 rfl rfl⟩
    move := fun _ _ _ h => ⟨h.1, stageBars_congr h.2 rfl rfl⟩
    handed := fun b _ _ h => ⟨((alarmLaw_rules T).handOver b h.1).1, handOver_stageBars b h.2⟩ }

theorem indifferent_stageBars : Indifferent StageBars fun T => On T StageBars where
  phase _ h := stageBars_congr h rfl rfl
  heartbeat _ h := stageBars_congr h rfl rfl
  link _ h := ⟨h.1, stageBars_congr h.2 rfl rfl⟩
  window _ _ h := stageBars_congr h rfl rfl
  commit _ _ h := stageBars_congr h rfl rfl

theorem alarmReset_stageBars {s : State} (h : StageBars s) : StageBars (alarmReset s) := by
  refine ⟨callLaw_pending.toCallCore.alarmReset h.1, fun hstage => ?_⟩
  obtain ⟨z, hz⟩ := alarm_of_stage (alarmLaw_alarmReset s) hstage
  exact absurd hz (by rw [zoneAt_alarmReset, quietedZone_state]; decide)

theorem lawKept_stageBars (c : Instr) : LawKept c StageBars fun T => On T StageBars :=
  indifferent_stageBars.lawKeptOfHeld follows_stageBars (fun T => sequencerOps_on T sequencerLaw_stageBars.ops)
    stageBars_rules (fun _ _ _ h => alarmReset_stageBars h)
    (fun _ _ _ _ => ⟨pendingLaw_fresh rfl, fun _ e _ => callAt_fresh rfl e⟩)

/-! ### In a phase without calls -/

/-- The law of the list, and no ordinary call while the phase permits none. -/
def PhaseBars (s : State) : Prop := PendingLaw s.calls ∧ Barred (fun _ ph => permitsCalls ph = false) s

theorem sequencerLaw_phaseBars : SequencerLaw PhaseBars
    (fun e s => PendingPlaced e s ∧ Barred (fun _ ph => permitsCalls ph = false) s)
    (fun e s => PendingStarting e s ∧ Barred (fun _ ph => permitsCalls ph = false) s) :=
  sequencerLaw_pending.and (sequencerLaw_barred fun _ _ h => .inr h)

theorem phaseBars_congr {s t : State} (h : PhaseBars s) (hcalls : t.calls = s.calls)
    (hphase : t.phase.phase = s.phase.phase) : PhaseBars t :=
  ⟨hcalls.symm ▸ h.1, fun hph e he => (callAt_congr hcalls e).trans (h.2 (hphase ▸ hph) e he)⟩

theorem follows_phaseBars : FollowsHeld PhaseBars := ⟨fun h e hcalls => phaseBars_congr h hcalls e.phase⟩

theorem phaseBars_rules (T : Tables) : AlarmRules T (On T PhaseBars) (On T PhaseBars) :=
  { (follows_phaseBars.on T).governor fun h => h.1,
    callsHandled_on T sequencerLaw_phaseBars.toSequencerCore.handled with
    stream := fun _ h => ⟨h.1, phaseBars_congr h.2 rfl rfl⟩
    alarmJoins := fun h => ⟨h.1, phaseBars_congr h.2 rfl rfl⟩
    mark := fun _ h => ⟨h.1, phaseBars_congr h.2 rfl rfl⟩
    unsettled := fun h => h
    unsettledRecord := fun k a b c h => (follows_phaseBars.on T).recordClosed.record k a b c h
    unsettledSet := fun _ h => ⟨h.1, phaseBars_congr h.2 rfl rfl⟩
    unsettledStage := fun h => ⟨h.1, phaseBars_congr h.2 rfl rfl⟩
    unsettledMark := fun _ h => ⟨h.1, phaseBars_congr h.2 rfl rfl⟩
    still := fun _ _ _ _ _ h => ⟨h.1, phaseBars_congr h.2 rfl rfl⟩
    move := fun _ _ _ h => ⟨h.1, phaseBars_congr h.2 rfl rfl⟩
    settled := fun _ h => h }

/-- The phase is a given one. -/
def InPhase (p : Phase) (s : State) : Prop := s.phase.phase = p

theorem zoneLaw_inPhase (p : Phase) : ZoneLaw (InPhase p) where
  congr h _ _ hphase _ := hphase.trans h
  move _ _ _ h := h

theorem carryOut_phase (target : Phase) (length : Nat) (s : State) : (carryOut target length s).phase.phase = target := by
  refine carryOut_keeps_law (zoneLaw_inPhase target).followsAlarm.held (zoneLaw_inPhase target).handOverRules ?_
  rw [InPhase, changePhase_phase]

theorem zonesCarried_pending {target : Phase} {s : State} (h : PendingLaw s.calls) :
    PendingLaw (zonesCarried target s).calls := by
  obtain ⟨T, -, hcarried⟩ := zonesCarried_keeps_law (Q := fun s => PendingLaw s.calls) callLaw_pending.follows
    (fun T => (callLaw_pending.toCallCore.rules T).toHandOver) (target := target) (s := s)
    (changePhase_keeps_law callLaw_pending.follows (fun _ h => h) target (ite_keeps (P := fun s => PendingLaw s.calls) h h))
  exact hcarried

theorem carryOut_noOrdinary {target : Phase} (length : Nat) {s : State} (h : PendingLaw s.calls)
    (hpermits : permitsCalls target = false) : NoOrdinary (carryOut target length s) := by
  have hhandled := callCore_none.toSequencerCore.handled
  have hcarried : PendingLaw (zonesCarried target s).calls := zonesCarried_pending h
  have hnone : NoneListed (suppressOrdinary (zonesCarried target s)) :=
    ⟨sequencerLaw_pending.shrink hcarried (shrinks_suppressOrdinary _), suppressOrdinary_noOrdinary hcarried⟩
  have hstopped := ite_keeps (P := NoneListed) (c := s.phase.phase = .interval) (hhandled.stopInterval hnone) hnone
  have hdone := ite_keeps (P := NoneListed) (c := target = .interval) (hhandled.startInterval length hstopped) hstopped
  rw [carryOut_eq]
  unfold callsFollowPhase
  rw [hpermits]
  exact hdone.2

theorem carryOut_phaseBars (target : Phase) (length : Nat) {s : State} (hnew : target ≠ s.phase.phase)
    (htests : transitionTests s target = none) (h : PhaseBars s) : PhaseBars (carryOut target length s) := by
  refine ⟨(lawKept_pending .setPhase).carry target length hnew htests h.1, fun hbars => ?_⟩
  rw [carryOut_phase] at hbars
  exact carryOut_noOrdinary length h.1 hbars

theorem lawKept_phaseBars (c : Instr) : LawKept c PhaseBars fun T => On T PhaseBars where
  follows := follows_phaseBars
  calls T := sequencerOps_on T sequencerLaw_phaseBars.ops
  rules T := (phaseBars_rules T).toHandOver
  beat {s} h := by
    have hbeat : On s.tables PhaseBars
        (s.withMonitor { s.monitor with heartbeat := afterS s s.tables.link.heartbeat.toNat }) :=
      ⟨rfl, phaseBars_congr h rfl rfl⟩
    exact (ite_keeps hbeat ((phaseBars_rules s.tables).toHandOver.setLink
      (fun _ h => ⟨h.1, phaseBars_congr h.2 rfl rfl⟩) .up hbeat)).2
  lost {s} h := by
    have hP := (phaseBars_rules s.tables).toHandOver
    have hstopped : On s.tables PhaseBars (s.withMonitor { s.monitor with heartbeat := none }) :=
      ⟨rfl, phaseBars_congr h rfl rfl⟩
    exact (hP.endInvestigation (hP.setLink (fun _ h => ⟨h.1, phaseBars_congr h.2 rfl rfl⟩) .lost hstopped)).2
  isolate {s} args h := by
    unfold isolateZoneOwner
    split
    · exact h
    · exact follows_phaseBars.recordClosed.record _ _ _ _ (phaseBars_congr h rfl rfl)
  staff {s} on h := by
    have hset : On s.tables PhaseBars
        (writeRecord .staffPresence 0 (boolByte on) 0 (s.withPhase { s.phase with staff := on })) :=
      (phaseBars_rules s.tables).record _ _ _ _ ⟨rfl, phaseBars_congr h rfl rfl⟩
    exact (ite_keeps hset ((phaseBars_rules s.tables).toHandOver.endInvestigation hset)).2
  carry target length hnew htests h := carryOut_phaseBars target length hnew htests h
  reset _ {s} _ h := by
    refine ⟨callLaw_pending.toCallCore.alarmReset h.1, fun hbars => ?_⟩
    rw [alarmReset_phase] at hbars
    exact (callCore_none.alarmReset ⟨h.1, h.2 hbars⟩).2
  power _ _ _ _ := ⟨pendingLaw_fresh rfl, fun _ e _ => callAt_fresh rfl e⟩

theorem suppressionLawKept : Parts.SuppressionLawKept := fun s t hpending hlaw hstep => by
  have hstage : StageBars t := step_keeps lawKept_stageBars ⟨hpending, fun h => hlaw (.inl h)⟩ hstep
  have hphase : PhaseBars t := step_keeps lawKept_phaseBars ⟨hpending, fun h => hlaw (.inr h)⟩ hstep
  exact fun h => h.elim hstage.2 hphase.2

/-- Settles O43: the laws of the areas, of the pending list and of the waiting calls are kept by calls that end or go on,
and carried through each call admitted, started or left to wait; the tables change where they are valid alone; and what
brings the stage to EVACUATE or a phase without calls suppresses in the same act. -/
theorem holderLawKept : Obligations.HolderLawKept := by
  unfold Obligations.HolderLawKept
  exact ⟨areasLawKept, pendingLawKept, tablesLawKept, waitingLawKept, suppressionLawKept⟩

end Sys2Proof.Machine
end


section
/-! The governor's operations followed without the consequences of their reports: an operation whose reports are handed
over, and the same operation whose reports only move zone 64's state, leave the same governor, the same Phase Controller
and the same state of zone 64 (R92, R124). The hand-over of a report can reach the governor through ALARM alone, which is
a demand already wherever the governor reports ALARM. -/

namespace Sys2Proof.Machine

/-! ### A report to zone 64 -/

/-- What becomes of zone 64's state at a report (R124). -/
def heard : CurtainReport → ZoneState → ZoneState
  | .alarm, _ => .alarm
  | .pre, .quiet => .pre
  | .clear, .pre => .quiet
  | .pre, st | .clear, st => st

/-- The reporter that moves zone 64's state and does nothing else. -/
def tally : Reporter := fun r s => updZone 64 (fun x => { x with state := heard r x.state }) s

theorem report64_eq (ho : HandOver) (r : CurtainReport) (s : State) :
    report64 ho r s = enterState ho 64 (heard r (zoneAt s 64).state) s := by
  have hstays {st : ZoneState} (h : (zoneAt s 64).state = st) : enterState ho 64 st s = s := if_pos h
  unfold report64 heard
  cases r <;> cases hst : (zoneAt s 64).state <;> simp only [hstays hst]

theorem heard_ne_alarm {r : CurtainReport} {st : ZoneState} (hr : r ≠ .alarm) :
    heard r st = .alarm ↔ st = .alarm := by
  cases r <;> cases st <;> simp_all [heard]

theorem heard_ne_investigating {r : CurtainReport} {st : ZoneState} (h : heard r st ≠ st) :
    heard r st ≠ .investigating := by
  cases r <;> cases st <;> simp_all [heard]

/-- A hand-over that finds the effect set as it stands, and no new rise, reaches neither the closings of R131 nor the
governor. -/
theorem handOver_eq_inDelivery (entered : Bool) {s : State} (hset : currentSet s = s.effects.set)
    (hstage : stageOf s.monitor.zones s.monitor.link = .evacuate → s.effects.stage = .evacuate) :
    handOver entered s = handOverInDelivery entered s := by
  have hrise (rise : State → State) : recomputeStage rise (s.withEffects { s.effects with set := currentSet s })
      = recomputeStage id (s.withEffects { s.effects with set := currentSet s }) := by
    unfold recomputeStage
    dsimp only
    split_ifs with hsame hrise
    · rfl
    · exact absurd (hrise.trans (hstage hrise).symm) hsame
    · rfl
  simp only [handOver, handOverInDelivery, handOverWith, if_pos hset]
  rw [hrise]

/-- A property of the monitor, the governor and the Phase Controller is kept by a hand-over inside a delivery. -/
theorem handOverInDelivery_kept (entered : Bool) (s : State) :
    (handOverInDelivery entered s).monitor = s.monitor ∧ (handOverInDelivery entered s).curtain = s.curtain
      ∧ (handOverInDelivery entered s).phase = s.phase := by
  have hcalls : CallsClosed fun t => t.monitor = s.monitor ∧ t.curtain = s.curtain ∧ t.phase = s.phase :=
    { record := fun k a b c h => by simpa using h
      offer := fun q f h => by simpa using h
      calls := fun _ h => h }
  exact handOverInDelivery_keeps (effectsClosed_of_calls hcalls (fun _ h => h) (fun _ h => h)) entered ⟨rfl, rfl, rfl⟩

/-- A report that no hand-over carries further: it moves zone 64's state, and keeps the governor and the phase. -/
theorem report64_inDelivery (r : CurtainReport) (s : State) :
    (zoneAt (report64 handOverInDelivery r s) 64).state = heard r (zoneAt s 64).state
      ∧ (report64 handOverInDelivery r s).curtain = s.curtain ∧ (report64 handOverInDelivery r s).phase = s.phase := by
  rw [report64_eq]
  unfold enterState
  dsimp only
  split
  next h => exact ⟨h, rfl, rfl⟩
  next h =>
    obtain ⟨hmonitor, hcurtain, hphase⟩ := handOverInDelivery_kept (decide (heard r (zoneAt s 64).state = .investigating))
      (writeRecord .zoneState (zoneByte 64) (zoneAt s 64).state.code (heard r (zoneAt s 64).state).code
        (updZone 64 (fun x => { (if (zoneAt s 64).state = .investigating then leaveInvestigation x else x) with
          state := heard r (zoneAt s 64).state }) s))
    refine ⟨?_, hcurtain.trans (writeRecord_curtain _ _ _ _ _), hphase.trans (writeRecord_phase _ _ _ _ _)⟩
    rw [zoneAt_congr (hmonitor.trans (writeRecord_monitor _ _ _ _ _)), zoneAt_updZone_same]

/-- Under the law of the effect set and the stage, a PRE or a CLEAR is a report that no hand-over carries further. -/
theorem reportCurtain_eq_inDelivery {r : CurtainReport} {s : State} (hr : r ≠ .alarm) (hlaw : AlarmLaw s) :
    reportCurtain r s = report64 handOverInDelivery r s := by
  rw [reportCurtain, report64_eq, report64_eq]
  unfold enterState
  dsimp only
  split
  next => rfl
  next hnew =>
    have hzone (z : ZoneId) : (zoneAt (updZone 64 (fun x => { (if (zoneAt s 64).state = .investigating then
        leaveInvestigation x else x) with state := heard r (zoneAt s 64).state }) s) z).state = .alarm
          ↔ (zoneAt s z).state = .alarm := by
      by_cases hz : z = 64
      · subst hz
        rw [zoneAt_updZone_same]
        exact heard_ne_alarm hr
      · rw [zoneAt_updZone_other _ _ hz]
    obtain ⟨hset, hstage⟩ := hlaw
    refine handOver_eq_inDelivery _ ?_ fun hrise => ?_
    · rw [writeRecord_effects, currentSet, writeRecord_tables, writeRecord_monitor]
      exact (effectSetOf_congr _ hzone).trans hset.symm
    · rw [writeRecord_effects]
      rw [writeRecord_monitor] at hrise
      obtain ⟨y, hy⟩ := (stageOf_eq_evacuate_iff _ _).mp hrise
      exact hstage.trans ((stageOf_eq_evacuate_iff _ _).mpr ⟨y, (hzone y).mp hy⟩)

/-- Where ALARM is a demand already, no report reaches the governor: its delivery finds nothing to do (R78). -/
theorem reportCurtain_of_demanded (r : CurtainReport) {s : State} (h : s.curtain.demands.alarm = true) :
    (reportCurtain r s).curtain = s.curtain ∧ (reportCurtain r s).phase = s.phase := by
  have hcalls : CallsClosed fun t => t.curtain = s.curtain ∧ t.phase = s.phase :=
    { record := fun k a b c h => by simpa using h
      offer := fun q f h => by simpa using h
      calls := fun _ h => h }
  have heffects := effectsClosed_of_calls hcalls (fun _ h => h) (fun _ h => h)
  have hzones : ZonesClosed fun t => t.curtain = s.curtain ∧ t.phase = s.phase :=
    { hcalls.toRecordClosed with monitor := fun _ h => h }
  have hcurtain {t : State} (ht : t.curtain = s.curtain ∧ t.phase = s.phase) :
      (deliverCurtain t).curtain = s.curtain ∧ (deliverCurtain t).phase = s.phase := by
    rw [deliverCurtain, addAlarm, if_pos (by rw [ht.1, h])]
    exact ht
  have hrise {t : State} (ht : t.curtain = s.curtain ∧ t.phase = s.phase) :
      (riseToEvacuate t).curtain = s.curtain ∧ (riseToEvacuate t).phase = s.phase :=
    closeWindows_keeps hzones (fun b _ h => handOverWith_keeps heffects (fun h => h) hcurtain b h) _
      (suppressOrdinary_keeps hcalls (endCall_keeps hcalls _ _ ht))
  exact report64_keeps hzones (fun b _ h => handOverWith_keeps heffects hrise hcurtain b h) r ⟨rfl, rfl⟩

/-! ### Reporters -/

/-- A reporter that moves zone 64's state, and keeps the governor and the phase where ALARM is reported as a demand
alone; `I` is what it needs of a state. -/
structure Reports (rep : Reporter) (I : State → Prop) : Prop where
  congr : ∀ {s t}, I s → t.monitor = s.monitor → t.tables = s.tables → t.effects.set = s.effects.set →
    t.effects.stage = s.effects.stage → I t
  kept : ∀ {s} r, I s → I (rep r s)
  curtain : ∀ {s} r, I s → (r = .alarm → s.curtain.demands.alarm = true) → (rep r s).curtain = s.curtain
  phase : ∀ {s} r, I s → (r = .alarm → s.curtain.demands.alarm = true) → (rep r s).phase = s.phase
  zone : ∀ {s} r, I s → (zoneAt (rep r s) 64).state = heard r (zoneAt s 64).state
  tables : ∀ r s, (rep r s).tables = s.tables
  lines : ∀ r s, (rep r s).lines = s.lines
  now : ∀ r s, (rep r s).now = s.now

/-- The reporter of the governor's commands (R92). -/
theorem reports_reportCurtain : Reports reportCurtain AlarmLaw where
  congr h hmonitor htables hset hstage := alarmLaw_congr htables hmonitor hset hstage h
  kept {s} r h := ((alarmLaw_rules s.tables).toHandOver.reportCurtain r ⟨rfl, h⟩).2
  curtain r h ha := by
    by_cases hr : r = .alarm
    · exact (reportCurtain_of_demanded r (ha hr)).1
    · rw [reportCurtain_eq_inDelivery hr h]
      exact (report64_inDelivery r _).2.1
  phase r h ha := by
    by_cases hr : r = .alarm
    · exact (reportCurtain_of_demanded r (ha hr)).2
    · rw [reportCurtain_eq_inDelivery hr h]
      exact (report64_inDelivery r _).2.2
  zone {s} r h := by
    by_cases hr : r = .alarm
    · subst hr
      exact enterAlarm_inAlarm 64 s
    · rw [reportCurtain_eq_inDelivery hr h]
      exact (report64_inDelivery r _).1
  tables r s := reportCurtain_onlyTouches r s .tables (by decide)
  lines r s := reportCurtain_onlyTouches r s .lines (by decide)
  now r s := reportCurtain_onlyTouches r s .now (by decide)

/-- The reporter inside a delivery to the governor (R132). -/
theorem reports_inDelivery : Reports (report64 handOverInDelivery) fun _ => True where
  congr _ _ _ _ _ := trivial
  kept _ _ := trivial
  curtain r _ _ := (report64_inDelivery r _).2.1
  phase r _ _ := (report64_inDelivery r _).2.2
  zone r _ := (report64_inDelivery r _).1
  tables r s := reportInDelivery_keeps (alarmClosed_onlyTouches s).toZones (alarmClosed_onlyTouches s).toEffects r
    (onlyTouches_refl _ s) .tables (by decide)
  lines r s := reportInDelivery_keeps (alarmClosed_onlyTouches s).toZones (alarmClosed_onlyTouches s).toEffects r
    (onlyTouches_refl _ s) .lines (by decide)
  now r s := reportInDelivery_keeps (alarmClosed_onlyTouches s).toZones (alarmClosed_onlyTouches s).toEffects r
    (onlyTouches_refl _ s) .now (by decide)

/-! ### Two states the governor cannot tell apart -/

/-- A state and its shadow: the same governor, phase, tables, lines and time, and the same state of zone 64. -/
structure Shadows (I : State → Prop) (s t : State) : Prop where
  law : I s
  curtain : t.curtain = s.curtain
  phase : t.phase = s.phase
  tables : t.tables = s.tables
  lines : t.lines = s.lines
  now : t.now = s.now
  zone : (zoneAt t 64).state = (zoneAt s 64).state

theorem shadows_refl {I : State → Prop} {s : State} (h : I s) : Shadows I s s := ⟨h, rfl, rfl, rfl, rfl, rfl, rfl⟩

namespace Shadows

variable {rep : Reporter} {I : State → Prop} (hr : Reports rep I) {s t : State}
include hr

theorem withCurtain {x y : Curtain} (hx : y = x) (h : Shadows I s t) : Shadows I (s.withCurtain x) (t.withCurtain y) :=
  ⟨hr.congr h.law rfl rfl rfl rfl, hx, h.phase, h.tables, h.lines, h.now, h.zone⟩

theorem withPhase {x y : PhaseState} (hx : y = x) (h : Shadows I s t) : Shadows I (s.withPhase x) (t.withPhase y) :=
  ⟨hr.congr h.law rfl rfl rfl rfl, h.curtain, hx, h.tables, h.lines, h.now, h.zone⟩

theorem notice (h : Shadows I s t) : Shadows I (noticeIsDue s) (noticeIsDue t) :=
  ⟨hr.congr h.law rfl rfl rfl rfl, h.curtain, h.phase, h.tables, h.lines, h.now, h.zone⟩

theorem record (k : EventKind) (a b c : Byte) (h : Shadows I s t) :
    Shadows I (writeRecord k a b c s) (writeRecord k a b c t) :=
  ⟨hr.congr h.law (by simp) (by simp) (by simp) (by simp), by simp [h.curtain], by simp [h.phase], by simp [h.tables],
    by simp [h.lines], by simp [h.now],
    by rw [zoneAt_congr (writeRecord_monitor _ _ _ _ _), zoneAt_congr (writeRecord_monitor _ _ _ _ _), h.zone]⟩

theorem report (r : CurtainReport) (ha : r = .alarm → s.curtain.demands.alarm = true) (h : Shadows I s t) :
    Shadows I (rep r s) (tally r t) where
  law := hr.kept r h.law
  curtain := h.curtain.trans (hr.curtain r h.law ha).symm
  phase := h.phase.trans (hr.phase r h.law ha).symm
  tables := h.tables.trans (hr.tables r s).symm
  lines := h.lines.trans (hr.lines r s).symm
  now := h.now.trans (hr.now r s).symm
  zone := by rw [tally, zoneAt_updZone_same, hr.zone r h.law, h.zone]

/-- A change of the governor's state that reads nothing but what the shadow has as well. -/
theorem upd {f g : Curtain → Curtain} (hfg : g s.curtain = f s.curtain) (h : Shadows I s t) :
    Shadows I (updCurtain f s) (updCurtain g t) :=
  h.withCurtain hr (by rw [h.curtain]; exact hfg)

theorem toState (st : CurtainState) (h : Shadows I s t) : Shadows I (toState st s) (toState st t) := by
  unfold Machine.toState
  dsimp only
  rw [h.curtain]
  split
  · exact h
  · exact ((h.upd hr rfl).notice hr).record hr _ _ _ _

theorem closeTest (pass : Bool) (total : Option Nat) (h : Shadows I s t) :
    Shadows I (closeTest pass total s) (closeTest pass total t) := by
  have hset : Shadows I (updCurtain (fun c => { c with
      test := { c.test with status := .closed pass, total := total, faults := c.faults } }) s)
      (updCurtain (fun c => { c with
        test := { c.test with status := .closed pass, total := total, faults := c.faults } }) t) := h.upd hr rfl
  unfold Machine.closeTest
  rw [h.curtain]
  cases s.curtain.test.status with
  | running => exact (hset.withPhase hr (by rw [hset.phase])).record hr _ _ _ _
  | empty => exact h
  | closed => exact h

theorem closeTestAtIn (h : Shadows I s t) : Shadows I (closeTestAtIn s) (closeTestAtIn t) := by
  unfold Machine.closeTestAtIn testMs
  rw [h.curtain, h.tables, h.now]
  exact h.closeTest hr _ _

theorem updTest (f : TestRecord → TestRecord) (h : Shadows I s t) : Shadows I (updTest f s) (updTest f t) := by
  unfold Machine.updTest
  rw [h.curtain]
  cases s.curtain.test.status with
  | running => exact h.upd hr rfl
  | empty => exact h
  | closed => exact h

theorem noteFirstMove (h : Shadows I s t) : Shadows I (noteFirstMove s) (noteFirstMove t) := by
  unfold Machine.noteFirstMove testMs
  rw [h.curtain, h.now]
  exact h.updTest hr _

theorem recordFault (f : CurtainFault) (h : Shadows I s t) : Shadows I (recordFault rep f s) (recordFault tally f t) := by
  have hset : Shadows I (updCurtain (fun c => { c with faults := addFault c.faults f }) s)
    (updCurtain (fun c => { c with faults := addFault c.faults f }) t) := h.upd hr rfl
  unfold Machine.recordFault
  dsimp only
  rw [hset.curtain, h.curtain]
  split
  · exact h
  · refine (hset.record hr _ _ _ _).report hr _ fun halarm => ?_
    rw [writeRecord_curtain]
    unfold reportOf at halarm
    split at halarm
    next hc => exact (Bool.and_eq_true_iff.mp hc).2
    next => cases halarm

theorem referenceAt {p q : Nat} (hp : q = p) (h : Shadows I s t) :
    Shadows I (referenceAt rep p s) (referenceAt tally q t) := by
  subst hp
  unfold Machine.referenceAt
  dsimp only
  rw [h.curtain, h.tables]
  refine Shadows.upd hr rfl ?_
  split
  · exact h.recordFault hr _
  · exact h

theorem arriveIn (h : Shadows I s t) : Shadows I (arriveIn rep s) (arriveIn tally t) :=
  (((Shadows.upd hr rfl (h.referenceAt hr rfl)).closeTestAtIn hr).toState hr _).report hr _ (fun h => nomatch h)

theorem arriveOut (h : Shadows I s t) : Shadows I (arriveOut rep s) (arriveOut tally t) :=
  ((Shadows.upd hr rfl (h.referenceAt hr (by rw [h.tables]))).toState hr _).report hr _ (fun h => nomatch h)

theorem compareSwitch (asserts : Bool) (h : Shadows I s t) :
    Shadows I (compareSwitch rep asserts s) (compareSwitch tally asserts t) := by
  unfold Machine.compareSwitch switchEarly switchLate
  rw [h.curtain, h.tables, h.lines]
  split
  · exact h.recordFault hr _
  · exact h

theorem becomeSlowing (h : Shadows I s t) : Shadows I (becomeSlowing s) (becomeSlowing t) := (h.upd hr rfl).toState hr _

omit hr in
theorem slowHolds (h : Shadows I s t) : slowHolds t = slowHolds s := by
  unfold Machine.slowHolds
  rw [h.curtain, h.tables, h.lines]

theorem enterSlowing (h : Shadows I s t) : Shadows I (enterSlowing s) (enterSlowing t) := by
  unfold Machine.enterSlowing
  rw [h.slowHolds, h.curtain]
  split
  · exact h.becomeSlowing hr
  · exact h

theorem slowZoneTest (asserts : Bool) (h : Shadows I s t) :
    Shadows I (slowZoneTest rep asserts s) (slowZoneTest tally asserts t) := (h.compareSwitch hr _).enterSlowing hr

theorem enterDescending (h : Shadows I s t) : Shadows I (enterDescending rep s) (enterDescending tally t) :=
  ((h.compareSwitch hr _).toState hr _).enterSlowing hr

theorem fallBegins (h : Shadows I s t) : Shadows I (fallBegins s) (fallBegins t) :=
  h.upd hr (by simp only [afterMs, afterS, h.now, h.tables])

theorem releaseFromOut (h : Shadows I s t) : Shadows I (releaseFromOut rep s) (releaseFromOut tally t) :=
  (Shadows.fallBegins hr (h.upd hr rfl)).enterDescending hr

theorem abortRaise (h : Shadows I s t) : Shadows I (abortRaise rep s) (abortRaise tally t) := by
  have hoff : Shadows I (updCurtain (fun c => { c with raisePermit := false, holdDrive := false, raiseTimer := none }) s)
    (updCurtain (fun c => { c with raisePermit := false, holdDrive := false, raiseTimer := none }) t) := h.upd hr rfl
  unfold Machine.abortRaise
  dsimp only
  rw [h.lines]
  split
  · exact hoff.arriveIn hr
  · exact (hoff.fallBegins hr).enterDescending hr

theorem demandTaken (h : Shadows I s t) : Shadows I (demandTaken rep s) (demandTaken tally t) := by
  unfold Machine.demandTaken
  rw [h.curtain]
  cases s.curtain.state with
  | out => exact h.releaseFromOut hr
  | raising => exact h.abortRaise hr
  | unknown | resting | descending | slowing | stalled => exact h

theorem addDemand (d : Demand) (h : Shadows I s t) : Shadows I (addDemand rep d s) (addDemand tally d t) := by
  have hjoined : Shadows I (updCurtain (fun c => { c with demands := c.demands.insert d }) s)
    (updCurtain (fun c => { c with demands := c.demands.insert d }) t) := h.upd hr rfl
  unfold Machine.addDemand
  dsimp only
  rw [h.curtain]
  split
  · exact hjoined
  · exact hjoined.demandTaken hr

theorem limitsConflict (h : Shadows I s t) : Shadows I (limitsConflict rep s) (limitsConflict tally t) :=
  (Shadows.upd hr rfl (h.recordFault hr _)).toState hr _

theorem raiseFails (h : Shadows I s t) : Shadows I (raiseFails rep s) (raiseFails tally t) :=
  (Shadows.upd hr rfl (h.recordFault hr _)).abortRaise hr

theorem limitInTaken (h : Shadows I s t) : Shadows I (limitInTaken rep s) (limitInTaken tally t) := by
  unfold Machine.limitInTaken
  rw [h.curtain]
  split
  · exact h.referenceAt hr rfl
  · exact h.arriveIn hr

theorem releaseThroughOut (h : Shadows I s t) : Shadows I (releaseThroughOut rep s) (releaseThroughOut tally t) :=
  ((h.referenceAt hr (by rw [h.tables])).toState hr _).releaseFromOut hr

theorem limitOutTaken (h : Shadows I s t) : Shadows I (limitOutTaken rep s) (limitOutTaken tally t) := by
  have hreferenced : Shadows I (Machine.referenceAt rep s.tables.curtain.travel.toNat s)
    (Machine.referenceAt tally t.tables.curtain.travel.toNat t) := h.referenceAt hr (by rw [h.tables])
  unfold Machine.limitOutTaken
  rw [h.curtain]
  cases s.curtain.state with
  | raising => exact h.arriveOut hr
  | out => exact hreferenced
  | descending | slowing | stalled => exact hreferenced.upd hr rfl
  | unknown | resting => exact h.releaseThroughOut hr

theorem judgeMain (v : Nat) (h : Shadows I s t) : Shadows I (judgeMain rep v s) (judgeMain tally v t) := by
  have hnoted (f g : TestRecord → TestRecord) := Shadows.updTest hr g (h.updTest hr f)
  unfold Machine.judgeMain
  dsimp only
  rw [h.curtain, h.tables]
  have hover (f g : TestRecord → TestRecord) :
      Shadows I (if s.tables.curtain.vmax.toNat < v then Machine.recordFault rep .overspeed (Machine.updTest g (Machine.updTest f s))
          else Machine.updTest g (Machine.updTest f s))
        (if s.tables.curtain.vmax.toNat < v then Machine.recordFault tally .overspeed (Machine.updTest g (Machine.updTest f t))
          else Machine.updTest g (Machine.updTest f t)) := by
    split
    · exact (hnoted f g).recordFault hr _
    · exact hnoted f g
  split
  · exact h.updTest hr _
  · split
    · exact Shadows.recordFault hr _ (hover _ _)
    · exact hover _ _

theorem judgeSlow (v : Nat) (h : Shadows I s t) : Shadows I (judgeSlow rep v s) (judgeSlow tally v t) := by
  unfold Machine.judgeSlow
  rw [h.curtain, h.tables]
  cases s.curtain.slowEntry with
  | none => exact h
  | some entry =>
    dsimp only
    split
    · split
      · exact Shadows.recordFault hr _ (h.updTest hr _)
      · exact h.updTest hr _
    · exact h

theorem takeReference (h : Shadows I s t) : Shadows I (takeReference s) (takeReference t) :=
  h.upd hr (by simp only [afterMs, h.now, h.tables])

theorem windowEnd (reference wraps : Nat) (h : Shadows I s t) :
    Shadows I (windowEnd rep reference wraps s) (windowEnd tally reference wraps t) := by
  have hended : Shadows I (updCurtain (fun c => { c with
        window := ⟨0, some (c.capture, 0), min 3 (c.window.completed + 1)⟩
        stallTimer := afterMs s s.tables.curtain.stallLimit.toNat }) s)
      (updCurtain (fun c => { c with
        window := ⟨0, some (c.capture, 0), min 3 (c.window.completed + 1)⟩
        stallTimer := afterMs t t.tables.curtain.stallLimit.toNat }) t) :=
    h.upd hr (by simp only [afterMs, h.now, h.tables])
  unfold Machine.windowEnd
  dsimp only
  rw [h.tables] at hended ⊢
  rw [h.curtain]
  split
  · exact hended.judgeSlow hr _
  · exact hended.judgeMain hr _

theorem countWindow (h : Shadows I s t) : Shadows I (countWindow rep s) (countWindow tally t) := by
  unfold Machine.countWindow
  rw [h.curtain, h.tables]
  cases s.curtain.window.reference with
  | none => exact h.takeReference hr
  | some r =>
    dsimp only
    split
    · exact h.upd hr rfl
    · exact h.windowEnd hr _ _

theorem driftTest (h : Shadows I s t) : Shadows I (driftTest rep s) (driftTest tally t) := by
  unfold Machine.driftTest
  rw [h.curtain, h.tables]
  split
  · exact h.recordFault hr _
  · exact h

theorem leaveStalled (h : Shadows I s t) : Shadows I (leaveStalled rep s) (leaveStalled tally t) := by
  have hcompared := h.compareSwitch hr false
  unfold Machine.leaveStalled
  dsimp only
  rw [hcompared.slowHolds, hcompared.curtain]
  split
  · exact hcompared.toState hr _
  · split
    · exact hcompared.becomeSlowing hr
    · exact hcompared.toState hr _

omit hr in
theorem inConflict (h : Shadows I s t) : inConflict t = inConflict s := by
  unfold Machine.inConflict
  rw [h.lines]

theorem downCount (h : Shadows I s t) : Shadows I (downCount rep s) (downCount tally t) := by
  have hdown : Shadows I (updCurtain (fun c => { c with position := c.position - 1 }) s)
    (updCurtain (fun c => { c with position := c.position - 1 }) t) := h.upd hr rfl
  unfold Machine.downCount
  dsimp only
  rw [hdown.inConflict]
  generalize updCurtain (fun c => { c with position := c.position - 1 }) s = u at hdown ⊢
  generalize updCurtain (fun c => { c with position := c.position - 1 }) t = v at hdown ⊢
  have hmoving : Shadows I (updCurtain (fun c => { c with startTimer := none }) u)
    (updCurtain (fun c => { c with startTimer := none }) v) := hdown.upd hr rfl
  split
  · exact hdown
  · rw [hdown.curtain]
    cases u.curtain.state with
    | unknown =>
      exact (Shadows.takeReference hr (hdown.upd hr (by simp only [afterS, hdown.now, hdown.tables]))).enterDescending hr
    | descending | slowing => exact ((hmoving.noteFirstMove hr).countWindow hr).slowZoneTest hr _
    | stalled => exact ((hmoving.noteFirstMove hr).takeReference hr).leaveStalled hr
    | out => exact hdown.driftTest hr
    | raising | resting => exact hdown

theorem upCount (h : Shadows I s t) : Shadows I (upCount rep s) (upCount tally t) := by
  have hup : Shadows I (updCurtain (fun c => { c with position := if c.position < s.tables.curtain.travel.toNat
      then c.position + 1 else c.position }) s)
    (updCurtain (fun c => { c with position := if c.position < t.tables.curtain.travel.toNat
      then c.position + 1 else c.position }) t) := h.upd hr (by rw [h.tables])
  unfold Machine.upCount
  dsimp only
  rw [hup.inConflict]
  generalize updCurtain (fun c => { c with position := if c.position < s.tables.curtain.travel.toNat
      then c.position + 1 else c.position }) s = u at hup ⊢
  generalize updCurtain (fun c => { c with position := if c.position < t.tables.curtain.travel.toNat
      then c.position + 1 else c.position }) t = v at hup ⊢
  split
  · exact hup
  · rw [hup.curtain]
    cases u.curtain.state with
    | raising | descending | slowing | stalled => exact hup.upd hr rfl
    | out => exact hup.driftTest hr
    | unknown | resting => exact hup

theorem illegalCount (h : Shadows I s t) : Shadows I (illegalCount rep s) (illegalCount tally t) :=
  Shadows.recordFault hr _ (h.upd hr rfl)

end Shadows

end Sys2Proof.Machine
end


section
/-! What each of the governor's operations makes of the governor, its reports kept to zone 64 (R71 to R98). -/

namespace Sys2Proof.Machine

/-! ### The fault set -/

theorem getLsbD_addFault (w : Word16) (f g : CurtainFault) :
    (addFault w f).getLsbD g.num = (w.getLsbD g.num || decide (f = g)) := by
  have hbit : (BitVec.ofNat 16 (2 ^ f.num)).getLsbD g.num = decide (f = g) := by cases f <;> cases g <;> rfl
  rw [addFault, BitVec.getLsbD_or, hbit]

theorem hasFault_iff (c : Curtain) (f : CurtainFault) : hasFault c f = true ↔ c.faults.getLsbD f.num = true := Iff.rfl

/-- A fault in the set is not added again. -/
theorem addFault_of_has {c : Curtain} {f : CurtainFault} (h : hasFault c f = true) : addFault c.faults f = c.faults := by
  refine BitVec.eq_of_getLsbD_eq fun i hi => ?_
  have hpow : BitVec.ofNat 16 (2 ^ f.num) = BitVec.twoPow 16 f.num := BitVec.eq_of_toNat_eq (by simp)
  rw [addFault, hpow, BitVec.getLsbD_or, BitVec.getLsbD_twoPow]
  by_cases hf : f.num = i
  · rw [← hf, (hasFault_iff c f).mp h, Bool.true_or]
  · simp [hf]

/-! ### What stays -/

/-- The tables, the lines, the time and the phase are those of another state. -/
def Unmoved (s t : State) : Prop := t.tables = s.tables ∧ t.lines = s.lines ∧ t.now = s.now

theorem curtainClosed_unmoved (s : State) : CurtainClosed (Unmoved s) where
  record k a b c h := by simpa [Unmoved] using h
  offer q f h := by simpa [Unmoved] using h
  curtain _ h := h
  phase _ h := h
  effects _ h := h

theorem unmoved_tally (s : State) (r : CurtainReport) {t : State} (h : Unmoved s t) : Unmoved s (tally r t) := h

theorem unmoved_refl (s : State) : Unmoved s s := ⟨rfl, rfl, rfl⟩

section
variable (s : State)

@[simp] theorem updCurtain_unmoved (f : Curtain → Curtain) : (updCurtain f s).tables = s.tables
    ∧ (updCurtain f s).lines = s.lines ∧ (updCurtain f s).now = s.now ∧ (updCurtain f s).phase = s.phase :=
  ⟨rfl, rfl, rfl, rfl⟩

@[simp] theorem updCurtain_curtain (f : Curtain → Curtain) : (updCurtain f s).curtain = f s.curtain := rfl

@[simp] theorem tally_curtain (r : CurtainReport) : (tally r s).curtain = s.curtain := rfl

@[simp] theorem tally_phase (r : CurtainReport) : (tally r s).phase = s.phase := rfl

@[simp] theorem toState_unmoved (st : CurtainState) : (toState st s).tables = s.tables ∧ (toState st s).lines = s.lines
    ∧ (toState st s).now = s.now := toState_keeps (curtainClosed_unmoved s) st (unmoved_refl s)

theorem recordFault_curtain (f : CurtainFault) :
    (recordFault tally f s).curtain = { s.curtain with faults := addFault s.curtain.faults f } := by
  unfold recordFault
  dsimp only
  split
  next h => rw [addFault_of_has h]
  next => simp

@[simp] theorem recordFault_unmoved (f : CurtainFault) : (recordFault tally f s).tables = s.tables
    ∧ (recordFault tally f s).lines = s.lines ∧ (recordFault tally f s).now = s.now :=
  recordFault_keeps (curtainClosed_unmoved s) (unmoved_tally s) f (unmoved_refl s)

/-! ### Referencing and arrival -/

/-- R77: whether the count lies beyond the tolerance of where it is referenced. -/
abbrev mismatchAt (p : Nat) : Prop :=
  s.curtain.referenced = true
    ∧ s.tables.curtain.tolerance.toNat < max p s.curtain.position - min p s.curtain.position

theorem referenceAt_curtain (p : Nat) : (referenceAt tally p s).curtain = { s.curtain with
    position := p, referenced := true
    faults := if mismatchAt s p then addFault s.curtain.faults .positionMismatch else s.curtain.faults } := by
  unfold referenceAt
  dsimp only
  simp only [Bool.and_eq_true, decide_eq_true_eq]
  split
  next => rw [updCurtain_curtain, recordFault_curtain]
  next => rfl

@[simp] theorem referenceAt_unmoved (p : Nat) : (referenceAt tally p s).tables = s.tables
    ∧ (referenceAt tally p s).lines = s.lines ∧ (referenceAt tally p s).now = s.now :=
  referenceAt_keeps (curtainClosed_unmoved s) (unmoved_tally s) p (unmoved_refl s)

/-! ### The slow zone -/

theorem slowHolds_iff : slowHolds s = true ↔ (s.curtain.referenced = true
    ∧ s.curtain.position ≤ s.tables.curtain.slowStart.toNat) ∨ s.lines.slowSw = true := by
  simp [slowHolds]

theorem switchLate_iff : switchLate s = true ↔ s.curtain.referenced = true ∧ s.lines.slowSw = false
    ∧ s.curtain.position + s.tables.curtain.tolerance.toNat ≤ s.tables.curtain.slowStart.toNat := by
  simp [switchLate, and_assoc]

theorem switchEarly_iff : switchEarly s = true ↔ s.curtain.referenced = true
    ∧ s.tables.curtain.slowStart.toNat + s.tables.curtain.tolerance.toNat < s.curtain.position := by
  simp [switchEarly]

theorem compareSwitch_curtain (asserts : Bool) : (compareSwitch tally asserts s).curtain = { s.curtain with
    faults := if (asserts && switchEarly s) || switchLate s then addFault s.curtain.faults .slowSwitchMismatch
      else s.curtain.faults } := by
  unfold compareSwitch
  split
  next => rw [recordFault_curtain]
  next => rfl

@[simp] theorem compareSwitch_unmoved (asserts : Bool) : (compareSwitch tally asserts s).tables = s.tables
    ∧ (compareSwitch tally asserts s).lines = s.lines ∧ (compareSwitch tally asserts s).now = s.now :=
  compareSwitch_keeps (curtainClosed_unmoved s) (unmoved_tally s) asserts (unmoved_refl s)

/-- The slow zone is reached or not by position, reference, tables and lines alone. -/
theorem slowHolds_congr {s t : State} (hreferenced : t.curtain.referenced = s.curtain.referenced)
    (hposition : t.curtain.position = s.curtain.position) (htables : t.tables = s.tables) (hlines : t.lines = s.lines) :
    slowHolds t = slowHolds s := by
  rw [slowHolds, hreferenced, hposition, htables, hlines, slowHolds]

theorem switchLate_congr {s t : State} (hreferenced : t.curtain.referenced = s.curtain.referenced)
    (hposition : t.curtain.position = s.curtain.position) (htables : t.tables = s.tables) (hlines : t.lines = s.lines) :
    switchLate t = switchLate s := by
  rw [switchLate, hreferenced, hposition, htables, hlines, switchLate]

theorem becomeSlowing_curtain : (becomeSlowing s).curtain
    = { s.curtain with state := .slowing, slowEntry := some s.curtain.position } := by
  rw [becomeSlowing, toState_curtain, updCurtain_curtain]

theorem enterSlowing_curtain : (enterSlowing s).curtain
    = if s.curtain.state = .descending ∧ slowHolds s = true then
        { s.curtain with state := .slowing, slowEntry := some s.curtain.position } else s.curtain := by
  unfold enterSlowing
  simp only [Bool.and_eq_true, decide_eq_true_eq]
  split
  next => rw [becomeSlowing_curtain]
  next => rfl

/-- R85: entry to DESCENDING, and to SLOWING where the slow zone is reached. -/
theorem enterDescending_curtain : (enterDescending tally s).curtain = { s.curtain with
    state := if slowHolds s then .slowing else .descending
    slowEntry := if slowHolds s then some s.curtain.position else s.curtain.slowEntry
    faults := if switchLate s then addFault s.curtain.faults .slowSwitchMismatch else s.curtain.faults } := by
  have hslow : slowHolds (toState .descending (compareSwitch tally false s)) = slowHolds s :=
    slowHolds_congr (by rw [toState_curtain, compareSwitch_curtain]) (by rw [toState_curtain, compareSwitch_curtain])
      (by simp) (by simp)
  rw [enterDescending, enterSlowing_curtain, hslow, toState_curtain, compareSwitch_curtain]
  cases slowHolds s <;> simp

/-- R85: the slow-zone test in a fall. -/
theorem slowZoneTest_curtain (asserts : Bool) : (slowZoneTest tally asserts s).curtain = { s.curtain with
    state := if s.curtain.state = .descending ∧ slowHolds s = true then .slowing else s.curtain.state
    slowEntry := if s.curtain.state = .descending ∧ slowHolds s = true then some s.curtain.position
      else s.curtain.slowEntry
    faults := if (asserts && switchEarly s) || switchLate s then addFault s.curtain.faults .slowSwitchMismatch
      else s.curtain.faults } := by
  have hslow : slowHolds (compareSwitch tally asserts s) = slowHolds s :=
    slowHolds_congr (by rw [compareSwitch_curtain]) (by rw [compareSwitch_curtain]) (by simp) (by simp)
  rw [slowZoneTest, enterSlowing_curtain, hslow, compareSwitch_curtain]
  dsimp only
  split <;> rfl

/-! ### Release, abort and arrival -/

theorem afterMs_eq (ms : Nat) : afterMs s ms = some (s.now + ms * 100) := by rw [afterMs, ticksPerMs]

theorem afterS_eq (n : Nat) : afterS s n = some (s.now + n * 100000) := by rw [afterS, ticksPerS]

/-- R79, R80, R85: a fall begins, with its window, its timers and the slow-zone test. -/
theorem fall_curtain : (enterDescending tally (fallBegins s)).curtain = { s.curtain with
    state := if slowHolds s then .slowing else .descending
    slowEntry := if slowHolds s then some s.curtain.position else none
    faults := if switchLate s then addFault s.curtain.faults .slowSwitchMismatch else s.curtain.faults
    window := ⟨0, none, 0⟩
    startTimer := some (s.now + s.tables.curtain.startWindow.toNat * 100)
    dropTimer := some (s.now + s.tables.curtain.maxDrop.toNat * 100000) } := by
  have hslow : slowHolds (fallBegins s) = slowHolds s := slowHolds_congr rfl rfl rfl rfl
  have hlate : switchLate (fallBegins s) = switchLate s := switchLate_congr rfl rfl rfl rfl
  rw [enterDescending_curtain, hslow, hlate]
  rfl

/-- The governor as a release leaves it (R80). -/
theorem releaseFromOut_curtain : (releaseFromOut tally s).curtain = { s.curtain with
    state := if slowHolds s then .slowing else .descending
    holdDrive := false
    slowEntry := if slowHolds s then some s.curtain.position else none
    faults := if switchLate s then addFault 0 .slowSwitchMismatch else 0
    window := ⟨0, none, 0⟩
    startTimer := some (s.now + s.tables.curtain.startWindow.toNat * 100)
    dropTimer := some (s.now + s.tables.curtain.maxDrop.toNat * 100000) } :=
  fall_curtain (updCurtain (fun c => { c with holdDrive := false, faults := 0 }) s)

theorem closeTest_of_running (pass : Bool) (total : Option Nat) (h : s.curtain.test.status = .running) :
    (closeTest pass total s).curtain = { s.curtain with
        test := { s.curtain.test with status := .closed pass, total := total, faults := s.curtain.faults } }
      ∧ (closeTest pass total s).phase = { s.phase with testValid := pass } := by
  unfold closeTest
  rw [h]
  simp

theorem closeTest_of_notRunning (pass : Bool) (total : Option Nat) (h : s.curtain.test.status ≠ .running) :
    closeTest pass total s = s := by
  unfold closeTest
  split
  next hrunning => exact absurd hrunning h
  next => rfl
  next => rfl

@[simp] theorem closeTest_unmoved (pass : Bool) (total : Option Nat) : (closeTest pass total s).tables = s.tables
    ∧ (closeTest pass total s).lines = s.lines ∧ (closeTest pass total s).now = s.now :=
  closeTest_keeps (curtainClosed_unmoved s) pass total (unmoved_refl s)

theorem toState_phase (st : CurtainState) : (toState st s).phase = s.phase := by
  unfold toState
  dsimp only
  split
  · rfl
  · rw [writeRecord_phase]
    rfl

theorem recordFault_phase (f : CurtainFault) : (recordFault tally f s).phase = s.phase := by
  unfold recordFault
  split
  · rfl
  · simp

theorem referenceAt_phase (p : Nat) : (referenceAt tally p s).phase = s.phase := by
  unfold referenceAt
  dsimp only
  split
  · exact recordFault_phase _ _
  · rfl

/-- The governor as arrival at IN leaves it but for the test record (R89). -/
def restingAt : Curtain := { s.curtain with
  state := .resting
  holdDrive := false
  raisePermit := false
  position := 0
  referenced := true
  faults := if mismatchAt s 0 then addFault s.curtain.faults .positionMismatch else s.curtain.faults
  demands := s.curtain.demands.atIn
  slowEntry := none
  startTimer := none
  stallTimer := none
  dropTimer := none
  raiseTimer := none }

/-- R98 case 1: the result of a test at arrival. -/
def passesAtIn : Bool := decide ((restingAt s).faults = 0)
  && decide ((s.now - s.curtain.test.started) / 100 ≤ s.tables.curtain.maxDrop.toNat * 1000)

theorem arriveIn_effect : ∃ test, (arriveIn tally s).curtain = { restingAt s with test := test }
    ∧ (s.curtain.test.status ≠ .running → test = s.curtain.test ∧ (arriveIn tally s).phase = s.phase)
    ∧ (s.curtain.test.status = .running → test.status = .closed (passesAtIn s)
        ∧ (arriveIn tally s).phase.testValid = passesAtIn s) := by
  have hstopped (u : State) (hu : u = updCurtain (fun c => { c with
      raisePermit := false, holdDrive := false, startTimer := none, stallTimer := none, dropTimer := none
      raiseTimer := none, demands := c.demands.atIn, slowEntry := none }) (referenceAt tally 0 s)) :
      { u.curtain with state := .resting } = restingAt s ∧ u.curtain.test = s.curtain.test
        ∧ u.curtain.faults = (restingAt s).faults ∧ u.tables = s.tables ∧ u.now = s.now ∧ u.phase = s.phase := by
    subst hu
    rw [updCurtain_curtain, referenceAt_curtain]
    exact ⟨rfl, rfl, rfl, by simp, by simp, referenceAt_phase s 0⟩
  obtain ⟨hcurtain, htest, hfaults, htables, hnow, hphase⟩ := hstopped _ rfl
  unfold arriveIn
  dsimp only
  generalize updCurtain _ (referenceAt tally 0 s) = u at hcurtain htest hfaults htables hnow hphase
  rw [tally_curtain, toState_curtain]
  have hpass : (decide (u.curtain.faults = 0)
      && decide (testMs u ≤ u.tables.curtain.maxDrop.toNat * 1000)) = passesAtIn s := by
    rw [passesAtIn, hfaults, testMs, htables, hnow, htest, ticksPerMs]
  by_cases hrunning : s.curtain.test.status = .running
  · obtain ⟨hclosed, hvalid⟩ := closeTest_of_running u (passesAtIn s) (some (min 65535 (testMs u)))
      ((congrArg _ htest).trans hrunning)
    have hat : closeTestAtIn u = closeTest (passesAtIn s) (some (min 65535 (testMs u))) u := by rw [closeTestAtIn, hpass]
    rw [hat, hclosed]
    refine ⟨_, congrArg (fun c : Curtain => { c with test := { u.curtain.test with
      status := .closed (passesAtIn s), total := some (min 65535 (testMs u)), faults := u.curtain.faults } }) hcurtain,
      fun h => absurd hrunning h, fun _ => ⟨rfl, ?_⟩⟩
    exact congrArg PhaseState.testValid ((toState_phase _ _).trans hvalid)
  · have hat : closeTestAtIn u = u := closeTest_of_notRunning u _ _ (by rwa [htest])
    rw [hat, hcurtain]
    exact ⟨s.curtain.test, rfl, fun _ => ⟨rfl, (toState_phase _ _).trans hphase⟩, fun h => absurd h hrunning⟩

end

end Sys2Proof.Machine
end


section
/-! The governor's counts: what becomes of the speed window, the fault set, the test record and the state (R76 to R98). -/

namespace Sys2Proof.Machine

/-! ### Speeds judged -/

/-- Of the governor, judging a speed changes the fault set and the test record alone, but for its first move; the faults
it adds are those of `Q`. -/
structure JudgedBy (Q : CurtainFault → Prop) (s t : State) : Prop where
  rest : t.curtain = { s.curtain with test := t.curtain.test, faults := t.curtain.faults }
  firstMove : t.curtain.test.firstMove = s.curtain.test.firstMove
  faults : ∀ f, hasFault t.curtain f = true ↔ hasFault s.curtain f = true ∨ Q f

namespace JudgedBy

variable {Q R : CurtainFault → Prop} {s t u : State}

theorem trans (h : JudgedBy Q s t) (k : JudgedBy R t u) : JudgedBy (fun f => Q f ∨ R f) s u where
  rest := k.rest.trans
    (congrArg (fun c : Curtain => { c with test := u.curtain.test, faults := u.curtain.faults }) h.rest)
  firstMove := k.firstMove.trans h.firstMove
  faults f := by rw [k.faults, h.faults, or_assoc]

theorem congr (h : JudgedBy Q s t) (hQ : ∀ f, Q f ↔ R f) : JudgedBy R s t :=
  ⟨h.rest, h.firstMove, fun f => by rw [h.faults, hQ]⟩

theorem refl (s : State) : JudgedBy (fun _ => False) s s := ⟨rfl, rfl, fun _ => by simp⟩

theorem updTest {f : TestRecord → TestRecord} (hf : ∀ r, (f r).firstMove = r.firstMove) (s : State) :
    JudgedBy (fun _ => False) s (updTest f s) := by
  unfold Machine.updTest
  split
  · exact ⟨rfl, hf _, fun _ => by simp [hasFault]⟩
  · exact refl s
  · exact refl s

theorem recordFault (f : CurtainFault) (s : State) : JudgedBy (fun g => f = g) s (recordFault tally f s) where
  rest := by rw [recordFault_curtain]
  firstMove := by rw [recordFault_curtain]
  faults g := by
    rw [recordFault_curtain, hasFault_iff]
    simp [getLsbD_addFault, hasFault]

/-- A fault recorded where a condition holds. -/
theorem recordIf (f : CurtainFault) (s : State) (p : Prop) [Decidable p] :
    JudgedBy (fun g => f = g ∧ p) s (if p then Machine.recordFault tally f s else s) := by
  split
  next hp => exact (recordFault f s).congr fun g => by simp [hp]
  next hp => exact (refl s).congr fun g => by simp [hp]

end JudgedBy

theorem updTest_tables (f : TestRecord → TestRecord) (s : State) : (updTest f s).tables = s.tables :=
  (updTest_keeps (curtainClosed_unmoved s) f (unmoved_refl s)).1

theorem judgeMain_judged (v : Nat) (s : State) : JudgedBy (fun f => 3 ≤ s.curtain.window.completed
    ∧ (.overspeed = f ∧ s.tables.curtain.vmax.toNat < v ∨ .underspeed = f ∧ v < s.tables.curtain.vmin.toNat))
    s (judgeMain tally v s) := by
  have hhigh := JudgedBy.updTest (f := fun t => { t with highMain := highest t.highMain v }) (fun _ => rfl) s
  unfold judgeMain
  dsimp only
  split
  next hfew => exact hhigh.congr fun f => by simp [Nat.not_le.mpr hfew]
  next hmany =>
    have hlow := hhigh.trans
      (JudgedBy.updTest (f := fun t => { t with lowMain := lowest t.lowMain v }) (fun _ => rfl) _)
    have hover := hlow.trans (JudgedBy.recordIf .overspeed _ (s.tables.curtain.vmax.toNat < v))
    exact (hover.trans (JudgedBy.recordIf .underspeed _ (v < s.tables.curtain.vmin.toNat))).congr fun f => by
      simp [Nat.not_lt.mp hmany]

theorem judgeSlow_judged (v : Nat) (s : State) : JudgedBy (fun f => .slowOverspeed = f
    ∧ ∃ entry, s.curtain.slowEntry = some entry ∧ s.curtain.position + s.tables.curtain.grace.toNat ≤ entry
      ∧ s.tables.curtain.vslow.toNat < v) s (judgeSlow tally v s) := by
  unfold judgeSlow
  split
  next hnone => exact (JudgedBy.refl s).congr fun f => by simp [hnone]
  next entry hentry =>
    split
    next hgrace =>
      have hhigh := JudgedBy.updTest (f := fun t => { t with highSlow := highest t.highSlow v }) (fun _ => rfl) s
      exact (hhigh.trans (JudgedBy.recordIf .slowOverspeed _ (s.tables.curtain.vslow.toNat < v))).congr fun f => by
        simp [hentry, hgrace]
    next hgrace => exact (JudgedBy.refl s).congr fun f => by simp [hentry, hgrace]

/-! ### The speed window -/

/-- The speed window after a downward count in a fall (R82). -/
def windowAfter (s : State) : SpeedWindow :=
  match s.curtain.window.reference with
  | none => { s.curtain.window with reference := some (s.curtain.capture, 0) }
  | some _ =>
    if s.curtain.window.count + 1 < s.tables.curtain.window.toNat then
      { s.curtain.window with count := s.curtain.window.count + 1 }
    else ⟨0, some (s.curtain.capture, 0), min 3 (s.curtain.window.completed + 1)⟩

/-- The stall timer after a downward count in a fall (R87). -/
def stallAfter (s : State) : Timer :=
  if s.curtain.window.reference ≠ none ∧ s.curtain.window.count + 1 < s.tables.curtain.window.toNat then
    s.curtain.stallTimer
  else some (s.now + s.tables.curtain.stallLimit.toNat * 100)

/-- The speed of the window that ends at a count, from its reference (R83). -/
def endSpeed (s : State) (reference wraps : Nat) : Nat :=
  min 65535 (100 * s.tables.curtain.window.toNat * s.tables.curtain.pitch.toNat
    / max 1 (wraps * 65536 + s.curtain.capture - reference))

/-- The faults a downward count in a fall adds by the speed of the window it ends (R84, R86). -/
def judgedAt (s : State) (f : CurtainFault) : Prop :=
  ∃ reference wraps, s.curtain.window.reference = some (reference, wraps)
    ∧ s.tables.curtain.window.toNat ≤ s.curtain.window.count + 1
    ∧ if s.curtain.state = .slowing then
        .slowOverspeed = f ∧ ∃ entry, s.curtain.slowEntry = some entry
          ∧ s.curtain.position + s.tables.curtain.grace.toNat ≤ entry
          ∧ s.tables.curtain.vslow.toNat < endSpeed s reference wraps
      else 2 ≤ s.curtain.window.completed
        ∧ (.overspeed = f ∧ s.tables.curtain.vmax.toNat < endSpeed s reference wraps
          ∨ .underspeed = f ∧ endSpeed s reference wraps < s.tables.curtain.vmin.toNat)

theorem judgedAt_of_main {s : State} (h : s.curtain.state ≠ .slowing) (f : CurtainFault) : judgedAt s f ↔
    ∃ reference wraps, s.curtain.window.reference = some (reference, wraps)
      ∧ s.tables.curtain.window.toNat ≤ s.curtain.window.count + 1 ∧ 2 ≤ s.curtain.window.completed
      ∧ (.overspeed = f ∧ s.tables.curtain.vmax.toNat < endSpeed s reference wraps
        ∨ .underspeed = f ∧ endSpeed s reference wraps < s.tables.curtain.vmin.toNat) := by
  simp only [judgedAt, if_neg h]

theorem judgedAt_of_slow {s : State} (h : s.curtain.state = .slowing) (f : CurtainFault) : judgedAt s f ↔
    ∃ reference wraps, s.curtain.window.reference = some (reference, wraps)
      ∧ s.tables.curtain.window.toNat ≤ s.curtain.window.count + 1 ∧ .slowOverspeed = f
      ∧ ∃ entry, s.curtain.slowEntry = some entry ∧ s.curtain.position + s.tables.curtain.grace.toNat ≤ entry
        ∧ s.tables.curtain.vslow.toNat < endSpeed s reference wraps := by
  simp only [judgedAt, if_pos h]

/-- The governor after a count moved its window and its stall timer. -/
def windowed (s : State) : State :=
  s.withCurtain { s.curtain with window := windowAfter s, stallTimer := stallAfter s }

theorem judged_of_moved {Q : CurtainFault → Prop} {s t : State} (h : t.curtain = (windowed s).curtain)
    (hQ : ∀ f, ¬Q f) : JudgedBy Q (windowed s) t where
  rest := by rw [h]
  firstMove := by rw [h]
  faults f := by rw [h]; simp [hQ f]

theorem windowEnd_judged {s : State} {reference wraps : Nat}
    (href : s.curtain.window.reference = some (reference, wraps))
    (hlast : ¬s.curtain.window.count + 1 < s.tables.curtain.window.toNat) :
    JudgedBy (judgedAt s) (windowed s) (windowEnd tally reference wraps s) := by
  have hended : updCurtain (fun c => { c with
      window := ⟨0, some (c.capture, 0), min 3 (c.window.completed + 1)⟩
      stallTimer := afterMs s s.tables.curtain.stallLimit.toNat }) s = windowed s := by
    simp [windowed, updCurtain, windowAfter, stallAfter, href, hlast, afterMs_eq]
  have hcompleted : (windowed s).curtain.window.completed = min 3 (s.curtain.window.completed + 1) := by
    simp [windowed, windowAfter, href, hlast]
  have hspeed : speedOf s.tables.curtain.window.toNat s.tables.curtain.pitch.toNat wraps s.curtain.capture reference
      = endSpeed s reference wraps := rfl
  unfold windowEnd
  dsimp only
  rw [hended, hspeed]
  split
  next hslow =>
    refine (judgeSlow_judged _ _).congr fun f => ?_
    unfold judgedAt
    simp only [href, Option.some.injEq, Prod.mk.injEq, Nat.not_lt.mp hlast, true_and, if_pos hslow]
    exact ⟨fun h => ⟨_, _, ⟨rfl, rfl⟩, h⟩, fun ⟨_, _, ⟨hr, hw⟩, h⟩ => by subst hr hw; exact h⟩
  next hmain =>
    refine (judgeMain_judged _ _).congr fun f => ?_
    unfold judgedAt
    have hthree : 3 ≤ (windowed s).curtain.window.completed ↔ 2 ≤ s.curtain.window.completed := by
      rw [hcompleted]
      omega
    simp only [href, Option.some.injEq, Prod.mk.injEq, Nat.not_lt.mp hlast, true_and, if_neg hmain, hthree]
    exact ⟨fun h => ⟨_, _, ⟨rfl, rfl⟩, h⟩, fun ⟨_, _, ⟨hr, hw⟩, h⟩ => by subst hr hw; exact h⟩

/-- R82 to R84, R86: a downward count in the speed window. -/
theorem countWindow_judged (s : State) : JudgedBy (judgedAt s) (windowed s) (countWindow tally s) := by
  unfold countWindow
  split
  next href =>
    refine judged_of_moved ?_ fun f ⟨_, _, hr, _⟩ => nomatch href.symm.trans hr
    simp [windowed, takeReference, windowAfter, stallAfter, href, afterMs_eq]
  next reference wraps href =>
    split
    next hmore =>
      refine judged_of_moved ?_ fun f ⟨_, _, _, hlast, _⟩ => absurd hmore (Nat.not_lt.mpr hlast)
      simp [windowed, windowAfter, stallAfter, href, hmore]
    next hlast => exact windowEnd_judged href hlast

theorem countWindow_unmoved (s : State) : Unmoved s (countWindow tally s) :=
  countWindow_keeps (curtainClosed_unmoved s) (unmoved_tally s) (unmoved_refl s)

/-! ### Downward counts -/

theorem noteFirstMove_curtain (s : State) : ∃ test, (noteFirstMove s).curtain = { s.curtain with test := test }
    ∧ (s.curtain.test.status = .running → test.firstMove
      = some (s.curtain.test.firstMove.getD (min 65535 ((s.now - s.curtain.test.started) / 100)))) := by
  unfold noteFirstMove updTest testMs
  rw [ticksPerMs]
  cases hstatus : s.curtain.test.status with
  | running =>
    refine ⟨_, rfl, fun _ => ?_⟩
    cases hfirst : s.curtain.test.firstMove <;> simp [hfirst]
  | empty => exact ⟨s.curtain.test, rfl, fun h => nomatch h⟩
  | closed => exact ⟨s.curtain.test, rfl, fun h => nomatch h⟩

theorem noteFirstMove_unmoved (s : State) : Unmoved s (noteFirstMove s) :=
  noteFirstMove_keeps (curtainClosed_unmoved s) (unmoved_refl s)

/-- The state after the encoder moved the position one count downward. -/
def countedDown (s : State) : State := updCurtain (fun c => { c with position := c.position - 1 }) s

/-- The state after the encoder moved the position one count upward. -/
def countedUp (s : State) : State := updCurtain (fun c => { c with
  position := if c.position < s.tables.curtain.travel.toNat then c.position + 1 else c.position }) s

theorem downCount_eq (rep : Reporter) {s : State} (hfree : inConflict s = false) : downCount rep s = match s.curtain.state with
    | .unknown => enterDescending rep (takeReference (updCurtain (fun c => { c with
        startTimer := none
        dropTimer := if c.dropTimer.isSome then c.dropTimer else afterS s s.tables.curtain.maxDrop.toNat })
          (countedDown s)))
    | .descending | .slowing => slowZoneTest rep false (countWindow rep (noteFirstMove
        (updCurtain (fun c => { c with startTimer := none }) (countedDown s))))
    | .stalled => leaveStalled rep (takeReference (noteFirstMove
        (updCurtain (fun c => { c with startTimer := none }) (countedDown s))))
    | .out => driftTest rep (countedDown s)
    | .raising | .resting => countedDown s := by
  have hnot : inConflict (updCurtain (fun c => { c with position := c.position - 1 }) s) = false := hfree
  unfold downCount
  dsimp only
  rw [hnot, if_neg Bool.false_ne_true]
  rfl

/-- A downward count in DESCENDING or SLOWING (R82 to R86, R98). -/
theorem downCount_inFall {s : State} (hfall : s.curtain.state = .descending ∨ s.curtain.state = .slowing)
    (hfree : inConflict s = false) :
    let u := countedDown s
    let enters := s.curtain.state = .descending ∧ slowHolds u = true
    let t := downCount tally s
    t.curtain = { u.curtain with
        state := if enters then .slowing else s.curtain.state
        slowEntry := if enters then some u.curtain.position else s.curtain.slowEntry
        startTimer := none, window := windowAfter s, stallTimer := stallAfter s
        test := t.curtain.test, faults := t.curtain.faults }
      ∧ (s.curtain.test.status = .running → t.curtain.test.firstMove
        = some (s.curtain.test.firstMove.getD (min 65535 ((s.now - s.curtain.test.started) / 100))))
      ∧ ∀ f, hasFault t.curtain f = true ↔ hasFault s.curtain f = true ∨ judgedAt u f
          ∨ (.slowSwitchMismatch = f ∧ switchLate u = true) := by
  dsimp only
  have hdown : downCount tally s = slowZoneTest tally false (countWindow tally (noteFirstMove
      (updCurtain (fun c => { c with startTimer := none }) (countedDown s)))) := by
    rw [downCount_eq _ hfree]
    rcases hfall with h | h <;> rw [h]
  obtain ⟨test, hnoted, hfirst⟩ :=
    noteFirstMove_curtain (updCurtain (fun c => { c with startTimer := none }) (countedDown s))
  obtain ⟨htables, hlines, hnow⟩ :=
    noteFirstMove_unmoved (updCurtain (fun c => { c with startTimer := none }) (countedDown s))
  rw [hdown]
  generalize noteFirstMove (updCurtain (fun c => { c with startTimer := none }) (countedDown s)) = v
    at hnoted htables hlines hnow
  have hwindow : windowAfter v = windowAfter s := by
    unfold windowAfter
    rw [hnoted, htables]
    rfl
  have hstall : stallAfter v = stallAfter s := by
    unfold stallAfter
    rw [hnoted, htables, hnow]
    rfl
  have hjudgedAt (f : CurtainFault) : judgedAt v f ↔ judgedAt (countedDown s) f := by
    unfold judgedAt endSpeed
    rw [hnoted, htables]
    exact Iff.rfl
  have hcounted := countWindow_judged v
  obtain ⟨hctables, hclines, -⟩ := countWindow_unmoved v
  generalize countWindow tally v = w at hcounted hctables hclines
  have hw : w.curtain = { (countedDown s).curtain with
      startTimer := none, window := windowAfter s, stallTimer := stallAfter s
      test := w.curtain.test, faults := w.curtain.faults } := by
    refine hcounted.rest.trans ?_
    rw [windowed, withCurtain_curtain, hwindow, hstall, hnoted]
    rfl
  have hslow : slowHolds w = slowHolds (countedDown s) :=
    slowHolds_congr (by rw [hw]) (by rw [hw]) (hctables.trans htables) (hclines.trans hlines)
  have hlate : switchLate w = switchLate (countedDown s) :=
    switchLate_congr (by rw [hw]) (by rw [hw]) (hctables.trans htables) (hclines.trans hlines)
  have hstate : w.curtain.state = s.curtain.state := by rw [hw]; rfl
  rw [slowZoneTest_curtain, hslow, hlate, hstate]
  refine ⟨?_, fun hrunning => ?_, fun f => ?_⟩
  · rw [hw]
    rfl
  · refine hcounted.firstMove.trans ?_
    rw [windowed, withCurtain_curtain, hnoted]
    exact hfirst hrunning
  · have hbefore : hasFault (windowed v).curtain f = hasFault s.curtain f := by
      rw [windowed, withCurtain_curtain, hnoted]
      rfl
    have hmid := hcounted.faults f
    rw [hbefore, hjudgedAt] at hmid
    rw [← or_assoc, ← hmid, hasFault_iff, hasFault_iff]
    cases switchLate (countedDown s)
    · simp
    · simp [getLsbD_addFault]

/-- A downward count in UNKNOWN begins a fall (R81, R85). -/
theorem downCount_unknown {s : State} (hstate : s.curtain.state = .unknown) (hfree : inConflict s = false) :
    let u := countedDown s
    (downCount tally s).curtain = { u.curtain with
        state := if slowHolds u then .slowing else .descending
        slowEntry := if slowHolds u then some u.curtain.position else s.curtain.slowEntry
        dropTimer := if s.curtain.dropTimer = none then some (s.now + s.tables.curtain.maxDrop.toNat * 100000)
          else s.curtain.dropTimer
        startTimer := none
        stallTimer := some (s.now + s.tables.curtain.stallLimit.toNat * 100)
        window := { s.curtain.window with reference := some (s.curtain.capture, 0) }
        faults := if switchLate u then addFault s.curtain.faults .slowSwitchMismatch else s.curtain.faults } := by
  dsimp only
  rw [downCount_eq _ hfree, hstate]
  dsimp only
  rw [enterDescending_curtain]
  generalize hv : takeReference _ = v
  have hslow : slowHolds v = slowHolds (countedDown s) := by subst hv; exact slowHolds_congr rfl rfl rfl rfl
  have hlate : switchLate v = switchLate (countedDown s) := by subst hv; exact switchLate_congr rfl rfl rfl rfl
  rw [hslow, hlate]
  subst hv
  have hdrop : (if s.curtain.dropTimer = none then some (s.now + s.tables.curtain.maxDrop.toNat * 100000)
      else s.curtain.dropTimer) = if s.curtain.dropTimer.isSome then s.curtain.dropTimer
        else afterS s s.tables.curtain.maxDrop.toNat := by
    cases s.curtain.dropTimer <;> simp [afterS_eq]
  rw [hdrop]
  rfl

theorem leaveStalled_curtain (s : State) : (leaveStalled tally s).curtain = { s.curtain with
    state := if s.curtain.slowEntry ≠ none ∨ slowHolds s = true then .slowing else .descending
    slowEntry := if s.curtain.slowEntry = none ∧ slowHolds s = true then some s.curtain.position
      else s.curtain.slowEntry
    faults := if switchLate s then addFault s.curtain.faults .slowSwitchMismatch else s.curtain.faults } := by
  have hcompared := compareSwitch_curtain s false
  have hslow : slowHolds (compareSwitch tally false s) = slowHolds s :=
    slowHolds_congr (by rw [hcompared]) (by rw [hcompared]) (by simp) (by simp)
  unfold leaveStalled
  dsimp only
  rw [hslow]
  have hentry : (compareSwitch tally false s).curtain.slowEntry = s.curtain.slowEntry := by rw [hcompared]
  rw [hentry]
  cases hkept : s.curtain.slowEntry with
  | some entry => simp [toState_curtain, hcompared, hkept]
  | none =>
    cases slowHolds s
    · simp [toState_curtain, hcompared, hkept]
    · simp [becomeSlowing_curtain, hcompared]

/-- A downward count in STALLED returns the state (R87). -/
theorem downCount_stalled {s : State} (hstate : s.curtain.state = .stalled) (hfree : inConflict s = false) :
    let u := countedDown s
    ∃ test, (downCount tally s).curtain = { u.curtain with
        state := if s.curtain.slowEntry ≠ none ∨ slowHolds u = true then .slowing else .descending
        slowEntry := if s.curtain.slowEntry = none ∧ slowHolds u = true then some u.curtain.position
          else s.curtain.slowEntry
        startTimer := none
        stallTimer := some (s.now + s.tables.curtain.stallLimit.toNat * 100)
        window := { s.curtain.window with reference := some (s.curtain.capture, 0) }
        faults := if switchLate u then addFault s.curtain.faults .slowSwitchMismatch else s.curtain.faults
        test := test } := by
  dsimp only
  obtain ⟨test, hnoted, -⟩ :=
    noteFirstMove_curtain (updCurtain (fun c => { c with startTimer := none }) (countedDown s))
  obtain ⟨htables, hlines, hnow⟩ :=
    noteFirstMove_unmoved (updCurtain (fun c => { c with startTimer := none }) (countedDown s))
  rw [downCount_eq _ hfree, hstate]
  dsimp only
  rw [leaveStalled_curtain]
  generalize noteFirstMove (updCurtain (fun c => { c with startTimer := none }) (countedDown s)) = v
    at hnoted htables hlines hnow
  have hslow : slowHolds (takeReference v) = slowHolds (countedDown s) :=
    slowHolds_congr (by simp [takeReference, hnoted]) (by simp [takeReference, hnoted]) htables hlines
  have hlate : switchLate (takeReference v) = switchLate (countedDown s) :=
    switchLate_congr (by simp [takeReference, hnoted]) (by simp [takeReference, hnoted]) htables hlines
  rw [hslow, hlate]
  refine ⟨test, ?_⟩
  have htables' : v.tables = s.tables := htables
  have hnow' : v.now = s.now := hnow
  simp only [takeReference, updCurtain_curtain, hnoted, afterMs_eq, htables', hnow']
  rfl

theorem driftTest_curtain (s : State) : (driftTest tally s).curtain = { s.curtain with
    faults := if s.curtain.referenced = true
        ∧ s.curtain.position + s.tables.curtain.driftTol.toNat < s.tables.curtain.travel.toNat
      then addFault s.curtain.faults .drift else s.curtain.faults } := by
  unfold driftTest
  simp only [Bool.and_eq_true, decide_eq_true_eq]
  split
  next => rw [recordFault_curtain]
  next => rfl

/-- A downward count in OUT (R95). -/
theorem downCount_out {s : State} (hstate : s.curtain.state = .out) (hfree : inConflict s = false) :
    downCount tally s = driftTest tally (countedDown s) := by
  rw [downCount_eq _ hfree, hstate]

/-- A downward count where it moves the position alone. -/
theorem downCount_still {s : State} (hstate : s.curtain.state ∈ [.raising, .resting]) (hfree : inConflict s = false) :
    downCount tally s = countedDown s := by
  rw [downCount_eq _ hfree]
  simp only [List.mem_cons, List.not_mem_nil, or_false] at hstate
  rcases hstate with h | h <;> rw [h]

theorem downCount_conflict {s : State} (h : inConflict s = true) : downCount tally s = countedDown s := if_pos h

/-! ### Upward counts -/

theorem upCount_conflict {s : State} (h : inConflict s = true) : upCount tally s = countedUp s := if_pos h

theorem upCount_eq {s : State} (hfree : inConflict s = false) : upCount tally s = match s.curtain.state with
    | .raising => updCurtain (fun c => { c with startTimer := none }) (countedUp s)
    | .descending | .slowing | .stalled => updCurtain (fun c => { c with window := freshWindow }) (countedUp s)
    | .out => driftTest tally (countedUp s)
    | .unknown | .resting => countedUp s := by
  have hnot : inConflict (updCurtain (fun c => { c with
      position := if c.position < s.tables.curtain.travel.toNat then c.position + 1 else c.position }) s) = false := hfree
  unfold upCount
  dsimp only
  rw [hnot, if_neg Bool.false_ne_true]
  rfl

/-- Every count leaves the position where the encoder moved it. -/
theorem downCount_position (s : State) : (downCount tally s).curtain.position = s.curtain.position - 1 := by
  cases hfree : inConflict s with
  | true => rw [downCount_conflict hfree]; rfl
  | false =>
    cases hstate : s.curtain.state with
    | unknown => rw [downCount_unknown hstate hfree]; rfl
    | descending => rw [(downCount_inFall (.inl hstate) hfree).1]; rfl
    | slowing => rw [(downCount_inFall (.inr hstate) hfree).1]; rfl
    | stalled =>
      obtain ⟨test, h⟩ := downCount_stalled hstate hfree
      rw [h]
      rfl
    | out => rw [downCount_out hstate hfree, driftTest_curtain]; rfl
    | raising | resting => rw [downCount_still (by rw [hstate]; decide) hfree]; rfl

theorem upCount_position (s : State) : (upCount tally s).curtain.position
    = if s.curtain.position < s.tables.curtain.travel.toNat then s.curtain.position + 1 else s.curtain.position := by
  cases hfree : inConflict s with
  | true => rw [upCount_conflict hfree]; rfl
  | false =>
    rw [upCount_eq hfree]
    cases s.curtain.state with
    | out => dsimp only; rw [driftTest_curtain]; rfl
    | unknown | descending | slowing | stalled | raising | resting => rfl

end Sys2Proof.Machine
end


section
/-! The encoder's commands (R76, R81 to R87, R94, R95, R98). -/

namespace Sys2Proof.Machine

/-! ### Commands of the governor -/

/-- The act's end leaves the governor, the phase, the lines and zone 64 as the shadow of the act has them. -/
theorem Shadows.ended {I : State → Prop} {u v : State} (h : Shadows I u v) : (endAct u).curtain = v.curtain
    ∧ (endAct u).phase = v.phase ∧ (endAct u).lines = v.lines ∧ (zoneAt (endAct u) 64).state = (zoneAt v 64).state := by
  refine ⟨?_, ?_, ?_, ?_⟩
  · rw [endAct_curtain, h.curtain]
  · rw [endAct_phase, h.phase]
  · rw [endAct_lines, h.lines]
  · rw [zoneAt_congr (endAct_monitor u), h.zone]

/-- What a line's command may touch, from what its operation touches. -/
theorem onlyTouches_lines {s u : State} {x : Lines} (h : OnlyTouches alarmReach (s.withLines x) u) :
    OnlyTouches (.lines :: alarmReach) s (endAct u) ∧ (endAct u).lines = x := by
  have hact : OnlyTouches alarmReach (s.withLines x) (endAct u) := onlyTouches_trans h (endAct_onlyTouches u)
  exact ⟨onlyTouches_trans (onlyTouches_mono (by simp) (onlyTouches_withLines s x))
    (onlyTouches_mono (fun _ => List.mem_cons_of_mem _) hact), hact .lines (by decide)⟩

/-- What the governor's operations touch. -/
theorem governorReach (s : State) : CurtainClosed (OnlyTouches alarmReach s) := (alarmClosed_onlyTouches s).toCurtain

theorem reportReach (s : State) (r : CurtainReport) {t : State} (h : OnlyTouches alarmReach s t) :
    OnlyTouches alarmReach s (reportCurtain r t) := reportCurtain_keeps (alarmClosed_onlyTouches s) r h

/-! ### Samples of the pair -/

/-- The state with a sample of the pair taken. -/
def sampled (a b : Bool) (s : State) : State := s.withLines { s.lines with encA := a, encB := b }

section
variable {s : State} {a b : Bool}

theorem exec_encoderTransition {u : State} (h : encoderSample a b s = u) :
    exec (.encoderTransition a b) s = .next (endAct u) := by
  rw [← h]
  rfl

theorem encoderSample_same (ha : s.lines.encA = a) (hb : s.lines.encB = b) : encoderSample a b s = s := by
  subst ha hb
  simp only [encoderSample, bne_self_eq_false, Bool.and_self, Bool.or_self, Bool.false_eq_true, if_false]
  rfl

theorem encoderSample_one (h : (s.lines.encA ≠ a ∧ s.lines.encB = b) ∨ (s.lines.encA = a ∧ s.lines.encB ≠ b)) :
    encoderSample a b s = if (s.lines.encB ≠ b ∧ b ≠ a) ∨ (s.lines.encA ≠ a ∧ a = b)
      then downCount reportCurtain (sampled a b s) else upCount reportCurtain (sampled a b s) := by
  unfold encoderSample countsDown sampled
  dsimp only
  rcases h with ⟨ha, hb⟩ | ⟨ha, hb⟩ <;> cases a <;> cases b <;> simp_all

theorem encoderSample_both (ha : s.lines.encA ≠ a) (hb : s.lines.encB ≠ b) :
    encoderSample a b s = illegalCount reportCurtain (sampled a b s) := by
  unfold encoderSample sampled
  simp [ha, hb]

theorem encoderSample_down (ha : s.lines.encA = a) (hb : s.lines.encB = a) :
    encoderSample a (!a) s = downCount reportCurtain (sampled a (!a) s) := by
  rw [encoderSample_one (.inr ⟨ha, by simp [hb]⟩), if_pos (.inl ⟨by simp [hb], by simp⟩)]

theorem encoderSample_up (ha : s.lines.encA = a) (hb : s.lines.encB = a) :
    encoderSample (!a) a s = upCount reportCurtain (sampled (!a) a s) := by
  rw [encoderSample_one (.inl ⟨by simp [ha], hb⟩), if_neg (by simp [hb])]

theorem sampled_shadows (hlaw : AlarmLaw s) : Shadows AlarmLaw (sampled a b s) (sampled a b s) := shadows_refl hlaw

theorem inConflict_iff : inConflict s = true ↔ s.lines.limitIn = true ∧ s.lines.limitOut = true := by simp [inConflict]

theorem inConflict_false (h : ¬(s.lines.limitIn = true ∧ s.lines.limitOut = true)) : inConflict s = false :=
  Bool.eq_false_iff.mpr fun hc => h (inConflict_iff.mp hc)

/-- A downward sample answers what the shadow of the count says of the governor. -/
theorem answers_down {P : State → Prop} (hlaw : AlarmLaw s) (ha : s.lines.encA = a) (hb : s.lines.encB = a)
    (h : ∀ t, t = endAct (downCount reportCurtain (sampled a (!a) s)) →
      t.curtain = (downCount tally (sampled a (!a) s)).curtain → P t) : Answers (.encoderTransition a (!a)) s P :=
  ⟨_, exec_encoderTransition (encoderSample_down ha hb),
    h _ rfl ((sampled_shadows hlaw).downCount reports_reportCurtain).ended.1⟩

theorem answers_up {P : State → Prop} (hlaw : AlarmLaw s) (ha : s.lines.encA = a) (hb : s.lines.encB = a)
    (h : ∀ t, t.curtain = (upCount tally (sampled (!a) a s)).curtain → P t) : Answers (.encoderTransition (!a) a) s P :=
  ⟨_, exec_encoderTransition (encoderSample_up ha hb),
    h _ ((sampled_shadows hlaw).upCount reports_reportCurtain).ended.1⟩

end

/-- Settles O22, by what a count, an illegal transition and no transition make of the position. -/
theorem encoderMovesCount : Obligations.EncoderMovesCount := by
  intro s a b hlaw
  refine ⟨fun ha hb => ?same, fun hone => ?one, fun ha hb => ?both⟩
  case same => exact exec_encoderTransition (encoderSample_same ha hb)
  case one =>
    refine ⟨_, exec_encoderTransition (encoderSample_one hone), ?_⟩
    have hsampled : inConflict (sampled a b s) = inConflict s := rfl
    by_cases hdown : (s.lines.encB ≠ b ∧ b ≠ a) ∨ (s.lines.encA ≠ a ∧ a = b)
    · rw [if_pos hdown, if_pos hdown]
      obtain ⟨htouches, hlines⟩ := onlyTouches_lines (downCount_keeps (governorReach (sampled a b s))
        (reportReach (sampled a b s)) (onlyTouches_refl _ _))
      obtain ⟨hcurtain, -⟩ := ((sampled_shadows (a := a) (b := b) hlaw).downCount reports_reportCurtain).ended
      refine ⟨htouches, hlines, ?_, fun hconflict => ?_⟩
      · rw [hcurtain, downCount_position]
        rfl
      · rw [hcurtain, downCount_conflict (hsampled.trans (inConflict_iff.mpr hconflict))]
        rfl
    · rw [if_neg hdown, if_neg hdown]
      obtain ⟨htouches, hlines⟩ := onlyTouches_lines (upCount_keeps (governorReach (sampled a b s))
        (reportReach (sampled a b s)) (onlyTouches_refl _ _))
      obtain ⟨hcurtain, -⟩ := ((sampled_shadows (a := a) (b := b) hlaw).upCount reports_reportCurtain).ended
      refine ⟨htouches, hlines, ?_, fun hconflict => ?_⟩
      · rw [hcurtain, upCount_position]
        rfl
      · rw [hcurtain, upCount_conflict (hsampled.trans (inConflict_iff.mpr hconflict))]
        rfl
  case both =>
    refine ⟨_, exec_encoderTransition (encoderSample_both ha hb), ?_⟩
    obtain ⟨htouches, hlines⟩ := onlyTouches_lines (illegalCount_keeps (governorReach (sampled a b s))
      (reportReach (sampled a b s)) (onlyTouches_refl _ _))
    obtain ⟨hcurtain, -⟩ := ((sampled_shadows (a := a) (b := b) hlaw).illegalCount reports_reportCurtain).ended
    exact ⟨htouches, hlines, hcurtain.trans (recordFault_curtain _ _)⟩

theorem speedWindowCounts : Parts.SpeedWindowCounts := by
  intro s a hlaw hfall ha hb hfree
  refine answers_down hlaw ha hb fun t _ ht => ?_
  have hstate : s.curtain.state = .descending ∨ s.curtain.state = .slowing := by simpa using hfall
  obtain ⟨hcount, -, -⟩ := downCount_inFall (s := sampled a (!a) s) hstate (inConflict_false hfree)
  have hwindow : t.curtain.window = windowAfter s := by rw [ht, hcount]; rfl
  have hstall : t.curtain.stallTimer = stallAfter s := by rw [ht, hcount]; rfl
  dsimp only
  rw [hwindow, hstall, windowAfter, stallAfter]
  refine ⟨by rw [ht, hcount], fun href => ?_, fun href hmore => ?_, fun href hlast => ?_⟩
  · simp [href]
  · obtain ⟨r, hr⟩ := Option.ne_none_iff_exists'.mp href
    simp [hr, hmore]
  · obtain ⟨r, hr⟩ := Option.ne_none_iff_exists'.mp href
    simp [hr, Nat.not_lt.mpr hlast]

/-- Settles O23, by the faults that judging the speed of an ended window adds. -/
theorem speedJudged : Obligations.SpeedJudged := by
  intro s a reference wraps hlaw hstate ha hb hfree href hlast
  refine answers_down hlaw ha hb fun t _ ht => ?_
  obtain ⟨-, -, hfaults⟩ := downCount_inFall (s := sampled a (!a) s) (.inl hstate) (inConflict_false hfree)
  have hjudged (f : CurtainFault) : judgedAt (countedDown (sampled a (!a) s)) f ↔ 2 ≤ s.curtain.window.completed
      ∧ (.overspeed = f ∧ s.tables.curtain.vmax.toNat < endSpeed s reference wraps
        ∨ .underspeed = f ∧ endSpeed s reference wraps < s.tables.curtain.vmin.toNat) := by
    have hmain : (countedDown (sampled a (!a) s)).curtain.state ≠ .slowing :=
      fun hslow => nomatch hslow.symm.trans hstate
    rw [judgedAt_of_main hmain]
    refine ⟨fun ⟨r, w, hr, _, hfast⟩ => ?_, fun hfast => ⟨reference, wraps, href, hlast, hfast⟩⟩
    obtain ⟨rfl, rfl⟩ := Prod.mk.inj (Option.some.inj (href.symm.trans hr))
    exact hfast
  dsimp only
  rw [ht, hfaults, hfaults, hjudged, hjudged]
  constructor
  · simp [sampled, endSpeed]
  · simp [sampled, endSpeed]

theorem captureTimerWraps : Parts.CaptureTimerWraps := by
  intro s
  refine ⟨fun href => ?_, fun r w href => ?_⟩
  · have hwindow : { s.curtain.window with reference := none } = s.curtain.window := by rw [← href]
    simp only [exec, execCaptureTimerWrap, captureWraps, updCurtain, href, Option.map_none, hwindow]
  · have hmin : min 255 (w + 1) = if w < 255 then w + 1 else 255 := by split <;> omega
    simp only [exec, execCaptureTimerWrap, captureWraps, updCurtain, href, Option.map_some, hmin]

theorem slowZoneCounts : Parts.SlowZoneCounts := by
  intro s a hlaw ha hb hfree
  dsimp only
  have hslow := slowHolds_iff (countedDown (sampled a (!a) s))
  have hlate := switchLate_iff (countedDown (sampled a (!a) s))
  refine ⟨fun hstate => ?descending, fun hstate => ?slowing⟩
  case descending =>
    refine answers_down hlaw ha hb fun t _ ht => ?_
    obtain ⟨hcount, hfirst, hfaults⟩ :=
      downCount_inFall (s := sampled a (!a) s) (.inl hstate) (inConflict_false hfree)
    have hjudged (f : CurtainFault) (hf : .overspeed ≠ f) (hf' : .underspeed ≠ f) :
        ¬judgedAt (countedDown (sampled a (!a) s)) f := by
      have hmain : (countedDown (sampled a (!a) s)).curtain.state ≠ .slowing :=
        fun hslow => nomatch hslow.symm.trans hstate
      rw [judgedAt_of_main hmain]
      rintro ⟨_, _, _, _, _, hfast⟩
      exact hfast.elim (fun h => hf h.1) (fun h => hf' h.1)
    rw [ht]
    refine ⟨⟨hcount.trans ?_, ?_, hfirst⟩, ?_⟩
    · rw [congrArg Curtain.window hcount, congrArg Curtain.stallTimer hcount]
      simp only [hslow, show (sampled a (!a) s).curtain.state = .descending from hstate, true_and]
      rfl
    · rw [hfaults, hlate]
      simp only [hjudged .slowSwitchMismatch (by decide) (by decide), false_or, true_and]
      exact Iff.rfl
    · rw [Bool.eq_iff_iff, hfaults]
      simp only [hjudged .slowOverspeed (by decide) (by decide), reduceCtorEq, false_and, or_false]
      exact Iff.rfl
  case slowing =>
    refine answers_down hlaw ha hb fun t _ ht => ?_
    obtain ⟨hcount, hfirst, hfaults⟩ :=
      downCount_inFall (s := sampled a (!a) s) (.inr hstate) (inConflict_false hfree)
    have hjudged (f : CurtainFault) : judgedAt (countedDown (sampled a (!a) s)) f ↔ .slowOverspeed = f
        ∧ ∃ reference wraps entry : Nat, s.curtain.window.reference = some (reference, wraps)
          ∧ s.tables.curtain.window.toNat ≤ s.curtain.window.count + 1 ∧ s.curtain.slowEntry = some entry
          ∧ s.curtain.position - 1 + s.tables.curtain.grace.toNat ≤ entry
          ∧ s.tables.curtain.vslow.toNat < endSpeed s reference wraps := by
      rw [judgedAt_of_slow (show (countedDown (sampled a (!a) s)).curtain.state = .slowing from hstate)]
      exact ⟨fun ⟨r, w, href, hlast, hf, entry, hfast⟩ => ⟨hf, r, w, entry, href, hlast, hfast⟩,
        fun ⟨hf, r, w, entry, href, hlast, hfast⟩ => ⟨r, w, href, hlast, hf, entry, hfast⟩⟩
    have hnot : ¬((sampled a (!a) s).curtain.state = .descending ∧ slowHolds (countedDown (sampled a (!a) s)) = true) := by
      rintro ⟨hd, -⟩
      exact absurd (hd.symm.trans hstate) (by decide)
    rw [if_neg hnot, if_neg hnot] at hcount
    rw [ht]
    refine ⟨⟨hcount.trans ?_, ?_, hfirst⟩, ?_, ?_, ?_⟩
    · rw [congrArg Curtain.window hcount, congrArg Curtain.stallTimer hcount,
        show (sampled a (!a) s).curtain.state = .slowing from hstate]
      rfl
    · rw [hfaults, hlate, hjudged]
      simp only [reduceCtorEq, false_and, false_or, true_and]
      exact Iff.rfl
    · rw [Bool.eq_iff_iff, hfaults, hjudged]
      simp only [reduceCtorEq, false_and, or_false]
      exact Iff.rfl
    · rw [Bool.eq_iff_iff, hfaults, hjudged]
      simp only [reduceCtorEq, false_and, or_false]
      exact Iff.rfl
    · rw [hfaults, hjudged]
      simp only [reduceCtorEq, false_and, or_false, true_and]
      exact Iff.rfl

/-! ### Counts that begin a fall, and counts beside a fall -/

/-- The notice of an act finds room and leaves the log as it was (R137). -/
theorem endAct_log_of_room {s : State} (hfreed : s.calls.freed = false)
    (hroom : 12 ≤ freeBytes s.tables s.links .panelTx) : (endAct s).log = s.log := by
  rw [endAct, settle_of_quiet hfreed]
  unfold sendNotice
  dsimp only
  split
  · have hlength : ∀ u : State, (panelNotice u).length + 4 = 12 := fun u => by rw [panelNotice, length_mkFrame]; rfl
    rw [offer_of_room (by rw [hlength]; exact hroom)]
    rfl
  · rfl

/-- A change of state with its record: what it leaves in the log, and that PANEL-TX and the calls are as they were. -/
theorem toState_effect {st : CurtainState} {s : State} (h : s.curtain.state ≠ st) :
    (toState st s).log = loggedIn s.log ⟨s.log.next, houseClock s, .curtainState, 0, s.curtain.state.code, st.code⟩
      ∧ (toState st s).links.queues[QueueId.panelTx.ix] = s.links.queues[QueueId.panelTx.ix]
      ∧ (toState st s).calls = s.calls := by
  unfold toState
  dsimp only
  rw [if_neg h]
  refine ⟨?_, ?_, ?_⟩
  · rw [writeRecord_log]
    rfl
  · rw [writeRecord_queue_other (by decide)]
    rfl
  · rw [writeRecord_calls]
    rfl

theorem compareSwitch_of_inTime (rep : Reporter) {s : State} (h : switchLate s = false) :
    compareSwitch rep false s = s := if_neg (by simp [h])

/-- R87: with the switch in time, the return from STALLED writes one record. -/
theorem leaveStalled_effect (rep : Reporter) {s : State} (hstate : s.curtain.state = .stalled)
    (hlate : switchLate s = false) :
    let st : CurtainState := if s.curtain.slowEntry ≠ none ∨ slowHolds s = true then .slowing else .descending
    (leaveStalled rep s).log = loggedIn s.log ⟨s.log.next, houseClock s, .curtainState, 0, 6, st.code⟩
      ∧ (leaveStalled rep s).links.queues[QueueId.panelTx.ix] = s.links.queues[QueueId.panelTx.ix]
      ∧ (leaveStalled rep s).calls = s.calls := by
  dsimp only
  unfold leaveStalled
  dsimp only
  rw [compareSwitch_of_inTime rep hlate]
  have hne {st : CurtainState} (h : st ≠ .stalled) : s.curtain.state ≠ st := fun hs => h (hs.symm.trans hstate)
  have hcode : s.curtain.state.code = 6 := by rw [hstate]; rfl
  cases hentry : s.curtain.slowEntry with
  | some entry =>
    have heffect := toState_effect (hne (st := .slowing) (by decide))
    rw [hcode] at heffect
    simpa using heffect
  | none =>
    cases slowHolds s with
    | false =>
      have heffect := toState_effect (hne (st := .descending) (by decide))
      rw [hcode] at heffect
      simpa using heffect
    | true =>
      have heffect : (becomeSlowing s).log = loggedIn s.log
            ⟨s.log.next, houseClock s, .curtainState, 0, s.curtain.state.code, CurtainState.slowing.code⟩
          ∧ (becomeSlowing s).links.queues[QueueId.panelTx.ix] = s.links.queues[QueueId.panelTx.ix]
          ∧ (becomeSlowing s).calls = s.calls :=
        toState_effect (s := updCurtain (fun c => { c with slowEntry := some c.position }) s) (hne (by decide))
      rw [hcode] at heffect
      simpa using heffect

theorem noteFirstMove_rest (s : State) : (noteFirstMove s).log = s.log ∧ (noteFirstMove s).links = s.links
    ∧ (noteFirstMove s).calls = s.calls := by
  unfold noteFirstMove updTest
  split <;> exact ⟨rfl, rfl, rfl⟩

/-- R87: what a downward count in STALLED writes with the switch in time. -/
theorem downCount_stalled_effect (rep : Reporter) {s : State} (hstate : s.curtain.state = .stalled)
    (hfree : inConflict s = false) (hlate : switchLate (countedDown s) = false) :
    let st : CurtainState := if s.curtain.slowEntry ≠ none ∨ slowHolds (countedDown s) = true then .slowing
      else .descending
    (downCount rep s).log = loggedIn s.log ⟨s.log.next, houseClock s, .curtainState, 0, 6, st.code⟩
      ∧ (downCount rep s).links.queues[QueueId.panelTx.ix] = s.links.queues[QueueId.panelTx.ix]
      ∧ (downCount rep s).calls = s.calls := by
  obtain ⟨noted, hnoted, -⟩ :=
    noteFirstMove_curtain (updCurtain (fun c => { c with startTimer := none }) (countedDown s))
  obtain ⟨htables, hlines, hnow⟩ :=
    noteFirstMove_unmoved (updCurtain (fun c => { c with startTimer := none }) (countedDown s))
  obtain ⟨hlog, hlinks, hcalls⟩ :=
    noteFirstMove_rest (updCurtain (fun c => { c with startTimer := none }) (countedDown s))
  rw [downCount_eq rep hfree, hstate]
  dsimp only
  generalize noteFirstMove (updCurtain (fun c => { c with startTimer := none }) (countedDown s)) = v
    at hnoted htables hlines hnow hlog hlinks hcalls
  have hcurtain : (takeReference v).curtain = { (countedDown s).curtain with
      startTimer := none, window := (takeReference v).curtain.window, stallTimer := (takeReference v).curtain.stallTimer
      test := noted } := by
    rw [takeReference, updCurtain_curtain, hnoted]
    rfl
  have hreferenced : (takeReference v).curtain.referenced = (countedDown s).curtain.referenced := by rw [hcurtain]
  have hposition : (takeReference v).curtain.position = (countedDown s).curtain.position := by rw [hcurtain]
  have hslow : slowHolds (takeReference v) = slowHolds (countedDown s) :=
    slowHolds_congr (s := countedDown s) (t := takeReference v) hreferenced hposition htables hlines
  have hearly : switchLate (takeReference v) = false :=
    (switchLate_congr (s := countedDown s) (t := takeReference v) hreferenced hposition htables hlines).trans hlate
  obtain ⟨hlogged, hqueue, hsame⟩ :=
    leaveStalled_effect rep (s := takeReference v) (by rw [hcurtain]; exact hstate) hearly
  have hclock : houseClock (takeReference v) = houseClock s :=
    congrArg (fun n => BitVec.ofNat 32 (n / ticksPerMs)) (show (takeReference v).now = s.now from hnow)
  have hlog' : (takeReference v).log = s.log := hlog
  have hentry : (takeReference v).curtain.slowEntry = s.curtain.slowEntry := by rw [hcurtain]; rfl
  rw [hslow, hclock, hlog', hentry] at hlogged
  exact ⟨hlogged, hqueue.trans (congrArg (fun l : LinkState => l.queues[QueueId.panelTx.ix]) hlinks),
    hsame.trans hcalls⟩

theorem countsBeginFall : Parts.CountsBeginFall := by
  intro s a hlaw ha hb hfree
  dsimp only
  have hslow := slowHolds_iff (countedDown (sampled a (!a) s))
  have hlate := switchLate_iff (countedDown (sampled a (!a) s))
  refine ⟨fun hstate => ?unknown, fun hstate => ?stalled⟩
  case unknown =>
    refine answers_down hlaw ha hb fun t _ ht => ?_
    have hcount := downCount_unknown (s := sampled a (!a) s) hstate (inConflict_false hfree)
    simp only [hslow, hlate] at hcount
    rw [ht]
    have htest := congrArg Curtain.test hcount
    rw [htest]
    exact ⟨rfl, hcount⟩
  case stalled =>
    refine answers_down hlaw ha hb fun t htt ht => ?_
    obtain ⟨test, hcount⟩ := downCount_stalled (s := sampled a (!a) s) hstate (inConflict_false hfree)
    simp only [hslow, hlate] at hcount
    refine ⟨?_, fun hintime hfreed hroom => ?_⟩
    · have htest := congrArg Curtain.test hcount
      rw [ht, htest]
      exact hcount
    · have hearly : switchLate (countedDown (sampled a (!a) s)) = false :=
        Bool.eq_false_iff.mpr fun h => hintime (hlate.mp h)
      obtain ⟨hlog, hqueue, hcalls⟩ := downCount_stalled_effect reportCurtain (s := sampled a (!a) s) hstate
        (inConflict_false hfree) hearly
      have htables : (downCount reportCurtain (sampled a (!a) s)).tables = s.tables :=
        downCount_keeps (governorReach (sampled a (!a) s)) (reportReach _) (onlyTouches_refl _ _) .tables (by decide)
      simp only [hslow] at hlog
      rw [htt, endAct_log_of_room ((congrArg CallState.freed hcalls).trans hfreed)
        (by rw [freeBytes, htables, hqueue]; exact hroom)]
      exact hlog

theorem countsBesideFall : Parts.CountsBesideFall := by
  intro s a hlaw ha hb hfree
  dsimp only
  refine ⟨fun hstate => ?still, fun hstate => ?out, ?up⟩
  case still =>
    refine answers_down hlaw ha hb fun t _ ht => ?_
    rw [ht, downCount_still (s := sampled a (!a) s) hstate (inConflict_false hfree)]
    rfl
  case out =>
    refine answers_down hlaw ha hb fun t _ ht => ?_
    rw [ht, downCount_out (s := sampled a (!a) s) hstate (inConflict_false hfree), driftTest_curtain]
    rfl
  case up =>
    refine answers_up hlaw ha hb fun t ht => ?_
    have hup := upCount_eq (s := sampled (!a) a s) (inConflict_false hfree)
    have hfell {st : CurtainState} (hst : s.curtain.state = st) : (sampled (!a) a s).curtain.state = st := hst
    refine ⟨fun hst => ?_, fun hst => ?_, fun hst => ?_, fun hst => ?_⟩
    · rw [ht, hup, hfell hst]
      rfl
    · rw [ht, hup, hfell hst]
      dsimp only
      rw [driftTest_curtain]
      rfl
    · simp only [List.mem_cons, List.not_mem_nil, or_false] at hst
      rcases hst with h | h <;> rw [ht, hup, hfell h] <;> rfl
    · simp only [List.mem_cons, List.not_mem_nil, or_false] at hst
      rcases hst with h | h | h <;> rw [ht, hup, hfell h] <;> rfl

/-- Settles O24, by what each kind of count makes of the governor in each of its states. -/
theorem captureAndWindow : Obligations.CaptureAndWindow :=
  ⟨speedWindowCounts, captureTimerWraps, slowZoneCounts, countsBeginFall, countsBesideFall⟩

end Sys2Proof.Machine
end


section
/-! The limits, alone and in conflict (R77, R89, R90, R92, R94, R98, R124). -/

namespace Sys2Proof.Machine

/-! ### The state of zone 64 -/

/-- The state of zone 64, which the governor's reports move (R124). -/
def zone64 (s : State) : ZoneState := (zoneAt s 64).state

theorem zone64_congr {s t : State} (h : t.monitor = s.monitor) : zone64 t = zone64 s := by
  rw [zone64, zoneAt_congr h, zone64]

theorem zone64_tally (r : CurtainReport) (s : State) : zone64 (tally r s) = heard r (zone64 s) := by
  rw [zone64, tally, zoneAt_updZone_same, zone64]

/-- The moves of the governor that report nothing leave the Zone Monitor as it is. -/
theorem curtainClosed_monitor (m : ZoneMonitor) : CurtainClosed fun t => t.monitor = m where
  record k a b c h := (writeRecord_monitor k a b c _).trans h
  offer q f h := (offer_monitor q f _).trans h
  curtain _ h := h
  phase _ h := h
  effects _ h := h

section
variable (s : State)

@[simp] theorem zone64_updCurtain (f : Curtain → Curtain) : zone64 (updCurtain f s) = zone64 s := rfl

@[simp] theorem zone64_toState (st : CurtainState) : zone64 (toState st s) = zone64 s :=
  zone64_congr (toState_keeps (curtainClosed_monitor s.monitor) st rfl)

@[simp] theorem zone64_closeTest (pass : Bool) (total : Option Nat) : zone64 (closeTest pass total s) = zone64 s :=
  zone64_congr (closeTest_keeps (curtainClosed_monitor s.monitor) pass total rfl)

@[simp] theorem zone64_closeTestAtIn : zone64 (closeTestAtIn s) = zone64 s := zone64_closeTest s _ _

@[simp] theorem zone64_enterSlowing : zone64 (enterSlowing s) = zone64 s :=
  zone64_congr (enterSlowing_keeps (curtainClosed_monitor s.monitor) rfl)

@[simp] theorem zone64_fallBegins : zone64 (fallBegins s) = zone64 s := rfl

theorem zone64_recordFault (f : CurtainFault) : zone64 (recordFault tally f s)
    = if hasFault s.curtain f = true then zone64 s else heard (reportOf s.curtain f) (zone64 s) := by
  unfold recordFault
  dsimp only
  split
  next => rfl
  next =>
    rw [zone64_tally, zone64_congr (writeRecord_monitor _ _ _ _ _)]
    rfl

theorem zone64_recordPre {f : CurtainFault} (h : reportOf s.curtain f = .pre) : zone64 (recordFault tally f s)
    = if hasFault s.curtain f = true then zone64 s else heard .pre (zone64 s) := by rw [zone64_recordFault, h]

theorem zone64_referenceAt (p : Nat) : zone64 (referenceAt tally p s)
    = if mismatchAt s p ∧ hasFault s.curtain .positionMismatch = false then heard .pre (zone64 s) else zone64 s := by
  have hreport : reportOf s.curtain .positionMismatch = .pre := rfl
  unfold referenceAt
  dsimp only
  simp only [Bool.and_eq_true, decide_eq_true_eq]
  split
  next h =>
    rw [zone64_updCurtain, zone64_recordPre s hreport]
    cases hasFault s.curtain .positionMismatch <;> simp [mismatchAt, h]
  next h => rw [zone64_updCurtain, if_neg fun hm => h hm.1]

/-- A comparison of the switch reports a PRE or nothing, so a PRE stays. -/
theorem zone64_compareSwitch_pre (asserts : Bool) (h : zone64 s = .pre) :
    zone64 (compareSwitch tally asserts s) = .pre := by
  unfold compareSwitch
  split
  · rw [zone64_recordPre s rfl, h]
    split <;> rfl
  · exact h

theorem zone64_enterDescending_pre (h : zone64 s = .pre) : zone64 (enterDescending tally s) = .pre := by
  rw [enterDescending, zone64_enterSlowing, zone64_toState, zone64_compareSwitch_pre s false h]

theorem zone64_arriveIn : zone64 (arriveIn tally s) = heard .clear (zone64 (referenceAt tally 0 s)) := by
  simp [arriveIn, zone64_tally]

theorem zone64_arriveOut : zone64 (arriveOut tally s)
    = heard .clear (zone64 (referenceAt tally s.tables.curtain.travel.toNat s)) := by
  simp [arriveOut, zone64_tally]

end

/-- A limit reference takes a QUIET or PRE zone 64 to one of the two, which a CLEAR makes QUIET. -/
theorem heard_clear_of_reference {s : State} (p : Nat) (h : zone64 s ∈ [.quiet, .pre]) :
    heard .clear (zone64 (referenceAt tally p s)) = .quiet := by
  rw [zone64_referenceAt]
  simp only [List.mem_cons, List.not_mem_nil, or_false] at h
  rcases h with h | h <;> rw [h] <;> split <;> rfl

/-! ### A limit asserts -/

section
variable {s : State}

/-- The state with LIMIT-IN taken as asserted. -/
def withLimitIn (s : State) : State := s.withLines { s.lines with limitIn := true }

/-- The state with LIMIT-OUT taken as asserted. -/
def withLimitOut (s : State) : State := s.withLines { s.lines with limitOut := true }

theorem exec_limitIn_alone (hin : s.lines.limitIn = false) (hout : s.lines.limitOut = false) :
    exec .limitInAsserted s = .next (endAct (limitInTaken reportCurtain (withLimitIn s))) := by
  simp [exec, execLimitInAsserted, limitInAsserts, hin, hout, withLimitIn]

theorem exec_limitOut_alone (hin : s.lines.limitIn = false) (hout : s.lines.limitOut = false) :
    exec .limitOutAsserted s = .next (endAct (limitOutTaken reportCurtain (withLimitOut s))) := by
  simp [exec, execLimitOutAsserted, limitOutAsserts, hin, hout, withLimitOut]

theorem limitInTaken_shadows (hlaw : AlarmLaw s) :
    Shadows AlarmLaw (limitInTaken reportCurtain s) (limitInTaken tally s) :=
  (shadows_refl hlaw).limitInTaken reports_reportCurtain

theorem limitOutTaken_shadows (hlaw : AlarmLaw s) :
    Shadows AlarmLaw (limitOutTaken reportCurtain s) (limitOutTaken tally s) :=
  (shadows_refl hlaw).limitOutTaken reports_reportCurtain

theorem limitInTaken_resting (rep : Reporter) (h : s.curtain.state = .resting) :
    limitInTaken rep s = referenceAt rep 0 s := if_pos h

theorem limitInTaken_arrives (rep : Reporter) (h : s.curtain.state ≠ .resting) :
    limitInTaken rep s = arriveIn rep s := if_neg h

theorem mismatchAt_zero : mismatchAt s 0 ↔ s.curtain.referenced = true
    ∧ s.tables.curtain.tolerance.toNat < s.curtain.position := by
  simp [mismatchAt]

theorem limitInArrives : Parts.LimitInArrives := by
  intro s hlaw hin hout
  refine ⟨_, exec_limitIn_alone hin hout, ?_⟩
  obtain ⟨htouches, hlines⟩ := onlyTouches_lines (s := s) (x := { s.lines with limitIn := true })
    (limitInTaken_keeps (governorReach (withLimitIn s)) (reportReach _) (onlyTouches_refl _ _))
  obtain ⟨hcurtain, hphase, -⟩ := (limitInTaken_shadows (s := withLimitIn s) hlaw).ended
  refine ⟨htouches, hlines, fun hstate => ?resting, fun hstate => ?arrives⟩
  case resting =>
    rw [hcurtain, limitInTaken_resting _ (s := withLimitIn s) hstate, referenceAt_curtain]
    simp only [mismatchAt_zero]
    rfl
  case arrives =>
    have hfaults : (restingAt (withLimitIn s)).faults = if s.curtain.referenced = true
        ∧ s.tables.curtain.tolerance.toNat < s.curtain.position then addFault s.curtain.faults .positionMismatch
        else s.curtain.faults := by
      unfold restingAt
      simp only [mismatchAt_zero]
      rfl
    obtain ⟨test, harrived, hidle, hrunning⟩ := arriveIn_effect (withLimitIn s)
    rw [hcurtain, hphase, limitInTaken_arrives _ (s := withLimitIn s) hstate, harrived]
    refine ⟨?_, fun h => (hidle h).1, fun h => ?_⟩
    · rw [← hfaults]
      rfl
    · obtain ⟨hclosed, hvalid⟩ := hrunning h
      refine ⟨passesAtIn (withLimitIn s), hclosed, hvalid, ?_⟩
      rw [passesAtIn, Bool.and_eq_true, decide_eq_true_eq, decide_eq_true_eq, hfaults]
      exact Iff.rfl

theorem arriveOut_curtain (s : State) : (arriveOut tally s).curtain =
    { (referenceAt tally s.tables.curtain.travel.toNat s).curtain with
      state := .out, raisePermit := false, startTimer := none, raiseTimer := none } := by
  rw [arriveOut, tally_curtain, toState_curtain, updCurtain_curtain]

/-- A governor is that of a state as a fall began in it (R79, R80, R85). -/
structure FallsFrom (s : State) (c : Curtain) : Prop where
  state : c.state = .descending ∨ c.state = .slowing
  rest : c = { s.curtain with
    state := c.state, slowEntry := c.slowEntry, faults := c.faults, window := ⟨0, none, 0⟩
    startTimer := some (s.now + s.tables.curtain.startWindow.toNat * 100)
    dropTimer := some (s.now + s.tables.curtain.maxDrop.toNat * 100000) }

theorem enterDescending_falls (s : State) : FallsFrom s (enterDescending tally (fallBegins s)).curtain := by
  rw [fall_curtain]
  refine ⟨?_, rfl⟩
  dsimp only
  split
  · exact .inr rfl
  · exact .inl rfl

theorem releaseFromOut_falls (s : State) :
    FallsFrom (updCurtain (fun c => { c with holdDrive := false, faults := 0 }) s) (releaseFromOut tally s).curtain :=
  enterDescending_falls _

/-- LIMIT-OUT taken in UNKNOWN or IN: the state passes through OUT and the curtain falls (R80, R90). -/
theorem releaseThroughOut_effect (s : State) : let c := (releaseThroughOut tally s).curtain
    (c.state = .descending ∨ c.state = .slowing) ∧ c.holdDrive = false ∧ c.demands = s.curtain.demands
      ∧ c.position = s.tables.curtain.travel.toNat ∧ c.referenced = true
      ∧ c.startTimer = some (s.now + s.tables.curtain.startWindow.toNat * 100)
      ∧ c.dropTimer = some (s.now + s.tables.curtain.maxDrop.toNat * 100000) := by
  obtain ⟨hstate, hrest⟩ := releaseFromOut_falls (toState .out (referenceAt tally s.tables.curtain.travel.toNat s))
  have hcurtain : (toState .out (referenceAt tally s.tables.curtain.travel.toNat s)).curtain
      = { (referenceAt tally s.tables.curtain.travel.toNat s).curtain with state := .out } := toState_curtain _ _
  rw [referenceAt_curtain] at hcurtain
  simp only [updCurtain_curtain, updCurtain_unmoved, toState_unmoved, referenceAt_unmoved, hcurtain] at hrest
  dsimp only
  rw [releaseThroughOut]
  refine ⟨hstate, ?_⟩
  rw [hrest]
  exact ⟨rfl, rfl, rfl, rfl, rfl, rfl⟩

theorem limitOutByState : Parts.LimitOutByState := by
  intro s hlaw hin hout
  refine ⟨_, exec_limitOut_alone hin hout, ?_⟩
  obtain ⟨htouches, hlines⟩ := onlyTouches_lines (s := s) (x := { s.lines with limitOut := true })
    (limitOutTaken_keeps (governorReach (withLimitOut s)) (reportReach _) (onlyTouches_refl _ _))
  obtain ⟨hcurtain, -⟩ := (limitOutTaken_shadows (s := withLimitOut s) hlaw).ended
  have hstill (st : CurtainState) (h : s.curtain.state = st) : (withLimitOut s).curtain.state = st := h
  refine ⟨htouches, hlines, ?_⟩
  rw [hcurtain]
  unfold limitOutTaken
  cases hstate : s.curtain.state with
  | raising =>
    rw [hstill _ hstate]
    dsimp only
    rw [arriveOut_curtain, referenceAt_curtain]
    exact ⟨rfl, rfl, fun _ => ⟨rfl, rfl, rfl, rfl, rfl⟩, fun h => (nomatch h), fun h => absurd h (by decide),
      fun h => absurd h (by decide)⟩
  | out =>
    rw [hstill _ hstate]
    dsimp only
    rw [referenceAt_curtain]
    exact ⟨rfl, rfl, fun h => (nomatch h), fun _ => rfl, fun h => absurd h (by decide), fun h => absurd h (by decide)⟩
  | descending | slowing | stalled =>
    rw [hstill _ hstate]
    dsimp only
    rw [updCurtain_curtain, referenceAt_curtain]
    exact ⟨rfl, rfl, fun h => (nomatch h), fun h => (nomatch h), fun _ => rfl, fun h => absurd h (by decide)⟩
  | unknown | resting =>
    rw [hstill _ hstate]
    dsimp only
    obtain ⟨hfalls, hhold, -, hposition, hreferenced, hstart, hdrop⟩ := releaseThroughOut_effect (withLimitOut s)
    exact ⟨hposition, hreferenced, fun h => (nomatch h), fun h => (nomatch h), fun h => absurd h (by decide),
      fun _ => ⟨hfalls, hhold, hstart, hdrop⟩⟩

/-! ### What zone 64 hears of a limit -/

theorem answers_limitIn {st : ZoneState} (hlaw : AlarmLaw s) (hin : s.lines.limitIn = false)
    (hout : s.lines.limitOut = false) (h : zone64 (limitInTaken tally (withLimitIn s)) = st) :
    Answers .limitInAsserted s fun t => (zoneAt t 64).state = st := by
  obtain ⟨-, -, -, hzone⟩ := (limitInTaken_shadows (s := withLimitIn s) hlaw).ended
  exact ⟨_, exec_limitIn_alone hin hout, hzone.trans h⟩

theorem answers_limitOut {st : ZoneState} (hlaw : AlarmLaw s) (hin : s.lines.limitIn = false)
    (hout : s.lines.limitOut = false) (h : zone64 (limitOutTaken tally (withLimitOut s)) = st) :
    Answers .limitOutAsserted s fun t => (zoneAt t 64).state = st := by
  obtain ⟨-, -, -, hzone⟩ := (limitOutTaken_shadows (s := withLimitOut s) hlaw).ended
  exact ⟨_, exec_limitOut_alone hin hout, hzone.trans h⟩

/-- A PRE stays a PRE where a limit only references the position. -/
theorem zone64_referenceAt_pre (p : Nat) (h : zone64 s = .pre) : zone64 (referenceAt tally p s) = .pre := by
  rw [zone64_referenceAt, h]
  split <;> rfl

theorem zone64_releaseThroughOut_pre
    (h : zone64 (referenceAt tally s.tables.curtain.travel.toNat s) = .pre) :
    zone64 (releaseThroughOut tally s) = .pre := by
  rw [releaseThroughOut, releaseFromOut]
  refine zone64_enterDescending_pre _ ?_
  rw [zone64_fallBegins, zone64_updCurtain, zone64_toState, h]

/-- A limit reference in a QUIET zone 64 is a PRE exactly where it newly records POSITION-MISMATCH. -/
theorem zone64_referenceAt_quiet (p : Nat) (h : zone64 s = .quiet) : zone64 (referenceAt tally p s)
    = if mismatchAt s p ∧ hasFault s.curtain .positionMismatch = false then .pre else .quiet := by
  rw [zone64_referenceAt, h]
  rfl

theorem zone64_limitOut_still (hstate : s.curtain.state ∈ [.out, .descending, .slowing, .stalled]) :
    zone64 (limitOutTaken tally s) = zone64 (referenceAt tally s.tables.curtain.travel.toNat s) := by
  simp only [List.mem_cons, List.not_mem_nil, or_false] at hstate
  unfold limitOutTaken
  rcases hstate with h | h | h | h <;> rw [h] <;> rfl

theorem limitOutTaken_through (rep : Reporter) (hstate : s.curtain.state ∈ [.unknown, .resting]) :
    limitOutTaken rep s = releaseThroughOut rep s := by
  simp only [List.mem_cons, List.not_mem_nil, or_false] at hstate
  unfold limitOutTaken
  rcases hstate with h | h <;> rw [h]

theorem limitOutTaken_raising (rep : Reporter) (hstate : s.curtain.state = .raising) :
    limitOutTaken rep s = arriveOut rep s := by
  unfold limitOutTaken
  rw [hstate]

end

theorem zone64AtLimits : Parts.Zone64AtLimits := by
  intro s hlaw hin hout
  dsimp only
  have hkept {c : Instr} (hc : c ≠ .alarmReset) (hp : ¬PowersOn c) (h : (zoneAt s 64).state = .alarm) {t : State}
      (hexec : exec c s = .next t) : (zoneAt t 64).state = .alarm :=
    kept_of_lawKept (lawKept_inAlarm hc hp 64) h hexec
  refine ⟨fun hz => ⟨?_, ?_⟩, fun hz hstate => ?_, fun hz hstate => ?_, fun hz hstate => ⟨fun hm => ?_, fun hm => ?_⟩,
    fun hz hstate => ⟨fun hm => ?_, fun hm => ?_⟩, fun hz hstate hm => ?_, fun hz hstate => ?_, fun hz hstate => ?_⟩
  · exact ⟨_, exec_limitIn_alone hin hout, hkept (by decide) (by simp [PowersOn]) hz (exec_limitIn_alone hin hout)⟩
  · exact ⟨_, exec_limitOut_alone hin hout, hkept (by decide) (by simp [PowersOn]) hz (exec_limitOut_alone hin hout)⟩
  · refine answers_limitIn hlaw hin hout ?_
    rw [limitInTaken_arrives _ (s := withLimitIn s) hstate, zone64_arriveIn]
    exact heard_clear_of_reference 0 hz
  · refine answers_limitOut hlaw hin hout ?_
    rw [limitOutTaken_raising _ (s := withLimitOut s) hstate, zone64_arriveOut]
    exact heard_clear_of_reference _ hz
  · refine answers_limitIn hlaw hin hout ?_
    rw [limitInTaken_resting _ (s := withLimitIn s) hstate, zone64_referenceAt_quiet (s := withLimitIn s) 0 hz]
    exact if_pos ⟨⟨hm.1, hm.2.2⟩, hm.2.1⟩
  · refine answers_limitIn hlaw hin hout ?_
    rw [limitInTaken_resting _ (s := withLimitIn s) hstate, zone64_referenceAt_quiet (s := withLimitIn s) 0 hz]
    exact if_neg fun h => hm ⟨h.1.1, h.2, h.1.2⟩
  · refine answers_limitOut hlaw hin hout ?_
    rw [zone64_limitOut_still (s := withLimitOut s) hstate, zone64_referenceAt_quiet (s := withLimitOut s) _ hz]
    exact if_pos ⟨⟨hm.1, hm.2.2⟩, hm.2.1⟩
  · refine answers_limitOut hlaw hin hout ?_
    rw [zone64_limitOut_still (s := withLimitOut s) hstate, zone64_referenceAt_quiet (s := withLimitOut s) _ hz]
    exact if_neg fun h => hm ⟨h.1.1, h.2, h.1.2⟩
  · refine answers_limitOut hlaw hin hout ?_
    rw [limitOutTaken_through _ (s := withLimitOut s) hstate]
    refine zone64_releaseThroughOut_pre ?_
    rw [zone64_referenceAt_quiet (s := withLimitOut s) _ hz]
    exact if_pos ⟨⟨hm.1, hm.2.2⟩, hm.2.1⟩
  · refine answers_limitOut hlaw hin hout ?_
    have hpre := zone64_referenceAt_pre (s := withLimitOut s) s.tables.curtain.travel.toNat hz
    by_cases hthrough : s.curtain.state ∈ [.unknown, .resting]
    · rw [limitOutTaken_through _ (s := withLimitOut s) hthrough]
      exact zone64_releaseThroughOut_pre hpre
    · rw [zone64_limitOut_still (s := withLimitOut s)]
      · exact hpre
      · have hcurtain : (withLimitOut s).curtain.state = s.curtain.state := rfl
        rw [hcurtain]
        revert hstate hthrough
        cases s.curtain.state <;> decide
  · refine answers_limitIn hlaw hin hout ?_
    rw [limitInTaken_resting _ (s := withLimitIn s) hstate]
    exact zone64_referenceAt_pre (s := withLimitIn s) 0 hz

/-- Settles O25, by what a reference and an arrival make of the governor and of zone 64. -/
theorem limitsTaken : Obligations.LimitsTaken := ⟨limitInArrives, limitOutByState, zone64AtLimits⟩

end Sys2Proof.Machine
end


section
/-! The limits in conflict, the drop demands, SLOW-SW, and the requests of the governor (R70, R77 to R80, R85, R90, R93,
R96, R97). -/

namespace Sys2Proof.Machine

/-! ### The limits in conflict -/

section
variable {s : State}

theorem limitsConflict_curtain (s : State) : (limitsConflict tally s).curtain = { s.curtain with
    state := .unknown, referenced := false, raisePermit := false, holdDrive := false
    demands := { s.curtain.demands with conflict := true }
    faults := addFault s.curtain.faults .limitConflict
    startTimer := none, stallTimer := none, raiseTimer := none } := by
  rw [limitsConflict, toState_curtain, updCurtain_curtain, recordFault_curtain]
  rfl

theorem limitsConflict_ended (hlaw : AlarmLaw s) (x : Lines) :
    (endAct (limitsConflict reportCurtain (s.withLines x))).lines = x
      ∧ (endAct (limitsConflict reportCurtain (s.withLines x))).curtain = (limitsConflict tally s).curtain := by
  obtain ⟨hcurtain, -, hlines, -⟩ := (Shadows.limitsConflict reports_reportCurtain
    (shadows_refl (s := s.withLines x) hlaw)).ended
  refine ⟨hlines.trans ?_, ?_⟩
  · exact (limitsConflict_keeps (curtainClosed_unmoved (s.withLines x)) (unmoved_tally _) (unmoved_refl _)).2.1
  · rw [hcurtain, limitsConflict_curtain, limitsConflict_curtain]
    rfl

theorem exec_limitIn_conflict (hin : s.lines.limitIn = false) (hout : s.lines.limitOut = true) :
    exec .limitInAsserted s = .next (endAct (limitsConflict reportCurtain (withLimitIn s))) := by
  simp [exec, execLimitInAsserted, limitInAsserts, hin, hout, withLimitIn]

theorem exec_limitOut_conflict (hin : s.lines.limitIn = true) (hout : s.lines.limitOut = false) :
    exec .limitOutAsserted s = .next (endAct (limitsConflict reportCurtain (withLimitOut s))) := by
  simp [exec, execLimitOutAsserted, limitOutAsserts, hin, hout, withLimitOut]

/-- The end of a conflict by the release of LIMIT-OUT: arrival at IN (R77, R89). -/
theorem conflict_endsAtIn (hlaw : AlarmLaw s) (hin : s.lines.limitIn = true) (hout : s.lines.limitOut = true)
    (hstate : s.curtain.state = .unknown) : Answers (.limitReleased .outLimit) s fun t =>
      t.lines = { s.lines with limitOut := false } ∧ t.curtain.state = .resting ∧ t.curtain.demands.conflict = false
        ∧ t.curtain.position = 0 ∧ t.curtain.referenced = true := by
  let u := dropConflict (s.withLines { s.lines with limitOut := false })
  have hexec : exec (.limitReleased .outLimit) s = .next (endAct (limitInTaken reportCurtain u)) := by
    simp [exec, execLimitReleased, limitReleases, inConflict, hin, hout, u]
  have hlines : (endAct (limitInTaken reportCurtain u)).lines = u.lines := onlyTouches_trans
    (limitInTaken_keeps (governorReach u) (reportReach u) (onlyTouches_refl _ u)) (endAct_onlyTouches _) .lines (by decide)
  obtain ⟨hcurtain, -⟩ := (limitInTaken_shadows (s := u) hlaw).ended
  obtain ⟨test, harrived, -⟩ := arriveIn_effect u
  have hnot : u.curtain.state ≠ .resting := fun h => nomatch hstate.symm.trans h
  refine ⟨_, hexec, hlines, ?_⟩
  rw [hcurtain, limitInTaken_arrives _ hnot, harrived]
  exact ⟨rfl, rfl, rfl, rfl⟩

/-- The end of a conflict by the release of LIMIT-IN: the fall through OUT (R77, R80, R90). -/
theorem conflict_endsAtOut (hlaw : AlarmLaw s) (hin : s.lines.limitIn = true) (hout : s.lines.limitOut = true)
    (hstate : s.curtain.state = .unknown) : Answers (.limitReleased .inLimit) s fun t =>
      t.lines = { s.lines with limitIn := false } ∧ (t.curtain.state = .descending ∨ t.curtain.state = .slowing)
        ∧ t.curtain.demands.conflict = false ∧ t.curtain.position = s.tables.curtain.travel.toNat
        ∧ t.curtain.holdDrive = false := by
  let u := dropConflict (s.withLines { s.lines with limitIn := false })
  have hexec : exec (.limitReleased .inLimit) s = .next (endAct (limitOutTaken reportCurtain u)) := by
    simp [exec, execLimitReleased, limitReleases, inConflict, hin, hout, u]
  have hlines : (endAct (limitOutTaken reportCurtain u)).lines = u.lines := onlyTouches_trans
    (limitOutTaken_keeps (governorReach u) (reportReach u) (onlyTouches_refl _ u)) (endAct_onlyTouches _) .lines
    (by decide)
  obtain ⟨hcurtain, -⟩ := (limitOutTaken_shadows (s := u) hlaw).ended
  have hthrough : limitOutTaken tally u = releaseThroughOut tally u :=
    limitOutTaken_through _ (by rw [show u.curtain.state = .unknown from hstate]; decide)
  obtain ⟨hfalls, hhold, hdemands, hposition, -⟩ := releaseThroughOut_effect u
  refine ⟨_, hexec, hlines, ?_⟩
  rw [hcurtain, hthrough, hdemands]
  exact ⟨hfalls, rfl, hposition, hhold⟩

/-- Outside a conflict the release of a limit takes its line alone (R90). -/
theorem limitReleases_alone (h : ¬(s.lines.limitIn = true ∧ s.lines.limitOut = true)) :
    exec (.limitReleased .inLimit) s = .next (endAct (s.withLines { s.lines with limitIn := false }))
      ∧ exec (.limitReleased .outLimit) s = .next (endAct (s.withLines { s.lines with limitOut := false })) := by
  have hfree := inConflict_false h
  simp [exec, execLimitReleased, limitReleases, hfree]

end

/-- Settles O26, by the conflict's own act, its two ends, and the release outside it. -/
theorem limitsInConflict : Obligations.LimitsInConflict := by
  intro s hlaw
  refine ⟨fun c hc hthis hother => ?asserts, fun hin hout hstate => ?ends, fun h => limitReleases_alone h⟩
  case asserts =>
    simp only [List.mem_cons, List.not_mem_nil, or_false] at hc
    rcases hc with rfl | rfl
    · refine ⟨_, exec_limitIn_conflict hthis hother, ?_⟩
      obtain ⟨hlines, hcurtain⟩ := limitsConflict_ended hlaw { s.lines with limitIn := true }
      refine ⟨hlines.trans ?_, hcurtain.trans (limitsConflict_curtain s)⟩
      rw [← hother]
    · refine ⟨_, exec_limitOut_conflict hother hthis, ?_⟩
      obtain ⟨hlines, hcurtain⟩ := limitsConflict_ended hlaw { s.lines with limitOut := true }
      refine ⟨hlines.trans ?_, hcurtain.trans (limitsConflict_curtain s)⟩
      rw [← hother]
  case ends => exact ⟨conflict_endsAtIn hlaw hin hout hstate, conflict_endsAtOut hlaw hin hout hstate⟩

/-! ### A demand joins the set -/

section
variable {s : State} {d : Demand}

/-- The state with a demand joined to the set (R78). -/
def withDemand (d : Demand) (s : State) : State := updCurtain (fun c => { c with demands := c.demands.insert d }) s

/-- R78: a demand that finds the set occupied joins it, and nothing follows. -/
theorem addDemand_of_any (rep : Reporter) (h : s.curtain.demands.any = true) :
    addDemand rep d s = withDemand d s := if_pos h

/-- R78: in the states where nothing holds the curtain, a demand joins the set, and nothing follows. -/
theorem addDemand_of_notHeld (rep : Reporter) (h : s.curtain.state ∉ [.out, .raising]) :
    addDemand rep d s = withDemand d s := by
  have hstill (u : State) (hu : u.curtain.state = s.curtain.state) : demandTaken rep u = u := by
    unfold demandTaken
    rw [hu]
    revert h
    cases s.curtain.state <;> simp
  unfold addDemand
  dsimp only
  rw [hstill (updCurtain (fun c => { c with demands := c.demands.insert d }) s) rfl, ite_self]
  rfl

theorem addDemand_out (rep : Reporter) (hnone : s.curtain.demands.any = false) (h : s.curtain.state = .out) :
    addDemand rep d s = releaseFromOut rep (withDemand d s) := by
  have hout : (updCurtain (fun c => { c with demands := c.demands.insert d }) s).curtain.state = .out := h
  unfold addDemand demandTaken
  dsimp only
  rw [hnone, hout]
  rfl

theorem addDemand_raising (rep : Reporter) (hnone : s.curtain.demands.any = false) (h : s.curtain.state = .raising) :
    addDemand rep d s = abortRaise rep (withDemand d s) := by
  have hraising : (updCurtain (fun c => { c with demands := c.demands.insert d }) s).curtain.state = .raising := h
  unfold addDemand demandTaken
  dsimp only
  rw [hnone, hraising]
  rfl

/-- R78, R80: a demand that finds the curtain held at OUT releases it. -/
theorem addDemand_releases (hnone : s.curtain.demands.any = false) (h : s.curtain.state = .out) :
    FallsFrom (s.withCurtain { s.curtain with demands := s.curtain.demands.insert d, holdDrive := false, faults := 0 })
      (addDemand tally d s).curtain := by
  rw [addDemand_out _ hnone h]
  exact releaseFromOut_falls (withDemand d s)

/-- R79: a raise aborted with LIMIT-IN not asserted falls. -/
theorem abortRaise_falls (h : s.lines.limitIn = false) :
    FallsFrom (s.withCurtain { s.curtain with raisePermit := false, holdDrive := false, raiseTimer := none })
      (abortRaise tally s).curtain := by
  unfold abortRaise
  dsimp only
  rw [h]
  exact enterDescending_falls _

/-- R79, R89: a raise aborted with LIMIT-IN asserted arrives at IN. -/
theorem abortRaise_arrives (h : s.lines.limitIn = true) : ∃ test, (abortRaise tally s).curtain
    = { restingAt (s.withCurtain { s.curtain with raisePermit := false, holdDrive := false, raiseTimer := none }) with
      test := test } := by
  unfold abortRaise
  dsimp only
  rw [h]
  obtain ⟨test, harrived, -⟩ := arriveIn_effect
    (s.withCurtain { s.curtain with raisePermit := false, holdDrive := false, raiseTimer := none })
  exact ⟨test, harrived⟩

/-- R78, R79: a demand that finds a raise with LIMIT-IN not asserted aborts it into a fall. -/
theorem addDemand_aborts (hnone : s.curtain.demands.any = false) (h : s.curtain.state = .raising)
    (hin : s.lines.limitIn = false) : FallsFrom (s.withCurtain { s.curtain with
      demands := s.curtain.demands.insert d, raisePermit := false, holdDrive := false, raiseTimer := none })
      (addDemand tally d s).curtain := by
  rw [addDemand_raising _ hnone h]
  exact abortRaise_falls (s := withDemand d s) hin

/-- The set a demand other than ALARM and CONFLICT joins alone is emptied by arrival at IN. -/
theorem atIn_insert_any (hnone : s.curtain.demands.any = false) (ha : d ≠ .alarm) (hc : d ≠ .conflict) :
    (s.curtain.demands.insert d).atIn.any = false := by
  cases hd : s.curtain.demands
  rw [hd] at hnone
  cases d <;> simp_all [Demands.any, Demands.insert, Demands.atIn, noDemands]

/-- R78, R79, R89: a demand that finds a raise with LIMIT-IN asserted aborts it into IN. -/
theorem addDemand_arrives (hnone : s.curtain.demands.any = false) (h : s.curtain.state = .raising)
    (hin : s.lines.limitIn = true) (ha : d ≠ .alarm) (hc : d ≠ .conflict) :
    (addDemand tally d s).curtain.state = .resting ∧ (addDemand tally d s).curtain.demands.any = false
      ∧ (addDemand tally d s).curtain.holdDrive = false := by
  rw [addDemand_raising _ hnone h]
  obtain ⟨test, harrived⟩ :=
    abortRaise_arrives (s := withDemand d s) hin
  rw [harrived]
  exact ⟨rfl, atIn_insert_any hnone ha hc, rfl⟩

theorem addDemand_shadows (hlaw : AlarmLaw s) :
    Shadows AlarmLaw (addDemand reportCurtain d s) (addDemand tally d s) :=
  (shadows_refl hlaw).addDemand reports_reportCurtain d

end

/-- The state with STAGE-RELEASE taken as asserted. -/
def withStageRelease (s : State) : State := s.withLines { s.lines with stageRelease := true }

theorem exec_stageRelease {s : State} (h : s.lines.stageRelease = false) :
    exec .stageReleaseAsserted s = .next (endAct (stageReleaseAsserts s)) := by
  simp [exec, execStageReleaseAsserted, h]

theorem stageReleaseAsserts_resting {s : State} (h : s.curtain.state = .resting) :
    stageReleaseAsserts s = withStageRelease s := if_pos h

theorem stageReleaseAsserts_joins {s : State} (h : s.curtain.state ≠ .resting) :
    stageReleaseAsserts s = addDemand reportCurtain .stageRelease (withStageRelease s) := if_neg h

/-- Settles O27, by what a demand makes of the governor in each of its states. -/
theorem stageReleasePressed : Obligations.StageReleasePressed := by
  intro s hlaw hline
  refine ⟨_, exec_stageRelease hline, ?_⟩
  have htouched : OnlyTouches alarmReach (withStageRelease s) (stageReleaseAsserts s) :=
    ite_keeps (onlyTouches_refl _ _) (addDemand_keeps (governorReach _) (reportReach _) _ (onlyTouches_refl _ _))
  obtain ⟨htouches, hlines⟩ := onlyTouches_lines (s := s) (x := { s.lines with stageRelease := true }) htouched
  have hjoined (h : s.curtain.state ≠ .resting) : (endAct (stageReleaseAsserts s)).curtain
      = (addDemand tally .stageRelease (withStageRelease s)).curtain := by
    rw [stageReleaseAsserts_joins h]
    exact (addDemand_shadows (s := withStageRelease s) hlaw).ended.1
  refine ⟨htouches, hlines, fun hstate => ?resting, fun hstate => ?joins, fun hnone hpermit hstate => ?out,
    fun hnone hin hstate => ?aborts, fun hnone hin hstate => ?arrives⟩
  case resting =>
    rw [stageReleaseAsserts_resting hstate, endAct_curtain]
    rfl
  case joins =>
    have hstates : s.curtain.state ≠ .resting ∧ s.curtain.state ∉ [.out, .raising] := by
      revert hstate
      cases s.curtain.state <;> decide
    rw [hjoined hstates.1, addDemand_of_notHeld _ (s := withStageRelease s) hstates.2]
    rfl
  case out =>
    obtain ⟨hfalls, hrest⟩ := addDemand_releases (s := withStageRelease s) (d := .stageRelease) hnone hstate
    rw [hjoined (by rw [hstate]; decide)]
    refine ⟨hfalls, ?_⟩
    rw [hrest]
    exact ⟨rfl, hpermit, rfl, rfl, rfl, rfl⟩
  case aborts =>
    obtain ⟨hfalls, hrest⟩ := addDemand_aborts (s := withStageRelease s) (d := .stageRelease) hnone hstate hin
    rw [hjoined (by rw [hstate]; decide)]
    refine ⟨⟨hfalls, ?_⟩, ?_⟩
    · rw [hrest]
      exact ⟨rfl, rfl, rfl, rfl, rfl, rfl⟩
    · rw [hrest]
      rfl
  case arrives =>
    rw [hjoined (by rw [hstate]; decide)]
    exact addDemand_arrives (s := withStageRelease s) (d := .stageRelease) hnone hstate hin (by decide) (by decide)

/-! ### Requests -/

section
variable {s : State} {tag : Byte}

theorem exec_curtainRelease_of_requested {args : List Byte} (h : Requested s 15 tag args) :
    exec .curtainRelease s = .next (replied tag 15 (curtainReleaseOwner args (dropHead .consoleRx s)).2
      (curtainReleaseOwner args (dropHead .consoleRx s)).1) :=
  congrArg _ (handle_of_requested h _)

theorem exec_curtainRaise_of_requested {args : List Byte} (h : Requested s 16 tag args) :
    exec .curtainRaise s = .next (replied tag 16 (curtainRaiseOwner args (dropHead .consoleRx s)).2
      (curtainRaiseOwner args (dropHead .consoleRx s)).1) :=
  congrArg _ (handle_of_requested h _)

theorem exec_curtainTest_of_requested {args : List Byte} (h : Requested s 17 tag args) :
    exec .curtainTest s = .next (replied tag 17 (curtainTestOwner args (dropHead .consoleRx s)).2
      (curtainTestOwner args (dropHead .consoleRx s)).1) :=
  congrArg _ (handle_of_requested h _)

theorem curtainReleaseOwner_still {args : List Byte} (h : s.curtain.state ∉ [.out, .raising]) :
    curtainReleaseOwner args s = (s, done) := by
  unfold curtainReleaseOwner
  revert h
  cases s.curtain.state <;> simp

theorem curtainReleaseOwner_joins {args : List Byte} (h : s.curtain.state ∈ [.out, .raising]) :
    curtainReleaseOwner args s = (addDemand reportCurtain .request s, done) := by
  unfold curtainReleaseOwner
  revert h
  cases s.curtain.state <;> simp

theorem curtainReleaseRequested : Parts.CurtainReleaseRequested := by
  intro s tag hlaw hreq
  have hexec := exec_curtainRelease_of_requested hreq
  have hcurtain : (dropHead .consoleRx s).curtain = s.curtain := dropHead_curtain _ _
  have hlines : (dropHead .consoleRx s).lines = s.lines := dropHead_lines _ _
  refine ⟨fun hstate => ?still, fun hstate => ?joins⟩
  case still => rwa [curtainReleaseOwner_still (by rwa [hcurtain])] at hexec
  case joins =>
    rw [curtainReleaseOwner_joins (by rwa [hcurtain])] at hexec
    have hshadow := (addDemand_shadows (s := dropHead .consoleRx s) (d := .request) hlaw).curtain
    refine ⟨_, hexec, fun hany => ?_, fun hnone hfree => ?_, fun hnone hraising hin => ?_⟩
    · rw [addDemand_of_any _ (by rwa [hcurtain])]
      rfl
    · rw [← hshadow]
      simp only [List.mem_cons, List.not_mem_nil, or_false] at hstate
      rcases hstate with hout | hraising
      · obtain ⟨hfalls, hrest⟩ :=
          addDemand_releases (s := dropHead .consoleRx s) (d := .request) (by rwa [hcurtain]) (by rwa [hcurtain])
        refine ⟨hfalls, ?_⟩
        rw [hrest]
        exact ⟨rfl, rfl⟩
      · obtain ⟨hfalls, hrest⟩ := addDemand_aborts (s := dropHead .consoleRx s) (d := .request) (by rwa [hcurtain])
          (by rwa [hcurtain]) (by rw [hlines]; exact hfree hraising)
        refine ⟨hfalls, ?_⟩
        rw [hrest]
        exact ⟨rfl, rfl⟩
    · obtain ⟨hresting, hempty, hhold⟩ := addDemand_arrives (s := dropHead .consoleRx s) (d := .request)
        (by rwa [hcurtain]) (by rwa [hcurtain]) (by rwa [hlines]) (by decide) (by decide)
      rw [← hshadow]
      exact ⟨hresting, hhold, hempty⟩

theorem curtainRaiseOwner_refused {args : List Byte} {why : Reason} (h : raiseTests s = some why) :
    curtainRaiseOwner args s = (s, refuse why) := by
  unfold curtainRaiseOwner
  rw [h]

theorem curtainRaiseOwner_accepted {args : List Byte} (h : raiseTests s = none) :
    curtainRaiseOwner args s = (beginRaise s, done) := by
  unfold curtainRaiseOwner
  rw [h]

theorem raiseTests_state (h : ¬(s.curtain.state = .resting ∧ s.curtain.demands.any = false)) :
    raiseTests s = some .curtainState := by
  unfold raiseTests
  by_cases hstate : s.curtain.state = .resting
  · rw [if_neg (by simp [hstate]), if_pos (by simpa [hstate] using h)]
  · exact if_pos (by simpa using hstate)

theorem raiseTests_alarm (hfree : s.curtain.state = .resting ∧ s.curtain.demands.any = false)
    (h : ¬(s.effects.stage ≠ .staffAlert ∧ s.effects.stage ≠ .evacuate)) : raiseTests s = some .alarmActive := by
  rw [raiseTests, if_neg (by simp [hfree.1]), if_neg (by simp [hfree.2]), if_pos (by simpa [imp_iff_not_or] using h)]

theorem raiseTests_phase (hfree : s.curtain.state = .resting ∧ s.curtain.demands.any = false)
    (hquiet : s.effects.stage ≠ .staffAlert ∧ s.effects.stage ≠ .evacuate) :
    raiseTests s = if s.phase.phase = .recovery then some .wrongPhase else none := by
  rw [raiseTests, if_neg (by simp [hfree.1]), if_neg (by simp [hfree.2]), if_neg (by simp [hquiet])]
  cases s.phase.phase <;> rfl

/-- R93: the one act of an accepted raise, written out. -/
theorem beginRaise_eq (h : s.curtain.state = .resting) : beginRaise s
    = writeRecord .curtainState 0 1 2 ((s.withCurtain { s.curtain with
        state := .raising, holdDrive := true, raisePermit := true, faults := 0
        startTimer := some (s.now + s.tables.curtain.startWindow.toNat * 100)
        raiseTimer := some (s.now + s.tables.curtain.maxRaise.toNat * 100000) }).withEffects
          { s.effects with noticeDue := true }) := by
  unfold beginRaise toState
  dsimp only [updCurtain_curtain]
  rw [h, if_neg (by decide), afterMs_eq, afterS_eq]
  rfl

theorem curtainRaiseTested : Parts.CurtainRaiseTested := by
  intro s tag hreq
  have hexec := exec_curtainRaise_of_requested hreq
  dsimp only
  have hrefused {why : Reason} (h : raiseTests (dropHead .consoleRx s) = some why) :
      RefusedWith .curtainRaise s 16 tag why := by
    rwa [curtainRaiseOwner_refused h] at hexec
  refine ⟨fun h => hrefused (raiseTests_state (by simpa using h)),
    fun hfree h => hrefused (raiseTests_alarm (by simpa using hfree) (by simpa using h)),
    fun hfree hquiet h => hrefused ?_, fun hfree hquiet h => ?_⟩
  · rw [raiseTests_phase (by simpa using hfree) (by simpa using hquiet), dropHead_phase, if_pos h]
  · have hpassed : raiseTests (dropHead .consoleRx s) = none := by
      rw [raiseTests_phase (by simpa using hfree) (by simpa using hquiet), dropHead_phase, if_neg h]
    rw [curtainRaiseOwner_accepted hpassed, beginRaise_eq (by simpa using hfree.1)] at hexec
    simp only [dropHead_curtain, dropHead_now, dropHead_tables, dropHead_effects] at hexec
    exact hexec

theorem curtainTestTested : Parts.CurtainTestTested := by
  intro s tag hlaw hreq
  have hexec := exec_curtainTest_of_requested hreq
  have hcurtain : (dropHead .consoleRx s).curtain = s.curtain := dropHead_curtain _ _
  have hphase : (dropHead .consoleRx s).phase = s.phase := dropHead_phase _ _
  refine ⟨fun hstate => ?state, fun hstate hphases => ?phase, fun hstate hphases hnone => ?tested⟩
  case state =>
    have howner : curtainTestOwner [] (dropHead .consoleRx s) = (dropHead .consoleRx s, refuse .curtainState) :=
      if_pos (by rw [hcurtain]; simpa using hstate)
    rwa [howner] at hexec
  case phase =>
    have howner : curtainTestOwner [] (dropHead .consoleRx s) = (dropHead .consoleRx s, refuse .wrongPhase) := by
      rw [curtainTestOwner, if_neg (by simp [hstate]), if_pos (by rw [hphase]; simpa using hphases)]
    rwa [howner] at hexec
  case tested =>
    have howner : curtainTestOwner [] (dropHead .consoleRx s)
        = (openTest (addDemand reportCurtain .test (dropHead .consoleRx s)), done) := by
      rw [curtainTestOwner, if_neg (by simp [hstate]), if_neg (by rw [hphase]; simpa [imp_iff_not_or] using hphases)]
    rw [howner] at hexec
    have hshadow := addDemand_shadows (s := dropHead .consoleRx s) (d := .test) hlaw
    obtain ⟨hfalls, hrest⟩ :=
      addDemand_releases (s := dropHead .consoleRx s) (d := .test) (by rwa [hcurtain]) (by rwa [hcurtain])
    rw [hshadow.curtain] at hfalls hrest
    have hnow : (addDemand reportCurtain .test (dropHead .consoleRx s)).now = s.now :=
      addDemand_keeps (governorReach (dropHead .consoleRx s)) (reportReach _) _ (onlyTouches_refl _ _) .now (by decide)
    refine ⟨_, hexec, hfalls, ?_, ?_, ?_⟩
    · exact congrArg Curtain.holdDrive hrest
    · exact congrArg Curtain.demands hrest
    · exact congrArg (fun n => (⟨.running, n, none, none, none, none, none, 0⟩ : TestRecord)) hnow

end

/-- Settles O28, by the tests of the three requests and what a demand makes of the governor. -/
theorem curtainRequests : Obligations.CurtainRequests :=
  ⟨curtainReleaseRequested, curtainRaiseTested, curtainTestTested⟩

/-! ### SLOW-SW -/

/-- The state with SLOW-SW taken as asserted. -/
def withSlowSw (s : State) : State := s.withLines { s.lines with slowSw := true }

theorem exec_slowSw {s : State} (h : s.lines.slowSw = false) :
    exec .slowSwAsserted s = .next (endAct (slowSwAsserts s)) := by
  simp [exec, execSlowSwAsserted, h]

theorem slowSwAsserts_inFall {s : State} (h : s.curtain.state ∈ [.descending, .slowing]) :
    slowSwAsserts s = slowZoneTest reportCurtain true (withSlowSw s) := by
  unfold slowSwAsserts withSlowSw
  revert h
  cases s.curtain.state <;> simp

theorem slowSwAsserts_still {s : State} (h : s.curtain.state ∉ [.descending, .slowing]) :
    slowSwAsserts s = withSlowSw s := by
  unfold slowSwAsserts withSlowSw
  revert h
  cases s.curtain.state <;> simp

theorem slowSwAsserts_touches (s : State) : OnlyTouches alarmReach (withSlowSw s) (slowSwAsserts s) := by
  by_cases h : s.curtain.state ∈ [.descending, .slowing]
  · rw [slowSwAsserts_inFall h]
    exact slowZoneTest_keeps (governorReach _) (reportReach _) true (onlyTouches_refl _ _)
  · rw [slowSwAsserts_still h]
    exact onlyTouches_refl _ _

/-- With the switch closed the slow zone is reached, and no switch is late (R85). -/
theorem slowZoneTest_asserted (s : State) : (slowZoneTest tally true (withSlowSw s)).curtain = { s.curtain with
    state := if s.curtain.state = .descending then .slowing else s.curtain.state
    slowEntry := if s.curtain.state = .descending then some s.curtain.position else s.curtain.slowEntry
    faults := if s.curtain.referenced = true
        ∧ s.tables.curtain.slowStart.toNat + s.tables.curtain.tolerance.toNat < s.curtain.position
      then addFault s.curtain.faults .slowSwitchMismatch else s.curtain.faults } := by
  have hslow : slowHolds (withSlowSw s) = true := (slowHolds_iff _).mpr (.inr rfl)
  have hintime : switchLate (withSlowSw s) = false :=
    Bool.eq_false_iff.mpr fun h => nomatch ((switchLate_iff _).mp h).2.1
  have hearly := switchEarly_iff (withSlowSw s)
  rw [slowZoneTest_curtain, hslow, hintime]
  simp only [and_true, Bool.true_and, Bool.or_false, hearly]
  rfl

/-- Settles O29, by the slow-zone test of an assertion. -/
theorem slowSwitchAndReleases : Obligations.SlowSwitchAndReleases := by
  intro s
  refine ⟨fun hlaw hline => ?asserts, rfl, rfl, rfl⟩
  obtain ⟨htouches, hlines⟩ :=
    onlyTouches_lines (s := s) (x := { s.lines with slowSw := true }) (slowSwAsserts_touches s)
  have htested (h : s.curtain.state ∈ [.descending, .slowing]) :
      (endAct (slowSwAsserts s)).curtain = (slowZoneTest tally true (withSlowSw s)).curtain := by
    rw [slowSwAsserts_inFall h]
    exact (Shadows.slowZoneTest reports_reportCurtain true (shadows_refl (s := withSlowSw s) hlaw)).ended.1
  refine ⟨_, exec_slowSw hline, htouches, hlines, fun hstate => ?_, fun hstate => ?_, fun hstate => ?_⟩
  · rw [htested (by rw [hstate]; decide), slowZoneTest_asserted, if_pos hstate, if_pos hstate]
  · have hpast : ¬ s.curtain.state = .descending := by simp [hstate]
    rw [htested (by rw [hstate]; decide), slowZoneTest_asserted, if_neg hpast, if_neg hpast]
  · rw [slowSwAsserts_still hstate, endAct_curtain]
    rfl

end Sys2Proof.Machine
end


section
/-! The timers of the Curtain Governor (R87, R88, R92, R94, R98). -/

namespace Sys2Proof.Machine

section
variable {s : State}

/-! ### A fault that stalls the curtain -/

theorem exec_startWindowExpiry (h : s.curtain.startTimer ≠ none) :
    exec .startWindowExpiry s = .next (endAct (startWindowOut s)) := if_pos (Option.isSome_iff_ne_none.mpr h)

theorem exec_stallTimerExpiry (h : s.curtain.stallTimer ≠ none) :
    exec .stallTimerExpiry s = .next (endAct (stallOut s)) := if_pos (Option.isSome_iff_ne_none.mpr h)

theorem exec_dropTimerExpiry (h : s.curtain.dropTimer ≠ none) :
    exec .dropTimerExpiry s = .next (endAct (dropOut s)) := if_pos (Option.isSome_iff_ne_none.mpr h)

theorem exec_raiseTimerExpiry (h : s.curtain.raiseTimer ≠ none) :
    exec .raiseTimerExpiry s = .next (endAct (raiseOut s)) := if_pos (Option.isSome_iff_ne_none.mpr h)

/-- The state with the start window's timer stopped. -/
def startStopped (s : State) : State := updCurtain (fun c => { c with startTimer := none }) s

/-- The start window of a fall runs out, its fault reported through `rep` (R88). -/
def startFails (rep : Reporter) (s : State) : State := toState .stalled (recordFault rep .startFail (startStopped s))

/-- The stall limit of a fall runs out, its fault reported through `rep` (R87). -/
def fallStalls (rep : Reporter) (s : State) : State :=
  toState .stalled (updCurtain (fun c => { c with window := freshWindow, stallTimer := none })
    (recordFault rep .stall s))

theorem startWindowOut_falling (h : s.curtain.state ∈ [.unknown, .descending, .slowing]) :
    startWindowOut s = startFails reportCurtain s := by
  unfold startWindowOut startFails
  revert h
  cases s.curtain.state <;> simp [startStopped]

theorem startWindowOut_still (h : s.curtain.state ∈ [.resting, .out, .stalled]) :
    startWindowOut s = startStopped s := by
  unfold startWindowOut
  revert h
  cases s.curtain.state <;> simp [startStopped]

theorem stallOut_falling (h : s.curtain.state ∈ [.descending, .slowing]) :
    stallOut s = fallStalls reportCurtain s := by
  unfold stallOut fallStalls
  revert h
  cases s.curtain.state <;> simp

theorem stallOut_still (h : s.curtain.state ∉ [.descending, .slowing]) :
    stallOut s = updCurtain (fun c => { c with stallTimer := none }) s := by
  unfold stallOut
  revert h
  cases s.curtain.state <;> simp

theorem startFails_shadows (hlaw : AlarmLaw s) :
    Shadows AlarmLaw (startFails reportCurtain s) (startFails tally s) :=
  ((shadows_refl (s := startStopped s) hlaw).recordFault reports_reportCurtain _).toState reports_reportCurtain _

theorem fallStalls_shadows (hlaw : AlarmLaw s) :
    Shadows AlarmLaw (fallStalls reportCurtain s) (fallStalls tally s) :=
  (Shadows.upd reports_reportCurtain rfl
    ((shadows_refl hlaw).recordFault reports_reportCurtain _)).toState reports_reportCurtain _

theorem startFails_curtain (s : State) : (startFails tally s).curtain = { s.curtain with
    state := .stalled, faults := addFault s.curtain.faults .startFail, startTimer := none } := by
  rw [startFails, toState_curtain, recordFault_curtain]
  rfl

theorem fallStalls_curtain (s : State) : (fallStalls tally s).curtain = { s.curtain with
    state := .stalled, faults := addFault s.curtain.faults .stall, window := ⟨0, none, 0⟩, stallTimer := none } := by
  rw [fallStalls, toState_curtain, updCurtain_curtain, recordFault_curtain]
  rfl

theorem zone64_startFails (s : State) :
    zone64 (startFails tally s) = zone64 (recordFault tally .startFail (startStopped s)) := by
  rw [startFails, zone64_toState]

theorem zone64_fallStalls (s : State) : zone64 (fallStalls tally s) = zone64 (recordFault tally .stall s) := by
  rw [fallStalls, zone64_toState, zone64_updCurtain]

/-- R92: START-FAIL and STALL are reported as ALARM where ALARM is a demand. -/
theorem zone64_recordAlarm {f : CurtainFault} (h : reportOf s.curtain f = .alarm) (hnew : hasFault s.curtain f = false) :
    zone64 (recordFault tally f s) = .alarm := by
  rw [zone64_recordFault, hnew, h]
  rfl

theorem reportOf_alarm {c : Curtain} {f : CurtainFault} (hf : f = .startFail ∨ f = .stall) (h : c.demands.alarm = true) :
    reportOf c f = .alarm := by
  rcases hf with rfl | rfl <;> simp [reportOf, h]

theorem reportOf_pre {c : Curtain} {f : CurtainFault} (h : c.demands.alarm = false ∨ (f ≠ .startFail ∧ f ≠ .stall)) :
    reportOf c f = .pre := by
  rcases h with h | ⟨h, h'⟩
  · simp [reportOf, h]
  · simp [reportOf, h, h']

theorem startWindowOut_touches (s : State) : OnlyTouches alarmReach s (startWindowOut s) := by
  have hstopped : OnlyTouches alarmReach s (startStopped s) := (governorReach s).curtain _ (onlyTouches_refl _ s)
  by_cases hfall : s.curtain.state ∈ [.unknown, .descending, .slowing]
  · rw [startWindowOut_falling hfall]
    exact toState_keeps (governorReach s) _ (recordFault_keeps (governorReach s) (reportReach s) _ hstopped)
  by_cases hstill : s.curtain.state ∈ [.resting, .out, .stalled]
  · rwa [startWindowOut_still hstill]
  · have hraising : s.curtain.state = .raising := by
      revert hfall hstill
      cases s.curtain.state <;> simp
    rw [startWindowOut, hraising]
    exact raiseFails_keeps (governorReach s) (reportReach s) hstopped

theorem stallOut_touches (s : State) : OnlyTouches alarmReach s (stallOut s) := by
  by_cases hfall : s.curtain.state ∈ [.descending, .slowing]
  · rw [stallOut_falling hfall]
    exact toState_keeps (governorReach s) _ ((governorReach s).curtain _
      (recordFault_keeps (governorReach s) (reportReach s) _ (onlyTouches_refl _ s)))
  · rw [stallOut_still hfall]
    exact (governorReach s).curtain _ (onlyTouches_refl _ s)

end

/-! ### A raise that fails -/

section
variable {s : State}

/-- The state in which a failed raise is aborted (R94). -/
def raiseFailed (s : State) : State := withDemand .raiseFail (recordFault tally .raiseTimeout s)

theorem raiseFails_eq (s : State) : raiseFails tally s = abortRaise tally (raiseFailed s) := rfl

theorem raiseFailed_curtain (s : State) : (raiseFailed s).curtain = { s.curtain with
    faults := addFault s.curtain.faults .raiseTimeout, demands := { s.curtain.demands with raiseFail := true } } := by
  rw [raiseFailed, withDemand, updCurtain_curtain, recordFault_curtain]
  rfl

theorem raiseFailed_unmoved (s : State) : Unmoved s (raiseFailed s) :=
  (curtainClosed_unmoved s).curtain _
    (recordFault_keeps (curtainClosed_unmoved s) (unmoved_tally s) .raiseTimeout (unmoved_refl s))

theorem hasFault_addFault (w : Word16) (f g : CurtainFault) (c : Curtain) (h : c.faults = addFault w g)
    (hw : w.getLsbD f.num = true) : hasFault c f = true := by
  rw [hasFault, h, getLsbD_addFault, hw, Bool.true_or]

/-- A fault that stands stands after another is added or not. -/
theorem hasFault_of_ite {c : Curtain} {w : Word16} {f g : CurtainFault} {P : Prop} [Decidable P]
    (h : c.faults = if P then addFault w g else w) (hw : w.getLsbD f.num = true) : hasFault c f = true := by
  split at h
  · exact hasFault_addFault w f g c h hw
  · rw [hasFault, h, hw]

theorem raiseTimeout_added (w : Word16) : (addFault w .raiseTimeout).getLsbD CurtainFault.raiseTimeout.num = true := by
  rw [getLsbD_addFault]
  simp

theorem raiseFails_falls (h : s.lines.limitIn = false) : let c := (raiseFails tally s).curtain
    c.holdDrive = false ∧ c.raisePermit = false ∧ c.raiseTimer = none ∧ hasFault c .raiseTimeout = true
      ∧ (c.state = .descending ∨ c.state = .slowing)
      ∧ c.demands = { s.curtain.demands with raiseFail := true }
      ∧ c.startTimer = some (s.now + s.tables.curtain.startWindow.toNat * 100) := by
  obtain ⟨htables, hlines, hnow⟩ := raiseFailed_unmoved s
  have hin : (raiseFailed s).lines.limitIn = false := by rw [hlines, h]
  have hfaults : (raiseFails tally s).curtain.faults
      = if switchLate (raiseFailed s) = true
        then addFault (addFault s.curtain.faults .raiseTimeout) .slowSwitchMismatch
        else addFault s.curtain.faults .raiseTimeout := by
    rw [raiseFails_eq, abortRaise, if_neg (by rw [hin]; decide), fall_curtain, updCurtain_curtain, raiseFailed_curtain]
    rfl
  obtain ⟨hstate, hrest⟩ := abortRaise_falls hin
  rw [← raiseFails_eq] at hstate hrest
  refine ⟨congrArg Curtain.holdDrive hrest, congrArg Curtain.raisePermit hrest, congrArg Curtain.raiseTimer hrest,
    hasFault_of_ite hfaults (raiseTimeout_added _), hstate, (congrArg Curtain.demands hrest).trans ?_,
    (congrArg Curtain.startTimer hrest).trans ?_⟩
  · exact congrArg Curtain.demands (raiseFailed_curtain s)
  · rw [withCurtain_now, withCurtain_tables, hnow, htables]

theorem raiseFails_arrives (h : s.lines.limitIn = true) : let c := (raiseFails tally s).curtain
    c.holdDrive = false ∧ c.raisePermit = false ∧ c.raiseTimer = none ∧ hasFault c .raiseTimeout = true
      ∧ c.state = .resting := by
  obtain ⟨-, hlines, -⟩ := raiseFailed_unmoved s
  obtain ⟨test, harrived⟩ := abortRaise_arrives (s := raiseFailed s) (by rw [hlines, h])
  rw [← raiseFails_eq] at harrived
  dsimp only
  rw [harrived]
  have hadded : (raiseFailed s).curtain.faults.getLsbD CurtainFault.raiseTimeout.num = true := by
    rw [congrArg Curtain.faults (raiseFailed_curtain s)]
    exact raiseTimeout_added _
  exact ⟨rfl, rfl, rfl, hasFault_of_ite (g := .positionMismatch) (P := mismatchAt ((raiseFailed s).withCurtain
    { (raiseFailed s).curtain with raisePermit := false, holdDrive := false, raiseTimer := none }) 0) rfl hadded, rfl⟩

/-- The two ways a raise fails: each timer is stopped, and the raise fails (R94). -/
theorem exec_raiseFails {c : Instr} (hstate : s.curtain.state = .raising)
    (hc : (c = .raiseTimerExpiry ∧ s.curtain.raiseTimer ≠ none)
      ∨ (c = .startWindowExpiry ∧ s.curtain.startTimer ≠ none)) :
    ∃ x : Curtain, x.demands = s.curtain.demands ∧ x.faults = s.curtain.faults
      ∧ exec c s = .next (endAct (raiseFails reportCurtain (s.withCurtain x))) := by
  rcases hc with ⟨rfl, htimer⟩ | ⟨rfl, htimer⟩
  · refine ⟨{ s.curtain with raiseTimer := none }, rfl, rfl, (exec_raiseTimerExpiry htimer).trans ?_⟩
    rw [raiseOut, if_pos hstate]
    rfl
  · refine ⟨{ s.curtain with startTimer := none }, rfl, rfl, (exec_startWindowExpiry htimer).trans ?_⟩
    rw [startWindowOut, hstate]
    rfl

theorem raiseFails_shadows (hlaw : AlarmLaw s) (x : Curtain) : Shadows AlarmLaw
    (raiseFails reportCurtain (s.withCurtain x)) (raiseFails tally (s.withCurtain x)) :=
  (shadows_refl (s := s.withCurtain x) hlaw).raiseFails reports_reportCurtain

/-! ### The four timers -/

theorem fallTimersRunOut : Parts.FallTimersRunOut := by
  intro s hlaw
  refine ⟨fun h => if_neg (by simp [h]), fun h => if_neg (by simp [h]), fun h => ?start, fun h => ?stall⟩
  case start =>
    refine ⟨_, exec_startWindowExpiry h, onlyTouches_trans (startWindowOut_touches s) (endAct_onlyTouches _),
      fun hfall => ?_, fun hstill => ?_⟩
    · obtain ⟨hcurtain, -, -, hzone⟩ := (startFails_shadows hlaw).ended
      rw [startWindowOut_falling hfall, hcurtain, startFails_curtain]
      refine ⟨rfl, fun hdemand hnew => ?_⟩
      rw [hzone]
      exact (zone64_startFails s).trans
        (zone64_recordAlarm (s := startStopped s) (reportOf_alarm (.inl rfl) hdemand) hnew)
    · rw [startWindowOut_still hstill, endAct_curtain]
      rfl
  case stall =>
    refine ⟨_, exec_stallTimerExpiry h, onlyTouches_trans (stallOut_touches s) (endAct_onlyTouches _),
      fun hfall => ?_, fun hstill => ?_⟩
    · obtain ⟨hcurtain, -, -, hzone⟩ := (fallStalls_shadows hlaw).ended
      rw [stallOut_falling hfall, hcurtain, fallStalls_curtain]
      refine ⟨rfl, fun hdemand hnew => ?_⟩
      rw [hzone]
      exact (zone64_fallStalls s).trans (zone64_recordAlarm (reportOf_alarm (.inr rfl) hdemand) hnew)
    · rw [stallOut_still hstill, endAct_curtain]
      rfl

/-- The drop timer's operation, its fault reported through `rep` (R88, R98 case 3). -/
def dropFails (rep : Reporter) (s : State) : State :=
  closeTest false none (recordFault rep .dropTimeout (updCurtain (fun c => { c with dropTimer := none }) s))

theorem dropFails_shadows (hlaw : AlarmLaw s) : Shadows AlarmLaw (dropOut s) (dropFails tally s) :=
  ((shadows_refl (s := updCurtain (fun c => { c with dropTimer := none }) s) hlaw).recordFault
    reports_reportCurtain _).closeTest reports_reportCurtain _ _

theorem dropOut_touches (s : State) : OnlyTouches alarmReach s (dropOut s) :=
  closeTest_keeps (governorReach s) _ _ (recordFault_keeps (governorReach s) (reportReach s) _
    ((governorReach s).curtain _ (onlyTouches_refl _ s)))

theorem zone64_dropFails (s : State) : zone64 (dropFails tally s)
    = zone64 (recordFault tally .dropTimeout (updCurtain (fun c => { c with dropTimer := none }) s)) := by
  rw [dropFails, zone64_closeTest]

theorem dropTimerRunsOut : Parts.DropTimerRunsOut := by
  intro s hlaw
  refine ⟨fun h => if_neg (by simp [h]), fun h => ?out⟩
  case out =>
    obtain ⟨hcurtain, hphase, -, -⟩ := (dropFails_shadows hlaw).ended
    have hrecorded := recordFault_curtain (updCurtain (fun c => { c with dropTimer := none }) s) .dropTimeout
    have hkept := recordFault_phase (updCurtain (fun c => { c with dropTimer := none }) s) .dropTimeout
    refine ⟨_, exec_dropTimerExpiry h, onlyTouches_trans (dropOut_touches s) (endAct_onlyTouches _), ?_⟩
    rw [hcurtain, hphase, dropFails]
    generalize recordFault tally .dropTimeout _ = u at hrecorded hkept
    have htest : u.curtain.test = s.curtain.test := (congrArg Curtain.test hrecorded).trans rfl
    by_cases hrunning : s.curtain.test.status = .running
    · obtain ⟨hclosed, hvalid⟩ := closeTest_of_running u false none (by rw [htest, hrunning])
      rw [hclosed, hvalid, hrecorded]
      exact ⟨rfl, fun hidle => absurd hrunning hidle, fun _ => ⟨rfl, rfl⟩⟩
    · rw [closeTest_of_notRunning u false none (by rwa [htest]), hrecorded, hkept]
      exact ⟨rfl, fun _ => ⟨rfl, rfl⟩, fun h => absurd h hrunning⟩

theorem raiseTimersRunOut : Parts.RaiseTimersRunOut := by
  intro s hlaw
  have hfails {c : Instr} (hstate : s.curtain.state = .raising)
      (hc : (c = .raiseTimerExpiry ∧ s.curtain.raiseTimer ≠ none)
        ∨ (c = .startWindowExpiry ∧ s.curtain.startTimer ≠ none)) :
      Answers c s fun t => t.curtain.holdDrive = false ∧ t.curtain.raisePermit = false
        ∧ t.curtain.raiseTimer = none ∧ hasFault t.curtain .raiseTimeout = true
        ∧ (s.lines.limitIn = false → (t.curtain.state = .descending ∨ t.curtain.state = .slowing)
            ∧ t.curtain.demands = { s.curtain.demands with raiseFail := true }
            ∧ t.curtain.startTimer = some (s.now + s.tables.curtain.startWindow.toNat * 100))
        ∧ (s.lines.limitIn = true → t.curtain.state = .resting) := by
    obtain ⟨x, hdemands, -, hexec⟩ := exec_raiseFails hstate hc
    refine ⟨_, hexec, ?_⟩
    obtain ⟨hcurtain, -⟩ := (raiseFails_shadows hlaw x).ended
    rw [hcurtain, ← hdemands]
    cases hin : s.lines.limitIn with
    | false =>
      obtain ⟨hhold, hpermit, htimer, hfault, hrest⟩ := raiseFails_falls (s := s.withCurtain x) hin
      exact ⟨hhold, hpermit, htimer, hfault, fun _ => hrest, fun h => (nomatch h)⟩
    | true =>
      obtain ⟨hhold, hpermit, htimer, hfault, hrest⟩ := raiseFails_arrives (s := s.withCurtain x) hin
      exact ⟨hhold, hpermit, htimer, hfault, fun h => (nomatch h), fun _ => hrest⟩
  refine ⟨fun h => if_neg (by simp [h]), fun h hstill => ?_, fun h hstate => hfails hstate (.inl ⟨rfl, h⟩),
    fun h hstate => hfails hstate (.inr ⟨rfl, h⟩)⟩
  rw [exec_raiseTimerExpiry h, raiseOut, if_neg hstill]
  rfl

/-! ### What zone 64 hears of a timer -/

/-- A fault whose report is a PRE, heard in zone 64 through the end of its act. -/
theorem answers_recordPre {c : Instr} {f : CurtainFault} {u v w : State} (hexec : exec c s = .next (endAct u))
    (hshadow : Shadows AlarmLaw u v) (hv : zone64 v = zone64 (recordFault tally f w)) (hw : zone64 w = zone64 s)
    (hpre : reportOf w.curtain f = .pre) (hfaults : w.curtain.faults = s.curtain.faults) :
    (zone64 s = .quiet → hasFault s.curtain f = false → Answers c s fun t => (zoneAt t 64).state = .pre)
      ∧ (zone64 s = .quiet → hasFault s.curtain f = true → Answers c s fun t => (zoneAt t 64).state = .quiet)
      ∧ (zone64 s ∈ [.pre, .alarm] → Answers c s fun t => (zoneAt t 64).state = zone64 s) := by
  have hhas : hasFault w.curtain f = hasFault s.curtain f := by rw [hasFault, hfaults, hasFault]
  have hzone : (zoneAt (endAct u) 64).state
      = if hasFault s.curtain f = true then zone64 s else heard .pre (zone64 s) := by
    obtain ⟨-, -, -, hended⟩ := hshadow.ended
    rw [hended]
    exact hv.trans (by rw [zone64_recordPre w hpre, hhas, hw])
  refine ⟨fun h hnew => ⟨_, hexec, hzone.trans ?_⟩, fun h hold => ⟨_, hexec, hzone.trans ?_⟩,
    fun h => ⟨_, hexec, hzone.trans ?_⟩⟩
  · rw [hnew, h]
    rfl
  · rw [hold, h]
    rfl
  · simp only [List.mem_cons, List.not_mem_nil, or_false] at h
    rcases h with h | h <;> rw [h] <;> exact ite_self _

theorem zone64_raiseFails_falls (hin : s.lines.limitIn = false)
    (h : zone64 (recordFault tally .raiseTimeout s) = .pre) : zone64 (raiseFails tally s) = .pre := by
  obtain ⟨-, hlines, -⟩ := raiseFailed_unmoved s
  rw [raiseFails_eq, abortRaise, if_neg (by rw [hlines, hin]; decide)]
  refine zone64_enterDescending_pre _ ?_
  rw [zone64_fallBegins, zone64_updCurtain]
  exact h

theorem zone64_raiseFails_arrives (hin : s.lines.limitIn = true) (h : zone64 s ∈ [.quiet, .pre]) :
    zone64 (raiseFails tally s) = .quiet := by
  obtain ⟨-, hlines, -⟩ := raiseFailed_unmoved s
  rw [raiseFails_eq, abortRaise, if_pos (by rw [hlines, hin]), zone64_arriveIn]
  refine heard_clear_of_reference 0 ?_
  have hfailed : zone64 (raiseFailed s) = zone64 (recordFault tally .raiseTimeout s) := rfl
  rw [zone64_updCurtain, hfailed, zone64_recordPre s rfl]
  simp only [List.mem_cons, List.not_mem_nil, or_false] at h
  rcases h with h | h <;> rw [h] <;> split <;> decide

end

theorem zone64AtTimers : Parts.Zone64AtTimers := by
  intro s hlaw
  refine ⟨fun h hfall hdemand => ?start, fun h hfall hdemand => ?stall, fun h => ?drop, fun hstate c hc => ?raise⟩
  case start =>
    have hshadow := startFails_shadows hlaw
    rw [← startWindowOut_falling hfall] at hshadow
    exact answers_recordPre (exec_startWindowExpiry h) hshadow (zone64_startFails s) rfl
      (reportOf_pre (.inl hdemand)) rfl
  case stall =>
    have hshadow := fallStalls_shadows hlaw
    rw [← stallOut_falling hfall] at hshadow
    exact answers_recordPre (exec_stallTimerExpiry h) hshadow (zone64_fallStalls s) rfl
      (reportOf_pre (.inl hdemand)) rfl
  case drop =>
    exact answers_recordPre (exec_dropTimerExpiry h) (dropFails_shadows hlaw) (zone64_dropFails s) rfl
      (reportOf_pre (.inr ⟨by decide, by decide⟩)) rfl
  case raise =>
    obtain ⟨x, -, hfaults, hexec⟩ := exec_raiseFails hstate hc
    obtain ⟨-, -, -, hzone⟩ := (raiseFails_shadows hlaw x).ended
    have hrecorded : zone64 (recordFault tally .raiseTimeout (s.withCurtain x))
        = if hasFault s.curtain .raiseTimeout = true then zone64 s else heard .pre (zone64 s) := by
      rw [zone64_recordPre (s.withCurtain x) rfl, hasFault, withCurtain_curtain, hfaults, hasFault]
      rfl
    refine ⟨fun hin hquiet hnew => ⟨_, hexec, hzone.trans ?_⟩, fun hin hbefore => ⟨_, hexec, ?_⟩,
      fun hin hbefore => ⟨_, hexec, hzone.trans (zone64_raiseFails_arrives (s := s.withCurtain x) hin hbefore)⟩⟩
    · refine zone64_raiseFails_falls (s := s.withCurtain x) hin (hrecorded.trans ?_)
      rw [hnew, show zone64 s = .quiet from hquiet]
      rfl
    · simp only [List.mem_cons, List.not_mem_nil, or_false] at hbefore
      rcases hbefore with hpre | halarm
      · rw [hpre]
        refine hzone.trans (zone64_raiseFails_falls (s := s.withCurtain x) hin (hrecorded.trans ?_))
        rw [show zone64 s = .pre from hpre]
        exact ite_self _
      · rw [halarm]
        have hcommand : c ≠ .alarmReset ∧ ¬PowersOn c := by
          rcases hc with ⟨rfl, -⟩ | ⟨rfl, -⟩ <;> exact ⟨by decide, by simp [PowersOn]⟩
        exact kept_of_lawKept (lawKept_inAlarm hcommand.1 hcommand.2 64) halarm hexec

/-- Settles O30, by the fault each timer records, and the abort of the raise that fails. -/
theorem curtainTimersRunOut : Obligations.CurtainTimersRunOut :=
  ⟨fallTimersRunOut, dropTimerRunsOut, raiseTimersRunOut, zone64AtTimers⟩

end Sys2Proof.Machine
end


section
/-! STAFF-PRESENT, and the accepted transitions that are no commit (R13, R14, R117, R119, R121, R157). -/

namespace Sys2Proof.Machine

/-! ### Staff presence -/

section
variable {s : State} {tag b : Byte}

theorem exec_staffPresent_of_requested {args : List Byte} (h : Requested s 4 tag args) :
    exec .staffPresent s = .next (replied tag 4 (staffPresentOwner args (dropHead .consoleRx s)).2
      (staffPresentOwner args (dropHead .consoleRx s)).1) :=
  congrArg _ (handle_of_requested h _)

theorem staffPresentOwner_badValue (s : State) (h : 1 < b.toNat) :
    staffPresentOwner [b] s = (s, refuse .badArgument) := if_pos h

theorem staffPresentOwner_noStaff (hb : b.toNat ≤ 1) (h : noStaffPhase s.phase.phase = true) :
    staffPresentOwner [b] s = (s, refuse .wrongPhase) :=
  (if_neg (Nat.not_lt.mpr hb)).trans (if_pos h)

/-- In a phase with staff, a value of 0 or 1 is compared with the one in force. -/
theorem staffPresentOwner_open (hb : b.toNat ≤ 1) (h : noStaffPhase s.phase.phase = false) :
    staffPresentOwner [b] s = if s.phase.staff = decide (b = 1) then (s, done) else (changeStaff (decide (b = 1)) s, done) :=
  (if_neg (Nat.not_lt.mpr hb)).trans (if_neg (by rw [h]; decide))

/-- The phase and staff presence are given ones. -/
def PhaseIs (p : Phase) (staff : Bool) (s : State) : Prop := s.phase.phase = p ∧ s.phase.staff = staff

theorem zoneLaw_phaseIs (p : Phase) (staff : Bool) : ZoneLaw (PhaseIs p staff) where
  congr h _ _ hphase hstaff := ⟨hphase.trans h.1, hstaff.trans h.2⟩
  move _ _ _ h := h

theorem changeStaff_off_phase (s : State) : PhaseIs s.phase.phase false (changeStaff false s) := by
  have hoff : PhaseIs s.phase.phase false (s.withPhase { s.phase with staff := false }) := ⟨rfl, rfl⟩
  exact (zoneLaw_phaseIs _ _).endInvestigation ((zoneLaw_phaseIs _ _).record _ _ _ _ hoff)

theorem changeStaff_off_inAlarm {z : ZoneId} (h : (zoneAt s z).state = .investigating) :
    InAlarm z (changeStaff false s) :=
  endInvestigation_inAlarm (s := writeRecord .staffPresence 0 (boolByte false) 0
    (s.withPhase { s.phase with staff := false }))
    ((congrArg Zone.state (zoneAt_congr (writeRecord_monitor _ _ _ _ _) z)).trans h)

theorem noStaffPhase_iff (p : Phase) : noStaffPhase p = true ↔ p ∈ [.maintenance, .dark, .recovery] := by
  cases p <;> decide

theorem dropHead_alarmReach (q : QueueId) (s : State) : OnlyTouches alarmReach s (dropHead q s) :=
  onlyTouches_mono (by decide) (dropHead_onlyTouches q s)

end

/-- Settles O54, by the owner's tests, and by the change of staff presence with the end of the investigations (R117). -/
theorem staffPresenceSet : Obligations.StaffPresenceSet := by
  intro s tag b hreq
  have hexec := exec_staffPresent_of_requested hreq
  have hphase : (dropHead .consoleRx s).phase = s.phase := dropHead_phase _ _
  have hopen (h : s.phase.phase ∉ [.maintenance, .dark, .recovery]) :
      noStaffPhase (dropHead .consoleRx s).phase.phase = false := by
    rw [hphase]
    exact Bool.eq_false_iff.mpr fun hno => h ((noStaffPhase_iff _).mp hno)
  refine ⟨fun hb => ?value, fun hb hclosed => ?phase, fun hb hphases hsame => ?same, fun hb hphases hoff => ?on,
    fun hb hphases hon => ?off⟩
  case value => rwa [staffPresentOwner_badValue _ hb] at hexec
  case phase =>
    have hno : noStaffPhase (dropHead .consoleRx s).phase.phase = true := by
      rw [hphase, noStaffPhase_iff]
      exact not_not.mp hclosed
    rwa [staffPresentOwner_noStaff hb hno] at hexec
  case same =>
    rw [staffPresentOwner_open hb (hopen hphases), hphase, if_pos hsame] at hexec
    exact hexec
  case on =>
    subst hb
    rw [staffPresentOwner_open (by decide) (hopen hphases), hphase, if_neg (by rw [hoff]; decide)] at hexec
    rw [← hphase]
    exact hexec
  case off =>
    subst hb
    rw [staffPresentOwner_open (by decide) (hopen hphases), hphase, if_neg (by rw [hon]; decide)] at hexec
    obtain ⟨hkept, hstaff⟩ := changeStaff_off_phase (dropHead .consoleRx s)
    rw [hphase] at hkept
    refine ⟨changeStaff false (dropHead .consoleRx s), hexec, onlyTouches_trans (dropHead_alarmReach _ s)
      (changeStaff_keeps (alarmClosed_onlyTouches _) false (onlyTouches_refl _ _)), hstaff, hkept, fun z hz => ?_,
      fun z => (changeStaff_calm z _).2⟩
    exact changeStaff_off_inAlarm ((congrArg Zone.state (zoneAt_congr (dropHead_monitor _ _) z)).trans hz)

/-! ### Curtain-test validity -/

section
variable {s : State}

theorem compareSwitch_phase (asserts : Bool) (s : State) : (compareSwitch tally asserts s).phase = s.phase :=
  ite_keeps (P := fun t => t.phase = s.phase) (recordFault_phase s _) rfl

theorem enterSlowing_phase (s : State) : (enterSlowing s).phase = s.phase :=
  ite_keeps (P := fun t => t.phase = s.phase) (toState_phase _ _) rfl

theorem enterDescending_phase (s : State) : (enterDescending tally s).phase = s.phase := by
  rw [enterDescending, enterSlowing_phase, toState_phase, compareSwitch_phase]

/-- With no test running, a demand that joins the set leaves the test and its validity alone (R98). -/
theorem addDemand_idle (d : Demand) (hidle : s.curtain.test.status ≠ .running) :
    (addDemand tally d s).curtain.test = s.curtain.test ∧ (addDemand tally d s).phase = s.phase := by
  have hfalls (u : State) : (enterDescending tally (fallBegins u)).curtain.test = u.curtain.test
      ∧ (enterDescending tally (fallBegins u)).phase = u.phase :=
    ⟨by rw [fall_curtain], enterDescending_phase _⟩
  cases hany : s.curtain.demands.any with
  | true =>
    rw [addDemand_of_any _ hany]
    exact ⟨rfl, rfl⟩
  | false =>
    by_cases hout : s.curtain.state = .out
    · rw [addDemand_out _ hany hout]
      exact hfalls _
    by_cases hraising : s.curtain.state = .raising
    · rw [addDemand_raising _ hany hraising]
      unfold abortRaise
      dsimp only
      split
      · obtain ⟨test, harrived, hrest, -⟩ := arriveIn_effect (updCurtain (fun c => { c with
          raisePermit := false, holdDrive := false, raiseTimer := none }) (withDemand d s))
        obtain ⟨rfl, hphase⟩ := hrest hidle
        exact ⟨(congrArg Curtain.test harrived).trans rfl, hphase⟩
      · exact hfalls _
    · rw [addDemand_of_notHeld _ (by simp [hout, hraising])]
      exact ⟨rfl, rfl⟩

/-- No test is running, and curtain-test validity is a given one. -/
def TestIdle (valid : Bool) (s : State) : Prop := s.curtain.test.status ≠ .running ∧ s.phase.testValid = valid

/-- A delivery to the governor closes a running test FAIL, and leaves an idle one alone (R98 case 2). -/
theorem deliverCurtain_test (s : State) : deliverCurtain s = s
    ∨ TestIdle (s.phase.testValid && decide (s.curtain.test.status ≠ .running)) (deliverCurtain s) := by
  unfold deliverCurtain addAlarm
  by_cases halarm : s.curtain.demands.alarm = true
  · exact .inl (if_pos halarm)
  rw [if_neg halarm]
  refine .inr ?_
  dsimp only
  have hclosed : TestIdle (s.phase.testValid && decide (s.curtain.test.status ≠ .running)) (closeTest false none s) := by
    by_cases hrunning : s.curtain.test.status = .running
    · obtain ⟨hcurtain, hphase⟩ := closeTest_of_running s false none hrunning
      rw [TestIdle, hcurtain, hphase, hrunning]
      exact ⟨by simp, by simp⟩
    · rw [closeTest_of_notRunning s false none hrunning]
      exact ⟨hrunning, by simp [hrunning]⟩
  generalize closeTest false none s = u at hclosed
  obtain ⟨hidle, hvalid⟩ := hclosed
  have hshadow := (shadows_refl (s := u) trivial).addDemand reports_inDelivery .alarm
  obtain ⟨htest, hphase⟩ := addDemand_idle .alarm hidle
  have hjoined : TestIdle (s.phase.testValid && decide (s.curtain.test.status ≠ .running))
      (addDemand (report64 handOverInDelivery) .alarm u) := by
    rw [TestIdle, ← hshadow.curtain, ← hshadow.phase, htest, hphase]
    exact ⟨hidle, hvalid⟩
  obtain ⟨-, hcurtain, hkept⟩ := report64_inDelivery .alarm (addDemand (report64 handOverInDelivery) .alarm u)
  refine ite_keeps ?_ hjoined
  rw [TestIdle, hcurtain, hkept]
  exact hjoined

theorem reachClosed_testIdle (valid : Bool) : ReachClosed (TestIdle valid) where
  record k a b c h := by rwa [TestIdle, writeRecord_curtain, writeRecord_phase]
  offer q f h := by rwa [TestIdle, offer_curtain, offer_phase]
  calls _ h := h
  stream _ h := h
  monitor _ h := h
  effects _ h := h
  alarmLeaves h := h
  deliverCurtain {s} h := by
    rcases deliverCurtain_test s with hsame | hidle
    · rwa [hsame]
    · simpa [h.1, h.2] using hidle

/-- What follows an alarm never makes curtain-test validity true. -/
theorem reachClosed_validOnly (C : Prop) : ReachClosed fun s => s.phase.testValid = true → C where
  record k a b c h := by rwa [writeRecord_phase]
  offer q f h := by rwa [offer_phase]
  calls _ h := h
  stream _ h := h
  monitor _ h := h
  effects _ h := h
  alarmLeaves h := h
  deliverCurtain {s} h := by
    rcases deliverCurtain_test s with hsame | ⟨-, hvalid⟩
    · rwa [hsame]
    · rw [hvalid, Bool.and_eq_true]
      exact fun hboth => h hboth.1

/-! ### An accepted transition that is no commit -/

/-- The state in which the zones and the calls follow a transition that is no commit (R4, R6). -/
def phased (target : Phase) (s : State) : State :=
  let s1 := changePhase target s
  if target = .maintenance then s1.withWorking s1.tables else s1

variable {target : Phase} (length : Nat)

theorem carryOut_phased (h : s.phase.phase ≠ .maintenance) : carryOut target length s
    = callsFollowPhase s.phase.phase target length (zonesFollowPhase target (phased target s)) := by
  simp only [carryOut, phased, if_neg h]

theorem carryOut_reach {P : State → Prop} (hP : ReachClosed P) (hcommit : s.phase.phase ≠ .maintenance)
    (h : P (phased target s)) : P (carryOut target length s) := by
  rw [carryOut_phased length hcommit]
  exact hP.callsFollowPhase _ target length (hP.zonesFollowPhase target h)

theorem carryOut_touches (hcommit : s.phase.phase ≠ .maintenance) :
    OnlyTouches alarmReach (phased target s) (carryOut target length s) := by
  have hP := alarmClosed_onlyTouches (phased target s)
  rw [carryOut_phased length hcommit]
  exact callsFollowPhase_keeps hP _ target length (zonesFollowPhase_keeps hP target (onlyTouches_refl _ _))

theorem phased_phase : (phased target s).phase = (changePhase target s).phase := by
  unfold phased
  dsimp only
  split <;> rfl

theorem phased_curtain : (phased target s).curtain = s.curtain := by
  have hchanged : (changePhase target s).curtain = s.curtain := by
    unfold changePhase
    dsimp only
    split <;> simp [noticeIsDue]
  unfold phased
  dsimp only
  split <;> exact hchanged

theorem onlyTouches_withWorking (s : State) (x : Tables) : OnlyTouches [.working] s (s.withWorking x) := by
  intro b hb
  cases b with
  | working => exact absurd (List.mem_singleton_self _) hb
  | _ => rfl

/-- What an accepted transition leaves in place, before the zones and the calls follow it (R6). -/
theorem phased_touches : OnlyTouches (.working :: alarmReach) s (phased target s) := by
  have hchanged : OnlyTouches alarmReach s (changePhase target s) :=
    changePhase_keeps (alarmClosed_onlyTouches s) target (onlyTouches_refl _ s)
  have hwide : OnlyTouches (.working :: alarmReach) s (changePhase target s) :=
    onlyTouches_mono (fun _ => List.mem_cons_of_mem _) hchanged
  unfold phased
  dsimp only
  split
  · exact onlyTouches_trans hwide (onlyTouches_mono (by simp) (onlyTouches_withWorking _ _))
  · exact hwide

theorem phased_working : (phased target s).working = if target = .maintenance then s.tables else s.working := by
  have hchanged : OnlyTouches alarmReach s (changePhase target s) :=
    changePhase_keeps (alarmClosed_onlyTouches s) target (onlyTouches_refl _ s)
  unfold phased
  dsimp only
  split
  next => exact hchanged .tables (by decide)
  next => exact hchanged .working (by decide)

theorem carryOut_staff (hcommit : s.phase.phase ≠ .maintenance) :
    (carryOut target length s).phase.staff = (s.phase.staff && !noStaffPhase target) := by
  have hlaw := zoneLaw_phaseIs target (s.phase.staff && !noStaffPhase target)
  refine (carryOut_keeps_law hlaw.followsAlarm.held hlaw.handOverRules (target := target) (s := s)
    (length := length) ?_).2
  rw [if_neg hcommit, PhaseIs, changePhase_phase]
  exact ⟨rfl, rfl⟩

/-- Suppression leaves the pending list empty (R157). -/
theorem suppressOrdinary_unlisted (h : PendingLaw s.calls) : (suppressOrdinary s).calls.pendingList = [] := by
  have hshrinks := shrinks_suppressOrdinary s
  have hafter : PendingLaw (suppressOrdinary s).calls := pendingLaw_shrinks h hshrinks
  obtain ⟨ended, hby⟩ := hshrinks.calls
  refine List.eq_nil_iff_forall_not_mem.mpr fun e he => ?_
  have hold : e ∈ s.calls.pendingList := by
    rw [hby.list] at he
    exact (List.mem_filter.mp he).1
  obtain ⟨c, hc, -⟩ := (hafter e).mp he
  have hnone : callAt (suppressOrdinary s) e = none := foldl_endRunning_none (.inl (foldl_endCall_none hold))
  exact nomatch hnone.symm.trans hc

theorem stopInterval_list (s : State) : (stopInterval s).calls.pendingList = s.calls.pendingList := rfl

theorem carryOut_unlisted (h : PendingLaw s.calls) (hpermits : permitsCalls target = false) :
    (carryOut target length s).calls.pendingList = [] := by
  have hnot : target ≠ .interval := by rintro rfl; cases hpermits
  have hlist := suppressOrdinary_unlisted (zonesCarried_pending (target := target) h)
  rw [carryOut_eq]
  generalize zonesCarried target s = u at hlist
  unfold callsFollowPhase
  dsimp only
  rw [hpermits, if_neg hnot, if_neg Bool.false_ne_true]
  split
  · exact (stopInterval_list _).trans hlist
  · exact hlist

/-! ### The tests of an accepted transition -/

/-- The guards of a transition that is no commit (R6, R8, R12). -/
theorem guardOf_passed (hfree : s.effects.stage ≠ .evacuate ∨ target = .clearing)
    (hcommit : s.phase.phase ≠ .maintenance) (hstore : target = .maintenance → s.store.writing = none)
    (hopening : s.phase.phase = .dark → target = .houseOpen → s.phase.testValid = true ∧ s.monitor.link = .up
      ∧ s.effects.stage ≠ .staffAlert) (hcurtain : s.phase.phase = .recovery → s.curtain.state ≠ .unknown) :
    guardOf s target = none := by
  unfold guardOf
  split
  next hphase => exact absurd hphase hcommit
  next => simp [hstore rfl]
  next hphase =>
    obtain ⟨hvalid, hlink, hstaff⟩ := hopening hphase rfl
    have hstage : s.effects.stage ≠ .evacuate := hfree.resolve_right (by decide)
    simp [openingGuards, hvalid, hlink, hstaff, hstage]
  next hphase => exact if_neg (hcurtain hphase)
  next => rfl

/-- The phases in which no delay is granted, no window is open, or no call runs (1.6). -/
theorem permits_of_mem (p : Phase) : (p ∈ [.maintenance, .dark, .clearing] → permitsDelay p = false)
    ∧ (permitsIsolation p = false ↔ p ∉ [.rehearsal, .performance]) ∧ (p ∈ [.maintenance, .dark] → permitsCalls p = false)
    ∧ (clearsValidity p = true ↔ p ∈ [.dark, .maintenance]) := by
  cases p <;> decide

end

/-- Settles O51: the phase is changed first; what the zones and the calls make of it never makes curtain-test validity
true, leaves no investigation or window the phase does not permit, and suppresses the ordinary calls. -/
theorem phaseChanges : Obligations.PhaseChanges := by
  rintro s tag b more target hreq rfl hrow hfree hcommit hstore hopening hcurtain
  have hexec := exec_setPhase_of_requested hreq
  have hphase : (dropHead .consoleRx s).phase = s.phase := dropHead_phase _ _
  have hnew : target ≠ s.phase.phase := by
    rintro rfl
    exact transitionRows_irrefl _ hrow
  have htests : transitionTests s target = none :=
    transitionTests_passed hfree ((isTransition_iff _ _).mpr hrow) (guardOf_passed hfree hcommit hstore hopening hcurtain)
  have haccepted : transitionTests (dropHead .consoleRx s) target = none := htests
  rw [setPhaseOwner_accepted more (by rwa [hphase]) haccepted] at hexec
  generalize intervalLength (dropHead .consoleRx s) (target.code :: more) = length at hexec
  have hnoCommit : (dropHead .consoleRx s).phase.phase ≠ .maintenance := by rwa [hphase]
  have hstart : OnlyTouches (.working :: alarmReach) s (dropHead .consoleRx s) :=
    onlyTouches_mono (fun _ => List.mem_cons_of_mem _) (dropHead_alarmReach _ s)
  have hfollowed := carryOut_touches (target := target) length hnoCommit
  have hvalid : (phased target (dropHead .consoleRx s)).phase.testValid
      = (s.phase.testValid && decide (target ∉ [.dark, .maintenance])) := by
    rw [phased_phase, changePhase_phase, hphase]
    have hclears := (permits_of_mem target).2.2.2
    by_cases h : target ∈ [.dark, .maintenance]
    · rw [hclears.mpr h, decide_eq_false (not_not.mpr h)]
      rfl
    · rw [Bool.eq_false_iff.mpr (fun hc => h (hclears.mp hc)), decide_eq_true h]
      rfl
  refine ⟨carryOut target length (dropHead .consoleRx s), hexec, ?_, carryOut_phase _ _ _, ?_, fun hidle => ?_, ?_, ?_,
    fun h z => (carryOut_calm z length _ ((permits_of_mem target).1 h)).2,
    fun h => carryOut_noWindows length _ ((permits_of_mem target).2.1.mpr h), fun h hpending => ?_⟩
  · exact onlyTouches_trans hstart (onlyTouches_trans phased_touches
      (onlyTouches_mono (fun _ => List.mem_cons_of_mem _) hfollowed))
  · rw [carryOut_staff length hnoCommit, hphase]
    cases target <;> rfl
  · have hidle' : TestIdle (s.phase.testValid && decide (target ∉ [.dark, .maintenance]))
        (phased target (dropHead .consoleRx s)) := by
      refine ⟨?_, hvalid⟩
      rwa [phased_curtain, dropHead_curtain]
    exact (carryOut_reach length (reachClosed_testIdle _) hnoCommit hidle').2
  · refine carryOut_reach length (reachClosed_validOnly _) hnoCommit fun h => ?_
    rw [hvalid, Bool.and_eq_true, decide_eq_true_eq] at h
    exact h
  · rw [hfollowed .working (by decide), phased_working, dropHead_tables, dropHead_working]
  · have hcalls := (permits_of_mem target).2.2.1 h
    have hlisted : PendingLaw (dropHead .consoleRx s).calls := by rwa [dropHead_calls]
    exact ⟨carryOut_unlisted length hlisted hcalls, carryOut_noOrdinary length hlisted hcalls⟩

end Sys2Proof.Machine
end


section
/-! A zone watched through everything a hand-over brings about: the closings of R131 and the governor's reports reach the
zones through changes of record that take none out of ALARM, and none out of INVESTIGATING but to ALARM (R103, R110, R117,
R120, R124, R131, R132). -/

namespace Sys2Proof.Machine

/-! ### A device's entry -/

theorem find?_filter_of_imp {ds : List Device} {n : Byte} {p : Device → Bool}
    (h : ∀ d : Device, d.number = n → p d = true) : deviceIn (ds.filter p) n = deviceIn ds n := by
  rw [deviceIn, deviceIn, List.find?_filter]
  congr 1
  funext d
  by_cases hd : d.number = n <;> simp [hd, h]

theorem find?_filter_of_not {ds : List Device} {n : Byte} {p : Device → Bool}
    (h : ∀ d : Device, d.number = n → p d = false) : deviceIn (ds.filter p) n = none := by
  rw [deviceIn, List.find?_eq_none]
  intro d hd hn
  have hp := (List.mem_filter.mp hd).2
  rw [h d (of_decide_eq_true hn)] at hp
  cases hp

theorem deviceIn_append (xs ys : List Device) (n : Byte) :
    deviceIn (xs ++ ys) n = (deviceIn xs n).or (deviceIn ys n) := by
  rw [deviceIn, List.find?_append]
  rfl

theorem deviceIn_setDevice_same (n : Byte) (c : Condition) (ds : List Device) :
    deviceIn (setDevice n c ds) n = some ⟨n, c⟩ := by
  have hbelow : deviceIn (ds.filter fun d => d.number.toNat < n.toNat) n = none :=
    find?_filter_of_not fun d hd => by simp [hd]
  rw [setDevice, deviceIn_append, deviceIn_append, hbelow]
  simp [deviceIn]

theorem deviceIn_setDevice_other {m n : Byte} (c : Condition) (ds : List Device) (h : n ≠ m) :
    deviceIn (setDevice m c ds) n = deviceIn ds n := by
  have hsingle : deviceIn [(⟨m, c⟩ : Device)] n = none := by simp [deviceIn, Ne.symm h]
  rw [setDevice, deviceIn_append, deviceIn_append, hsingle]
  rcases Nat.lt_or_gt_of_ne fun he : n.toNat = m.toNat => h (BitVec.eq_of_toNat_eq he) with hlt | hgt
  · rw [find?_filter_of_imp (p := fun d => decide (d.number.toNat < m.toNat)) fun d hd => by simp [hd, hlt],
      find?_filter_of_not (p := fun d => decide (m.toNat < d.number.toNat)) fun d hd => by simp [hd]; omega]
    simp
  · rw [find?_filter_of_not (p := fun d => decide (d.number.toNat < m.toNat)) fun d hd => by simp [hd]; omega,
      find?_filter_of_imp (p := fun d => decide (m.toNat < d.number.toNat)) fun d hd => by simp [hd, hgt]]
    simp

/-! ### A zone watched -/

/-- A change of a zone's record after which ALARM still stands, an investigation still stands or has become ALARM, and
every entry of its map that is not masked still stands. -/
structure Onward (old new : Zone) : Prop where
  alarm : old.state = .alarm → new.state = .alarm
  investigating : old.state = .investigating → new.state = .investigating ∨ new.state = .alarm
  entries : ∀ n d, deviceIn old.devices n = some d → d.condition ≠ .fire true → deviceIn new.devices n = some d

theorem onward_of_same {old new : Zone} (h : new.state = old.state) (hd : new.devices = old.devices) : Onward old new :=
  ⟨fun ha => h.trans ha, fun hi => .inl (h.trans hi), fun _ _ hn _ => by rw [hd, hn]⟩

theorem onward_of_alarm {old new : Zone} (h : new.state = .alarm) (hd : new.devices = old.devices) : Onward old new :=
  ⟨fun _ => h, fun _ => .inr h, fun _ _ hn _ => by rw [hd, hn]⟩

theorem onward_of_early {old new : Zone} (h : old.state ≠ .alarm) (hi : old.state ≠ .investigating)
    (hd : new.devices = old.devices) : Onward old new :=
  ⟨fun ha => absurd ha h, fun h => absurd h hi, fun _ _ hn _ => by rw [hd, hn]⟩

/-- A masked entry replaced leaves every entry that is not masked (R120). -/
theorem onward_of_unmasked {r : Zone} {n : Byte} {x : Byte} (h : deviceIn r.devices n = some ⟨x, .fire true⟩) :
    Onward r { r with devices := setDevice n (.fire false) r.devices } := by
  refine ⟨id, .inl, fun m d hm hd => ?_⟩
  have hmn : m ≠ n := by
    rintro rfl
    exact hd (by rw [← Option.some.inj (h.symm.trans hm)])
  exact (deviceIn_setDevice_other _ _ hmn).trans hm

/-- A property of the zones, kept by onward changes of the records of some zones, `A`, where the windows of the others are
closed; the stage as it follows the zones keeps it too. -/
structure Watched (A : ZoneId → Prop) (P : State → Prop) : Prop extends CallsClosed P, NoticeClosed P where
  stream : ∀ {s} x, P s → P (s.withStream x)
  set : ∀ {s} x, P s → P (s.withEffects { s.effects with set := x })
  stage : ∀ {s}, P s → P (s.withEffects { s.effects with stage := stageOf s.monitor.zones s.monitor.link })
  move : ∀ {s} y f, A y → Onward (zoneAt s y) (f (zoneAt s y)) → P s → P (updZone y f s)
  closed : ∀ {s} y, P s → A y ∨ (zoneAt s y).window = none
  governor : A 64

namespace Watched

variable {A : ZoneId → Prop} {P : State → Prop} (hP : Watched A P) {s : State}
include hP

section
variable {ho : HandOver} (hh : ∀ b {s}, P s → P (ho b s))
include hh

theorem enterState {y : ZoneId} {st : ZoneState} (hy : A y)
    (hst : Onward (zoneAt s y) { zoneAt s y with state := st }) (h : P s) : P (enterState ho y st s) := by
  refine ite_keeps h (hh _ (hP.toCallsClosed.record _ _ _ _ (hP.move y _ hy ?_ h)))
  refine ⟨hst.alarm, hst.investigating, fun n d hn hd => ?_⟩
  dsimp only
  split <;> exact hn

theorem enterAlarm {y : ZoneId} (hy : A y) (h : P s) : P (Machine.enterState ho y .alarm s) :=
  hP.enterState hh hy (onward_of_alarm rfl rfl) h

theorem putMap {y : ZoneId} {ds : List Device} (hy : A y)
    (hds : Onward (zoneAt s y) { zoneAt s y with devices := ds }) (h : P s) : P (putMap ho y ds s) := by
  have hput : P (updZone y (fun r => { r with devices := ds }) s) := hP.move y _ hy hds h
  exact ite_keeps hput (hh _ hput)

theorem report64 (r : CurtainReport) (h : P s) : P (report64 ho r s) := by
  unfold Machine.report64
  split
  next => exact hP.enterAlarm hh hP.governor h
  next hst => exact hP.enterState hh hP.governor (onward_of_early (by simp [hst]) (by simp [hst]) rfl) h
  next hst => exact hP.enterState hh hP.governor (onward_of_early (by simp [hst]) (by simp [hst]) rfl) h
  all_goals exact h

/-! ### Fires, with every zone in `A` or the stage EVACUATE -/

section
variable (hscope : (∀ y, A y) ∨ ∀ {s}, P s → s.effects.stage = .evacuate)
include hscope

theorem confirm {y : ZoneId} (starters : List Byte) (hy : A y) (hfrom : (zoneAt s y).state ≠ .alarm) (h : P s) :
    P (confirm ho y starters s) := by
  have hcleared : P (clearKnock y s) := hP.move y _ hy (onward_of_same rfl rfl) h
  rcases hscope with hall | hevacuate
  · have hset : P (updZone y (fun r => { r with
        starters := starters, acked := false
        ackTimer := afterS (clearKnock y s) (rowOf (clearKnock y s) y).ackWindow.toNat
        invTimer := afterS (clearKnock y s) (rowOf (clearKnock y s) y).invTime.toNat }) (clearKnock y s)) :=
      hP.move y _ hy (onward_of_same rfl rfl) hcleared
    have hstill : (zoneAt (updZone y (fun r => { r with
        starters := starters, acked := false
        ackTimer := afterS (clearKnock y s) (rowOf (clearKnock y s) y).ackWindow.toNat
        invTimer := afterS (clearKnock y s) (rowOf (clearKnock y s) y).invTime.toNat }) (clearKnock y s)) y).state
          ≠ .alarm := by
      rwa [zoneAt_updZone_same, zoneAt_clearKnock]
    exact ite_keeps (hP.enterAlarm hh hy hcleared) (ite_keeps
      (hP.enterState hh hy ⟨fun halarm => absurd halarm hstill, fun _ => .inl rfl, fun _ _ hn _ => hn⟩ hset)
      (foldl_keeps (fun _ x hx => hP.enterAlarm hh (hall x) hx) _ _ hcleared))
  · have hconfirm : Machine.confirm ho y starters s = Machine.enterState ho y .alarm (clearKnock y s) := by
      simp [Machine.confirm, delayGranted_of_evacuate y (hevacuate h)]
    rw [hconfirm]
    exact hP.enterAlarm hh hy hcleared

theorem fireActs {y : ZoneId} (n : Byte) (hy : A y) (h : P s) : P (fireActs ho y n s) := by
  have hfirst (hfrom : (zoneAt s y).state ≠ .alarm) (hinv : (zoneAt s y).state ≠ .investigating) :
      P (if (rowOf s y).coincidence = 1 then
        Machine.enterState ho y .firstKnock (updZone y (fun r => { r with knock := some n }) s)
        else Machine.confirm ho y [n] s) := by
    refine ite_keeps (hP.enterState hh hy ?_ (hP.move y _ hy (onward_of_same rfl rfl) h))
      (hP.confirm hh hscope _ hy hfrom h)
    rw [zoneAt_updZone_same]
    exact onward_of_early hfrom hinv rfl
  unfold Machine.fireActs
  dsimp only
  split
  next hst => exact hfirst (by simp [hst]) (by simp [hst])
  next hst => exact hfirst (by simp [hst]) (by simp [hst])
  next hst => exact ite_keeps h (hP.confirm hh hscope _ hy (by simp [hst]) h)
  next => exact ite_keeps h (hP.enterAlarm hh hy h)
  next => exact h

theorem replayDevice {y : ZoneId} (n : Byte) (hy : A y) (h : P s) : P (replayDevice ho y s n) := by
  unfold Machine.replayDevice
  split
  next hmasked => exact hP.fireActs hh hscope n hy (hP.putMap hh hy (onward_of_unmasked hmasked) h)
  next => exact h

theorem closeWindow (cause : CloseCause) (y : ZoneId) (h : P s) : P (closeWindow ho cause s y) := by
  rcases hP.closed y h with hy | hclosed
  · exact ite_keeps h (foldl_keeps (fun _ n hx => hP.replayDevice hh hscope n hy hx) _ _
      (hP.toCallsClosed.record _ _ _ _ (hP.move y _ hy (onward_of_same rfl rfl) h)))
  · rwa [Machine.closeWindow, if_pos (by rw [hclosed]; rfl)]

theorem closeWindows (cause : CloseCause) (h : P s) : P (closeWindows ho cause s) :=
  foldl_keeps (fun _ y hx => hP.closeWindow hh hscope cause y hx) _ _ h

end
end

/-! ### The hand-over -/

theorem recomputeStage {rise : State → State} (hrise : ∀ {s}, P s → P (rise s)) (h : P s) :
    P (recomputeStage rise s) := by
  have hset : P (setStage (stageOf s.monitor.zones s.monitor.link) s) :=
    hP.toCallsClosed.record _ _ _ _ (hP.notice (hP.stage h))
  exact ite_keeps h (ite_keeps (hrise hset) hset)

theorem deliver {curtain : State → State} (hcurtain : ∀ {s}, P s → P (curtain s)) (old : EffectSet) (h : P s) :
    P (deliver curtain old s) := by
  have hdelivered : P (if s.effects.set.curtain then curtain s else s) := ite_keeps (hcurtain h) h
  exact askEvacuation_keeps hP.toCallsClosed (ite_keeps (hP.stream _ hdelivered) hdelivered)

theorem handOverWith {rise curtain : State → State} (hrise : ∀ {s}, P s → P (rise s))
    (hcurtain : ∀ {s}, P s → P (curtain s)) (entered : Bool) (h : P s) : P (handOverWith rise curtain entered s) := by
  have hstage := hP.recomputeStage hrise (hP.set (currentSet s) h)
  exact followInvestigation_of_callsClosed hP.toCallsClosed entered (ite_keeps hstage (hP.deliver hcurtain _ hstage))

theorem handOverInDelivery (b : Bool) (h : P s) : P (handOverInDelivery b s) := hP.handOverWith id id b h

theorem deliverCurtain (h : P s) : P (deliverCurtain s) :=
  hP.toNoticeClosed.addAlarm (fun r _ h => hP.report64 (fun b _ h => hP.handOverInDelivery b h) r h) h

theorem handOverInRise (b : Bool) (h : P s) : P (handOverInRise b s) := hP.handOverWith id hP.deliverCurtain b h

section
variable (hscope : (∀ y, A y) ∨ ∀ {s}, P s → s.effects.stage = .evacuate)
include hscope

theorem riseToEvacuate (h : P s) : P (riseToEvacuate s) :=
  hP.closeWindows (fun b _ h => hP.handOverInRise b h) hscope _
    (suppressOrdinary_keeps hP.toCallsClosed (endCall_keeps hP.toCallsClosed _ _ h))

theorem handOver (b : Bool) (h : P s) : P (handOver b s) :=
  hP.handOverWith (fun h => hP.riseToEvacuate hscope h) hP.deliverCurtain b h

end

end Watched

/-! ### A zone that investigates or is in ALARM -/

/-- A zone is INVESTIGATING or in ALARM. -/
def Engaged (z : ZoneId) (s : State) : Prop := (zoneAt s z).state = .investigating ∨ (zoneAt s z).state = .alarm

theorem engaged_congr {z : ZoneId} {s t : State} (hmonitor : t.monitor = s.monitor) (h : Engaged z s) : Engaged z t := by
  rwa [Engaged, zoneAt_congr hmonitor]

theorem watched_engaged (z : ZoneId) : Watched (fun _ => True) (Engaged z) where
  record k a b c h := engaged_congr (writeRecord_monitor k a b c _) h
  offer q f h := engaged_congr (offer_monitor q f _) h
  calls _ h := h
  curtain _ h := h
  phase _ h := h
  notice h := h
  stream _ h := h
  set _ h := h
  stage h := h
  move {s} y f _ hf h := by
    by_cases hz : z = y
    · subst hz
      rw [Engaged, zoneAt_updZone_same]
      exact h.elim hf.investigating fun ha => .inr (hf.alarm ha)
    · rwa [Engaged, zoneAt_updZone_other _ _ hz]
  closed _ _ := .inl trivial
  governor := trivial

/-- A zone's map holds an entry, and it is not a masked one. -/
def Entered (z : ZoneId) (d : Device) (s : State) : Prop := deviceIn (zoneAt s z).devices d.number = some d

theorem watched_entered (z : ZoneId) {d : Device} (hd : d.condition ≠ .fire true) :
    Watched (fun _ => True) (Entered z d) := by
  have hcongr {s t : State} (hmonitor : t.monitor = s.monitor) (h : Entered z d s) : Entered z d t := by
    rwa [Entered, zoneAt_congr hmonitor]
  exact
    { record := fun k a b c h => hcongr (writeRecord_monitor k a b c _) h
      offer := fun q f h => hcongr (offer_monitor q f _) h
      calls := fun _ h => h
      curtain := fun _ h => h
      phase := fun _ h => h
      notice := fun h => h
      stream := fun _ h => h
      set := fun _ h => h
      stage := fun h => h
      move := fun {s} y f _ hf h => by
        by_cases hz : z = y
        · subst hz
          rw [Entered, zoneAt_updZone_same]
          exact hf.entries _ _ h hd
        · rwa [Entered, zoneAt_updZone_other _ _ hz]
      closed := fun _ _ => .inl trivial
      governor := trivial }

/-! ### A zone with no open window -/

/-- A zone's record is a given one. -/
def Holds (z : ZoneId) (r : Zone) (s : State) : Prop := zoneAt s z = r

/-- A zone's record is a given one, and the stage is EVACUATE with a zone in ALARM. -/
def HoldsInAlarm (z : ZoneId) (r : Zone) (s : State) : Prop :=
  zoneAt s z = r ∧ s.effects.stage = .evacuate ∧ ∃ y, InAlarm y s

section
variable {z : ZoneId} {r : Zone} (hz : z ≠ 64) (hr : r.window = none)
include hz hr

theorem watched_holds : Watched (· ≠ z) (Holds z r) where
  record k a b c h := (zoneAt_congr (writeRecord_monitor k a b c _) z).trans h
  offer q f h := (zoneAt_congr (offer_monitor q f _) z).trans h
  calls _ h := h
  curtain _ h := h
  phase _ h := h
  notice h := h
  stream _ h := h
  set _ h := h
  stage h := h
  move y f hy _ h := (zoneAt_updZone_other f _ (Ne.symm hy)).trans h
  closed {s} y h := by
    by_cases hy : y = z
    · exact .inr (by rw [hy, show zoneAt s z = r from h, hr])
    · exact .inl hy
  governor := Ne.symm hz

theorem watched_holdsInAlarm : Watched (· ≠ z) (HoldsInAlarm z r) := by
  have hcongr {s t : State} (hmonitor : t.monitor = s.monitor) (heffects : t.effects = s.effects)
      (h : HoldsInAlarm z r s) : HoldsInAlarm z r t := by
    obtain ⟨hzone, hstage, y, hy⟩ := h
    exact ⟨(zoneAt_congr hmonitor z).trans hzone, by rw [heffects, hstage],
      y, (congrArg Zone.state (zoneAt_congr hmonitor y)).trans hy⟩
  exact
    { record := fun k a b c h => hcongr (writeRecord_monitor k a b c _) (writeRecord_effects k a b c _) h
      offer := fun q f h => hcongr (offer_monitor q f _) (offer_effects q f _) h
      calls := fun _ h => h
      curtain := fun _ h => h
      phase := fun _ h => h
      notice := fun h => h
      stream := fun _ h => h
      set := fun _ h => h
      stage := fun {s} h => by
        obtain ⟨hzone, -, y, hy⟩ := h
        exact ⟨hzone, (stageOf_eq_evacuate_iff _ _).mpr ⟨y, hy⟩, y, hy⟩
      move := fun {s} y f hy hf h => by
        obtain ⟨hzone, hstage, x, hx⟩ := h
        exact ⟨(watched_holds hz hr).move y f hy hf hzone, hstage, x, inAlarm_updZone hf.alarm hx⟩
      closed := fun y h => (watched_holds hz hr).closed y h.1
      governor := Ne.symm hz }

/-- A hand-over leaves the record of a zone with no open window as it is, but for zone 64's. -/
theorem handOver_holds (b : Bool) {s : State} (h : zoneAt s z = r) : zoneAt (handOver b s) z = r := by
  have hP := watched_holds hz hr
  have hstage : Holds z r (recomputeStage riseToEvacuate (s.withEffects { s.effects with set := currentSet s })) := by
    have hset : zoneAt (s.withEffects { s.effects with set := currentSet s }) z = r := h
    unfold recomputeStage
    dsimp only
    split
    · exact hset
    · split
      next hrise =>
        obtain ⟨y, hy⟩ := (stageOf_eq_evacuate_iff _ _).mp hrise
        rw [hrise]
        refine ((watched_holdsInAlarm hz hr).riseToEvacuate (.inr fun h => h.2.1) ?_).1
        exact (watched_holdsInAlarm hz hr).toCallsClosed.record _ _ _ _ ⟨hset, rfl, y, hy⟩
      next => exact hP.toCallsClosed.record _ _ _ _ hset
  exact followInvestigation_of_callsClosed hP.toCallsClosed b
    (ite_keeps hstage (hP.deliver hP.deliverCurtain _ hstage))

theorem enterState_holds_other {y : ZoneId} {st : ZoneState} {s : State} (hy : y ≠ z) (h : zoneAt s z = r) :
    zoneAt (enterState handOver y st s) z = r := by
  refine ite_keeps (P := fun t => zoneAt t z = r) h (handOver_holds hz hr _ ?_)
  rw [zoneAt_congr (writeRecord_monitor _ _ _ _ _), zoneAt_updZone_other _ _ (Ne.symm hy), h]

omit hz hr in
/-- A zone's record as the zone enters a state (R103, R113). -/
def entered (r : Zone) (st : ZoneState) : Zone :=
  if r.state = st then r
  else { (if r.state = .investigating then leaveInvestigation r else r) with state := st }

omit hz hr in
theorem entered_window (r : Zone) (st : ZoneState) : (entered r st).window = r.window := by
  unfold entered
  split
  · rfl
  · dsimp only
    split <;> rfl

theorem enterState_holds {st : ZoneState} {s : State} (h : zoneAt s z = r) :
    zoneAt (enterState handOver z st s) z = entered r st := by
  subst h
  unfold enterState
  dsimp only
  split
  next hsame => exact (if_pos hsame).symm
  next hnew =>
    refine handOver_holds hz ((entered_window _ st).trans hr) _ ?_
    rw [zoneAt_congr (writeRecord_monitor _ _ _ _ _), zoneAt_updZone_same, entered, if_neg hnew]

theorem putMap_holds (ds : List Device) {s : State} (h : zoneAt s z = r) :
    zoneAt (putMap handOver z ds s) z = { r with devices := ds } := by
  subst h
  have hput : zoneAt (updZone z (fun r => { r with devices := ds }) s) z = { zoneAt s z with devices := ds } :=
    zoneAt_updZone_same z _ s
  exact ite_keeps (P := fun t => zoneAt t z = { zoneAt s z with devices := ds }) hput
    (handOver_holds hz (r := { zoneAt s z with devices := ds }) hr false hput)

end

end Sys2Proof.Machine
end


section
/-! The zones in calm acts, in which no zone joins ALARM or leaves it (R103, R106 to R113); the discarded reports (R104),
and the panel link with the timers of an investigation (R116, R117, R122). -/

namespace Sys2Proof.Machine

/-! ### Calm hand-overs -/

section
variable {s t : State} {z : ZoneId} {r : Zone}

/-- Under the law of the effect set and the stage, a hand-over after which the same zones are in ALARM reaches neither the
zones, nor the governor, nor the phase. -/
theorem handOver_calm (b : Bool) (hlaw : AlarmLaw s) (htables : t.tables = s.tables)
    (hset : t.effects.set = s.effects.set) (hstage : t.effects.stage = s.effects.stage)
    (halarms : ∀ y : ZoneId, (zoneAt t y).state = .alarm ↔ (zoneAt s y).state = .alarm) :
    (handOver b t).monitor = t.monitor ∧ (handOver b t).curtain = t.curtain ∧ (handOver b t).phase = t.phase := by
  obtain ⟨hold, hstood⟩ := hlaw
  rw [handOver_eq_inDelivery]
  · exact handOverInDelivery_kept b t
  · rw [hset, hold, currentSet, htables, effectSetOf_congr _ halarms]
  · intro hrise
    obtain ⟨y, hy⟩ := (stageOf_eq_evacuate_iff _ _).mp hrise
    rw [hstage, hstood]
    exact (stageOf_eq_evacuate_iff _ _).mpr ⟨y, (halarms y).mp hy⟩

/-- A state reached from another by a calm act on one zone, whose record is then a given one: every other zone, the link,
the governor and the phase are as they were. -/
structure Settled (s t : State) (z : ZoneId) (r : Zone) : Prop where
  law : AlarmLaw t
  alarm : r.state = .alarm ↔ (zoneAt s z).state = .alarm
  zone : zoneAt t z = r
  others : ∀ y, y ≠ z → zoneAt t y = zoneAt s y
  link : t.monitor.link = s.monitor.link
  curtain : t.curtain = s.curtain
  phase : t.phase = s.phase
  tables : t.tables = s.tables
  now : t.now = s.now

theorem settled_refl (z : ZoneId) (h : AlarmLaw s) : Settled s s z (zoneAt s z) :=
  ⟨h, Iff.rfl, rfl, fun _ _ => rfl, rfl, rfl, rfl, rfl, rfl⟩

theorem settled_dropHead (q : QueueId) (z : ZoneId) (h : AlarmLaw s) : Settled s (dropHead q s) z (zoneAt s z) where
  law := alarmLaw_congr (dropHead_tables q s) (dropHead_monitor q s) (by rw [dropHead_effects]) (by rw [dropHead_effects]) h
  alarm := Iff.rfl
  zone := zoneAt_dropHead q s z
  others y _ := zoneAt_dropHead q s y
  link := by rw [dropHead_monitor]
  curtain := dropHead_curtain q s
  phase := dropHead_phase q s
  tables := dropHead_tables q s
  now := dropHead_now q s

namespace Settled

variable (h : Settled s t z r)
include h

theorem record (k : EventKind) (a b c : Byte) : Settled s (writeRecord k a b c t) z r where
  law := alarmLaw_congr (writeRecord_tables _ _ _ _ _) (writeRecord_monitor _ _ _ _ _)
    (by rw [writeRecord_effects]) (by rw [writeRecord_effects]) h.law
  alarm := h.alarm
  zone := (zoneAt_congr (writeRecord_monitor _ _ _ _ _) z).trans h.zone
  others y hy := (zoneAt_congr (writeRecord_monitor _ _ _ _ _) y).trans (h.others y hy)
  link := by rw [writeRecord_monitor, h.link]
  curtain := (writeRecord_curtain _ _ _ _ _).trans h.curtain
  phase := (writeRecord_phase _ _ _ _ _).trans h.phase
  tables := (writeRecord_tables _ _ _ _ _).trans h.tables
  now := (writeRecord_now _ _ _ _ _).trans h.now

/-- A change of the zone's record that keeps its state and its zone-fault mark. -/
theorem still {f : Zone → Zone} {r' : Zone} (hf : f r = r') (hstate : r'.state = r.state) (hfaulty : r'.faulty = r.faulty) :
    Settled s (updZone z f t) z r' := by
  have hzone : zoneAt (updZone z f t) z = r' := by rw [zoneAt_updZone_same, h.zone, hf]
  have hold : f (zoneAt t z) = r' := by rw [h.zone, hf]
  exact
    { law := alarmLaw_updZone (by rw [hold, hstate, h.zone]) (by rw [hold, hfaulty, h.zone]) h.law
      alarm := by rw [hstate, h.alarm]
      zone := hzone
      others := fun y hy => (zoneAt_updZone_other f t hy).trans (h.others y hy)
      link := h.link
      curtain := h.curtain
      phase := h.phase
      tables := h.tables
      now := h.now }

/-- A change of the zone's record by which it neither joins ALARM nor leaves it, handed over. -/
theorem handed {u : State} {f : Zone → Zone} {r' : Zone} (b : Bool) (hf : f r = r')
    (halarm : r'.state = .alarm ↔ r.state = .alarm) (hmonitor : u.monitor = (updZone z f t).monitor)
    (hcurtain : u.curtain = t.curtain) (hphase : u.phase = t.phase) (htables : u.tables = t.tables)
    (heffects : u.effects = t.effects) (hnow : u.now = t.now) : Settled s (handOver b u) z r' := by
  have hzone : zoneAt u z = r' := by rw [zoneAt_congr hmonitor, zoneAt_updZone_same, h.zone, hf]
  have hothers (y : ZoneId) (hy : y ≠ z) : zoneAt u y = zoneAt t y := by
    rw [zoneAt_congr hmonitor, zoneAt_updZone_other f t hy]
  have halarms (y : ZoneId) : (zoneAt u y).state = .alarm ↔ (zoneAt t y).state = .alarm := by
    by_cases hy : y = z
    · rw [hy, hzone, h.zone, halarm]
    · rw [hothers y hy]
  obtain ⟨hm, hc, hp⟩ := handOver_calm b h.law htables (by rw [heffects]) (by rw [heffects]) halarms
  have htouches := handOver_onlyTouches b u
  exact
    { law := handOver_alarmLaw b u
      alarm := halarm.trans h.alarm
      zone := (zoneAt_congr hm z).trans hzone
      others := fun y hy => ((zoneAt_congr hm y).trans (hothers y hy)).trans (h.others y hy)
      link := by
        rw [hm, hmonitor]
        exact h.link
      curtain := (hc.trans hcurtain).trans h.curtain
      phase := (hp.trans hphase).trans h.phase
      tables := (htouches .tables (by decide)).trans (htables.trans h.tables)
      now := (htouches .now (by decide)).trans (hnow.trans h.now) }

/-- The zone enters a state, neither from ALARM nor into it. -/
theorem enters {st : ZoneState} (hfrom : r.state ≠ .alarm) (hst : st ≠ .alarm) :
    Settled s (enterState handOver z st t) z (entered r st) := by
  unfold enterState entered
  dsimp only
  rw [h.zone]
  split
  next => exact h
  next =>
    refine h.handed _ (f := fun r' => { (if r.state = .investigating then leaveInvestigation r' else r') with state := st })
      rfl (by simp [hst, hfrom]) ?_ ?_ ?_ ?_ ?_ ?_
    · exact writeRecord_monitor _ _ _ _ _
    · exact writeRecord_curtain _ _ _ _ _
    · exact writeRecord_phase _ _ _ _ _
    · exact writeRecord_tables _ _ _ _ _
    · exact writeRecord_effects _ _ _ _ _
    · exact writeRecord_now _ _ _ _ _

theorem put (ds : List Device) : Settled s (putMap handOver z ds t) z { r with devices := ds } := by
  unfold putMap
  dsimp only
  split
  next hsame =>
    rw [zoneAt_updZone_same, h.zone] at hsame
    exact h.still rfl rfl hsame
  next => exact h.handed (f := fun r => { r with devices := ds }) false rfl Iff.rfl rfl rfl rfl rfl rfl rfl

theorem clearsKnock : Settled s (clearKnock z t) z { r with knock := none } := h.still rfl rfl rfl

/-- R105: a report's entry is set where there is room for it. -/
theorem notes (n : Byte) (k : ReportKind) (c : Condition) :
    Settled s (noteReport handOver z n k c t) z { r with devices := mapAfter r n c } := by
  unfold noteReport mapAfter
  rw [h.zone]
  have hiff : overflows r.devices n = true ↔ deviceIn r.devices n = none ∧ 16 ≤ r.devices.length := by simp [overflows]
  by_cases hfull : overflows r.devices n = true
  · rw [if_pos hfull, if_pos (hiff.mp hfull)]
    exact h.record _ _ _ _
  · rw [if_neg hfull, if_neg fun hno => hfull (hiff.mpr hno)]
    exact h.put _

theorem acted : zoneAt (endAct t) z = r := (zoneAt_congr (endAct_monitor t) z).trans h.zone

theorem actedOthers (y : ZoneId) (hy : y ≠ z) : zoneAt (endAct t) y = zoneAt s y :=
  (zoneAt_congr (endAct_monitor t) y).trans (h.others y hy)

end Settled

end

/-! ### Reports taken from PANEL-RX -/

section
variable {s : State} {f : Frame} {rest : List Frame}

theorem exec_takeZoneReport (h : AtHead s .panelRx f rest) (hkind : frameKind f = 0x30) :
    exec .takeZoneReport s = .next (endAct (takeReport handOver (frameBody f) (dropHead .panelRx s))) := by
  have hexec : exec .takeZoneReport s = execTakeZoneReport s := rfl
  rw [hexec, execTakeZoneReport, headFrame_of_atHead h]
  exact if_pos hkind

theorem reportKind_ofCode {b : Byte} : ReportKind.ofCode b = none ↔ ¬b.toNat ≤ 4 := by
  revert b
  decide

theorem takeReport_discards {ho : HandOver} {body : List Byte} {subject code : Byte}
    (h : judgeReport s.tables body = .discarded subject code) :
    takeReport ho body s = writeRecord .reportDiscarded subject code 0 s := by rw [takeReport, h]

theorem zoneIdOf_eq_some {b : Byte} {z : ZoneId} (h : zoneIdOf b = some z) : b = zoneByte z := by
  unfold zoneIdOf at h
  split at h
  · obtain rfl := Option.some.inj h
    exact BitVec.eq_of_toNat_eq (by simp [zoneByte, byteOf])
  · cases h

end

/-- Settles O33, by the judgement's tests one after the other. -/
theorem reportDiscarded : Obligations.ReportDiscarded := by
  intro s f rest hhead hkind
  dsimp only
  have hexec := exec_takeZoneReport hhead hkind
  have hdiscards {code : Byte} (h : judgeReport (dropHead .panelRx s).tables (frameBody f)
      = .discarded (if frameBody f = [] then 0xFF else byteAt (frameBody f) 0) code) :
      exec .takeZoneReport s = .next (endAct (writeRecord .reportDiscarded
        (if frameBody f = [] then 0xFF else byteAt (frameBody f) 0) code 0 (dropHead .panelRx s))) := by
    rwa [takeReport_discards h] at hexec
  generalize frameBody f = body at hdiscards
  have hsubject : (if body.isEmpty then (0xFF : Byte) else byteAt body 0)
      = if body = [] then 0xFF else byteAt body 0 := by simp
  refine ⟨fun hlength => hdiscards ?_, fun hlength hzone => hdiscards ?_, fun hlength hzone hcode => hdiscards ?_,
    fun hlength hzone hcode hdevice => hdiscards ?_, fun z hlength hz hzone hcode hdevice hrow => hdiscards ?_⟩
  · rw [judgeReport, hsubject, if_pos (by simpa using hlength)]
  · rw [judgeReport, hsubject, if_neg (by simpa using hlength), if_pos hzone]
  · rw [judgeReport, hsubject, if_neg (by simpa using hlength), if_neg (Nat.not_lt.mpr hzone),
      reportKind_ofCode.mpr hcode]
  · obtain ⟨k, hk⟩ := Option.ne_none_iff_exists'.mp fun hnone => reportKind_ofCode.mp hnone hcode
    rw [judgeReport, hsubject, if_neg (by simpa using hlength), if_neg (Nat.not_lt.mpr hzone), hk]
    exact if_pos hdevice
  · obtain ⟨k, hk⟩ := Option.ne_none_iff_exists'.mp fun hnone => reportKind_ofCode.mp hnone hcode
    have hsmall : ¬63 < (byteAt body 0).toNat := by
      rw [hzone, zoneByte, byteOf, BitVec.toNat_ofNat, Nat.mod_eq_of_lt (by omega)]
      omega
    have hunused : (dropHead .panelRx s).tables.response[z].cls = 0 := by rwa [dropHead_tables]
    rw [judgeReport, hsubject, if_neg (by simpa using hlength), if_neg hsmall, hk]
    dsimp only
    rw [if_neg hdevice, hzone, zoneIdOf_zoneByte]
    exact if_pos hunused

/-! ### The panel link -/

section
variable {s : State}

theorem exec_takePanelBeat {f : Frame} {rest : List Frame} (h : AtHead s .panelRx f rest) (hkind : frameKind f = 0x31) :
    exec .takePanelBeat s = .next (endAct (panelBeat (dropHead .panelRx s))) := by
  have hexec : exec .takePanelBeat s = execTakePanelBeat s := rfl
  rw [hexec, execTakePanelBeat, headFrame_of_atHead h]
  exact if_pos hkind

/-- The monitor as a PANEL-BEAT starts the heartbeat timer (R122). -/
def beaten (s : State) : ZoneMonitor :=
  { s.monitor with heartbeat := some (s.now + s.tables.link.heartbeat.toNat * 100000) }

theorem panelBeat_dropped : panelBeat (dropHead .panelRx s) = if s.monitor.link = .up
    then (dropHead .panelRx s).withMonitor (beaten s)
    else setLink .up ((dropHead .panelRx s).withMonitor (beaten s)) := by
  unfold panelBeat
  dsimp only
  rw [afterS_eq, dropHead_monitor, dropHead_now, dropHead_tables]
  rfl

theorem setLink_calm (l : PanelLink) (hlaw : AlarmLaw s) :
    (setLink l s).monitor = { s.monitor with link := l } ∧ (setLink l s).curtain = s.curtain
      ∧ (setLink l s).phase = s.phase := by
  have hcalm := handOver_calm (t := writeRecord .panelLink 0 s.monitor.link.code l.code
    (s.withMonitor { s.monitor with link := l })) false hlaw (by simp) (by simp) (by simp) fun y => by
      rw [zoneAt_congr (writeRecord_monitor _ _ _ _ _)]
      exact Iff.rfl
  simp only [writeRecord_monitor, writeRecord_curtain, writeRecord_phase, withMonitor_monitor, withMonitor_curtain,
    withMonitor_phase] at hcalm
  exact hcalm

theorem panelBeatTaken : Parts.PanelBeatTaken := by
  intro s f rest hhead hkind hlaw
  have hexec := exec_takePanelBeat hhead hkind
  rw [panelBeat_dropped] at hexec
  refine ⟨fun hup => ?_, fun hdown => ?_⟩
  · rwa [if_pos hup] at hexec
  · rw [if_neg hdown] at hexec
    have hdropped : AlarmLaw ((dropHead .panelRx s).withMonitor (beaten s)) := hlaw
    obtain ⟨hmonitor, hcurtain, hphase⟩ := setLink_calm .up hdropped
    refine ⟨_, hexec, ?_, ?_, ?_, ?_⟩
    · refine onlyTouches_trans (onlyTouches_trans (dropHead_alarmReach .panelRx s) ?_) (endAct_onlyTouches _)
      exact setLink_keeps (alarmClosed_onlyTouches _) .up ((alarmClosed_onlyTouches _).monitor _ (onlyTouches_refl _ _))
    · rw [endAct_monitor, hmonitor]
      rfl
    · rw [endAct_phase, hphase, withMonitor_phase, dropHead_phase]
    · rw [endAct_curtain, hcurtain, withMonitor_curtain, dropHead_curtain]

/-- The link and its timer are given ones. -/
def LinkIs (l : PanelLink) (t : Option Nat) (s : State) : Prop := s.monitor.link = l ∧ s.monitor.heartbeat = t

theorem zoneLaw_linkIs (l : PanelLink) (t : Option Nat) : ZoneLaw (LinkIs l t) where
  congr h hmonitor _ _ _ := by rwa [LinkIs, hmonitor]
  move _ _ _ h := h

/-- The link LOST as the heartbeat timer runs out, before an investigation ends (R122). -/
def linkLost (s : State) : State := setLink .lost (s.withMonitor { s.monitor with heartbeat := none })

theorem heartbeatOut_eq (s : State) : heartbeatOut s = endAct (endInvestigation handOver (linkLost s)) := rfl

theorem linkLost_linkIs (s : State) : LinkIs .lost none (linkLost s) := by
  have hset : LinkIs .lost none (s.withMonitor ⟨s.monitor.zones, .lost, none⟩) := ⟨rfl, rfl⟩
  exact (zoneLaw_linkIs _ _).handOver false ((zoneLaw_linkIs _ _).record _ _ _ _ hset)

theorem linkLost_engaged {z : ZoneId} (h : Engaged z s) : Engaged z (linkLost s) := by
  have hP := watched_engaged z
  have hset : Engaged z (s.withMonitor ⟨s.monitor.zones, .lost, none⟩) := h
  exact hP.handOver (.inl fun _ => trivial) false (hP.toCallsClosed.record _ _ _ _ hset)

/-- A zone that investigates, or is in ALARM, is in ALARM once the investigation has ended (R117). -/
theorem endInvestigation_ofEngaged {z : ZoneId} (h : Engaged z s) : InAlarm z (endInvestigation handOver s) :=
  h.elim endInvestigation_inAlarm (zoneLaw_inAlarm z).endInvestigation

theorem heartbeatLost : Parts.HeartbeatLost := by
  intro s
  have hstop : exec .heartbeatTimerExpiry s
      = if s.monitor.heartbeat.isSome then .next (heartbeatOut s) else .next s := rfl
  refine ⟨fun h => by rw [hstop, h]; rfl, fun h => ⟨heartbeatOut s, ?_⟩⟩
  rw [hstop, if_pos (Option.isSome_iff_ne_none.mpr h)]
  refine ⟨rfl, heartbeatOut_keeps (alarmClosed_onlyTouches s) (onlyTouches_refl _ s), ?_⟩
  have hlink := (zoneLaw_linkIs _ _).endInvestigation (linkLost_linkIs s)
  have hcalm := endInvestigation_calm (setLink_noDelay (s.withMonitor { s.monitor with heartbeat := none }))
  rw [heartbeatOut_eq, endAct_monitor]
  refine ⟨hlink.1, hlink.2, fun z hz => ?_, fun z => ?_⟩
  · rw [zoneAt_congr (endAct_monitor _)]
    exact endInvestigation_ofEngaged (linkLost_engaged (.inl hz))
  · rw [zoneAt_congr (endAct_monitor _)]
    exact (hcalm z).2

theorem investigationTimersRunOut : Parts.InvestigationTimersRunOut := by
  intro s z hlaw
  have halarmed (hz : (zoneAt s z).state = .investigating) {c : Instr}
      (hexec : exec c s = .next (endAct (enterState handOver z .alarm s))) : Answers c s fun t =>
        OnlyTouches alarmReach s t ∧ (zoneAt t z).state = .alarm ∧ t.effects.stage = .evacuate
          ∧ (zoneAt t z).ackTimer = none ∧ (zoneAt t z).invTimer = none ∧ (zoneAt t z).acked = false
          ∧ (zoneAt t z).starters = [] := by
    obtain ⟨⟨halarm, hack, hinv, hacked, hstarters⟩, hstage⟩ := alarm_from_investigating hz
    refine ⟨_, hexec, onlyTouches_trans (enterState_keeps (alarmClosed_onlyTouches s).toZones
      (fun b _ h => handOver_keeps (alarmClosed_onlyTouches s) b h) z .alarm (onlyTouches_refl _ s))
      (endAct_onlyTouches _), ?_⟩
    rw [zoneAt_congr (endAct_monitor _), endAct_effects]
    exact ⟨halarm, hstage, hack, hinv, hacked, hstarters⟩
  have hack : exec (.ackTimerExpiry z) s = .next (ackOut z s) := rfl
  have hinv : exec (.investigationTimerExpiry z) s = .next (investigationOut z s) := rfl
  refine ⟨fun h => ?_, fun h => ?_, fun h hz hfresh => halarmed hz ?_, fun h hz => halarmed hz ?_⟩
  · rw [hack, ackOut, if_neg (by simp [h])]
  · rw [hinv, investigationOut, if_neg (by simp [h])]
  · rw [hack, ackOut, if_pos (by simp [hz, hfresh, Option.isSome_iff_ne_none, h])]
  · rw [hinv, investigationOut, if_pos (by simp [hz, Option.isSome_iff_ne_none, h])]

end

/-- Settles O37: a link that becomes UP moves no zone; one that is LOST, or a timer that runs out, sends the investigating
zone to ALARM. -/
theorem linkAndInvestigationTimers : Obligations.LinkAndInvestigationTimers :=
  ⟨panelBeatTaken, heartbeatLost, investigationTimersRunOut⟩

end Sys2Proof.Machine
end


section
/-! NORMAL, PRE, FAULT and MANUAL reports (R105, R106, R107, R111, R112). -/

namespace Sys2Proof.Machine

section
variable {s t : State} {z : ZoneId} {r : Zone} {n : Byte}

/-! ### A report that passes the tests -/

theorem reportKind_ofCode_code (k : ReportKind) : ReportKind.ofCode k.code = some k := by cases k <;> rfl

theorem judgeReport_applies {T : Tables} {k : ReportKind} (hz : z.val < 64) (hrow : T.response[z].cls ≠ 0)
    (hn : n ≠ 255) : judgeReport T [zoneByte z, k.code, n] = .applied z k n := by
  have hsmall : ¬63 < (zoneByte z).toNat := by
    rw [zoneByte, byteOf, BitVec.toNat_ofNat, Nat.mod_eq_of_lt (by omega)]
    omega
  simp only [judgeReport, byteAt, List.length_cons, List.length_nil, List.getD_cons_zero, List.getD_cons_succ,
    reportKind_ofCode_code, zoneIdOf_zoneByte, if_neg hsmall, if_neg hn, if_neg hrow]
  rfl

theorem exec_report {k : ReportKind} (h : ReportAt s z k n) :
    exec .takeZoneReport s = .next (endAct (applyReport handOver z k n (dropHead .panelRx s))) := by
  obtain ⟨⟨f, rest, hhead, hkind, hbody⟩, hz, hrow, hn⟩ := h
  have hrow' : (dropHead .panelRx s).tables.response[z].cls ≠ 0 := by rwa [dropHead_tables]
  rw [exec_takeZoneReport hhead hkind, hbody, takeReport, judgeReport_applies hz hrow' hn]

theorem applyReport_touches (k : ReportKind) :
    OnlyTouches alarmReach s (endAct (applyReport handOver z k n (dropHead .panelRx s))) :=
  onlyTouches_trans (applyReport_keeps (alarmClosed_onlyTouches s).toZones
    (fun b _ h => handOver_keeps (alarmClosed_onlyTouches s) b h) z k n (dropHead_alarmReach .panelRx s))
    (endAct_onlyTouches _)

/-! ### The knock that ends, and the PRE that settles -/

/-- What a NORMAL or a FAULT report makes of the zone, its map changed already (R106, R112). -/
def afterCalm (r : Zone) (n : Byte) : Zone :=
  if r.state = .firstKnock ∧ r.knock = some n then
    { r with state := if r.anyPreOrFire then .pre else .quiet, knock := none }
  else { r with state := if r.state = .pre ∧ r.anyPreOrFire = false then .quiet else r.state }

theorem isKnock_iff (s : State) (z : ZoneId) (n : Byte) :
    isKnock s z n = true ↔ (zoneAt s z).state = .firstKnock ∧ (zoneAt s z).knock = some n := by simp [isKnock]

theorem entered_early {st : ZoneState} (hst : r.state ≠ st) (hi : r.state ≠ .investigating) :
    entered r st = { r with state := st } := by rw [entered, if_neg hst, if_neg hi]

theorem Settled.knockOrPre (h : Settled s t z r) (n : Byte) :
    Settled s (if isKnock t z n then endKnock handOver z t else settlePre handOver z t) z (afterCalm r n) := by
  have hknock := isKnock_iff t z n
  rw [h.zone] at hknock
  unfold afterCalm
  by_cases hk : r.state = .firstKnock ∧ r.knock = some n
  · rw [if_pos (hknock.mpr hk), if_pos hk, endKnock, h.zone]
    have hset (st : ZoneState) (hst : st = .pre ∨ st = .quiet) :
        Settled s (enterState handOver z st (clearKnock z t)) z { r with state := st, knock := none } := by
      have hentered := h.clearsKnock.enters (st := st) (by simp [hk.1]) (by rcases hst with rfl | rfl <;> decide)
      rwa [entered_early (by rcases hst with rfl | rfl <;> simp [hk.1]) (by simp [hk.1])] at hentered
    split
    · exact hset .pre (.inl rfl)
    · exact hset .quiet (.inr rfl)
  · rw [if_neg fun hc => hk (hknock.mp hc), if_neg hk, settlePre, h.zone]
    by_cases hpre : r.state = .pre ∧ r.anyPreOrFire = false
    · rw [if_pos (by simp [hpre]), if_pos hpre]
      have hentered := h.enters (st := .quiet) (by simp [hpre.1]) (by decide)
      rwa [entered_early (by simp [hpre.1]) (by simp [hpre.1])] at hentered
    · rw [if_neg (by simpa using hpre), if_neg hpre]
      exact h

/-- What a PRE report makes of the zone, its map changed already (R107). -/
def afterPre (r : Zone) (n : Byte) : Zone :=
  if r.state = .firstKnock ∧ r.knock = some n then { r with state := .pre, knock := none }
  else { r with state := if r.state = .quiet then .pre else r.state }

theorem Settled.knockOrQuiet (h : Settled s t z r) (n : Byte) :
    Settled s (if (zoneAt t z).state = .quiet then enterState handOver z .pre t
      else if isKnock t z n then enterState handOver z .pre (clearKnock z t) else t) z (afterPre r n) := by
  have hknock := isKnock_iff t z n
  rw [h.zone] at hknock ⊢
  unfold afterPre
  by_cases hk : r.state = .firstKnock ∧ r.knock = some n
  · rw [if_neg (by simp [hk.1]), if_pos (hknock.mpr hk), if_pos hk]
    have hentered := h.clearsKnock.enters (st := .pre) (by simp [hk.1]) (by decide)
    rwa [entered_early (by simp [hk.1]) (by simp [hk.1])] at hentered
  · rw [if_neg (c := isKnock t z n = true) fun hc => hk (hknock.mp hc), if_neg hk]
    by_cases hquiet : r.state = .quiet
    · rw [if_pos hquiet, if_pos hquiet]
      have hentered := h.enters (st := .pre) (by simp [hquiet]) (by decide)
      rwa [entered_early (by simp [hquiet]) (by simp [hquiet])] at hentered
    · rw [if_neg hquiet, if_neg hquiet]
      exact h

/-- A calm report answers its zone's new record, every other zone as it was. -/
theorem answers_report {k : ReportKind} (h : ReportAt s z k n)
    (hs : Settled s (applyReport handOver z k n (dropHead .panelRx s)) z r) :
    Answers .takeZoneReport s fun t => OnlyTouches alarmReach s t ∧ zoneAt t z = r
      ∧ ∀ y : ZoneId, y ≠ z → zoneAt t y = zoneAt s y :=
  ⟨_, exec_report h, applyReport_touches k, hs.acted, hs.actedOthers⟩

end

theorem quietReports : Parts.QuietReports := by
  intro s z n hlaw
  dsimp only
  have hdropped := settled_dropHead .panelRx z hlaw
  refine ⟨fun hrep => ?normal, fun hrep => ?pre, fun hrep => ?fault⟩
  case normal =>
    have hput := (hdropped.put (removeDevice n (zoneAt s z).devices)).knockOrPre n
    have hdevices : (zoneAt (dropHead .panelRx s) z).devices = (zoneAt s z).devices := by rw [zoneAt_dropHead]
    rw [← hdevices] at hput
    have hanswer := answers_report hrep hput
    rw [hdevices] at hanswer
    refine ⟨fun hk => ?_, fun hk => ?_⟩
    · rwa [afterCalm, if_pos hk] at hanswer
    · rwa [afterCalm, if_neg hk] at hanswer
  case pre =>
    have hanswer := answers_report hrep ((hdropped.notes n .pre .pre).knockOrQuiet n)
    refine ⟨fun hk => ?_, fun hk => ?_⟩
    · rwa [afterPre, if_pos hk] at hanswer
    · rwa [afterPre, if_neg hk] at hanswer
  case fault =>
    have hanswer := answers_report hrep ((hdropped.notes n .fault .fault).knockOrPre n)
    refine ⟨fun hk => ?_, fun hk => ?_⟩
    · rwa [afterCalm, if_pos hk] at hanswer
    · rwa [afterCalm, if_neg hk] at hanswer

/-! ### MANUAL -/

section
variable {s t : State} {z : ZoneId} {r : Zone} {n : Byte}

/-- A zone in ALARM makes the stage EVACUATE (R129). -/
theorem stage_of_inAlarm (hlaw : AlarmLaw s) (h : InAlarm z s) : s.effects.stage = .evacuate := by
  obtain ⟨-, hstage⟩ := hlaw
  exact hstage.trans ((stageOf_eq_evacuate_iff _ _).mpr ⟨z, h⟩)

theorem enterAlarm_lawful (hlaw : AlarmLaw s) : AlarmLaw (enterState handOver z .alarm s) := by
  unfold enterState
  exact ite_keeps hlaw (handOver_alarmLaw _ _)

theorem enterAlarm_stage (hlaw : AlarmLaw s) : (enterState handOver z .alarm s).effects.stage = .evacuate :=
  stage_of_inAlarm (enterAlarm_lawful hlaw) (enterAlarm_inAlarm z s)

theorem enterAlarm_entered {d : Device} (hd : d.condition ≠ .fire true) (h : Entered z d s) :
    Entered z d (enterState handOver z .alarm s) :=
  (watched_entered z hd).enterAlarm (fun b _ h => (watched_entered z hd).handOver (.inl fun _ => trivial) b h) trivial h

end

theorem manualReportAlarms : Parts.ManualReportAlarms := by
  intro s z n hlaw hrep
  have hnoted := (settled_dropHead .panelRx z hlaw).notes n .manual .manual
  refine ⟨_, exec_report hrep, applyReport_touches .manual, ?_⟩
  have happly : applyReport handOver z .manual n (dropHead .panelRx s)
      = enterState handOver z .alarm (noteReport handOver z n .manual .manual (dropHead .panelRx s)) := rfl
  rw [happly, zoneAt_congr (endAct_monitor _), endAct_effects]
  refine ⟨enterAlarm_inAlarm z _, enterAlarm_stage hnoted.law, fun hroom => ?_, fun hi => ?_⟩
  · refine enterAlarm_entered (d := ⟨n, .manual⟩) (by simp) ?_
    rw [Entered, hnoted.zone, mapAfter, if_neg hroom]
    exact deviceIn_setDevice_same _ _ _
  · obtain ⟨⟨-, hack, hinv, hacked, hstarters⟩, -⟩ := alarm_from_investigating (s := noteReport handOver z n .manual
      .manual (dropHead .panelRx s)) (z := z) (by rw [hnoted.zone]; exact hi)
    exact ⟨hack, hinv, hacked, hstarters⟩

/-- Settles O34: the first three reports are calm acts on their zone, and a MANUAL one brings it to ALARM with its entry
set. -/
theorem reportsOfConditions : Obligations.ReportsOfConditions := ⟨quietReports, manualReportAlarms⟩

end Sys2Proof.Machine
end


section
/-! The steps of a call: what each kind of step does as it begins, and as the step before it ends (R150 to R155). -/

namespace Sys2Proof.Machine

/-! ### The call table rewritten -/

theorem putAt_putAt {α : Type} {n : Nat} (v : Vector α n) (i : Fin n) (x y : α) :
    putAt (putAt v i x) i y = putAt v i y := by simp [putAt]

theorem tabulate_get {α : Type} {n : Nat} (f : Fin n → α) (i : Fin n) : (tabulate n f)[i] = f i := by simp [tabulate]

theorem putCall_putCall (e : EntryId) (c d : Option Call) (s : State) : putCall e c (putCall e d s) = putCall e c s :=
  congrArg (fun v => s.withCalls { s.calls with table := v }) (putAt_putAt _ _ _ _)

theorem setFlash_get (areas : AreaSet) (f : FlashState) (s : State) (a : AreaId) :
    (setFlash areas f s).calls.flash[a] = if areas.getLsbD a.val then f else s.calls.flash[a] := tabulate_get _ _

theorem settle_of_noPending {s : State} (h : s.calls.pendingList = []) :
    settle s = s.withCalls { s.calls with freed := false } := by
  rw [settle, h]
  cases hf : s.calls.freed with
  | false => simp [settleFor, hf]
  | true =>
    simp [settleFor, hf, examine, h]
    rfl

theorem onlyTouches_putCall (e : EntryId) (c : Option Call) (s : State) : OnlyTouches [.calls] s (putCall e c s) :=
  onlyTouches_withCalls s _

theorem onlyTouches_setFlash (areas : AreaSet) (f : FlashState) (s : State) :
    OnlyTouches [.calls] s (setFlash areas f s) := onlyTouches_withCalls s _

/-! ### What a step does as it begins -/

section
variable {s : State} {e : EntryId} {c : Call}

theorem runSteps_wait (n : Nat) (h : callAt s e = some c) (hkind : (stepAt s.tables c).kind = 4) :
    runSteps (n + 1) e s = beginWait e c (stepAt s.tables c) s := by simp only [runSteps, h, hkind]; rfl

theorem runSteps_chime (n : Nat) (h : callAt s e = some c) (hkind : (stepAt s.tables c).kind = 1) :
    runSteps (n + 1) e s = beginChime e c (stepAt s.tables c) s := by simp only [runSteps, h, hkind]; rfl

theorem runSteps_message (n : Nat) (h : callAt s e = some c) (hkind : (stepAt s.tables c).kind = 2) :
    runSteps (n + 1) e s = beginMessage e c (stepAt s.tables c) s := by simp only [runSteps, h, hkind]; rfl

theorem runSteps_flash (n : Nat) (h : callAt s e = some c) (hkind : (stepAt s.tables c).kind = 3) :
    runSteps (n + 1) e s = beginFlash e c (stepAt s.tables c) s := by simp only [runSteps, h, hkind]; rfl

theorem runSteps_repeat (n : Nat) (h : callAt s e = some c) (hkind : (stepAt s.tables c).kind = 5) :
    runSteps (n + 1) e s = runSteps n e (putCall e (some (repeatStep c (stepAt s.tables c))) s) := by
  simp only [runSteps, h, hkind]
  rfl

theorem runSteps_end (n : Nat) (h : callAt s e = some c) (hkind : (stepAt s.tables c).kind = 0) :
    runSteps (n + 1) e s = endCall .done e s := by simp only [runSteps, h, hkind]; rfl

/-- A state whose call in an entry has moved to its next step. -/
def movedOn (e : EntryId) (c : Call) (s : State) : State := putCall e (some (moveCursor c (c.cursor + 1))) s

theorem callAt_movedOn (e : EntryId) (c : Call) (s : State) :
    callAt (movedOn e c s) e = some (moveCursor c (c.cursor + 1)) := callAt_putCall_same _ _ _

theorem stepEnds_eq (h : callAt s e = some c) : stepEnds e s = runSteps (511 + 1) e (movedOn e c s) := by
  simp only [stepEnds, h]
  rfl

/-- The call at the WAIT step behind its present one. -/
def atNextWait (s : State) (c : Call) : Call :=
  { c with
    cursor := c.cursor + 1
    stepTimer := some (s.now + (word16 (stepAt s.tables { c with cursor := c.cursor + 1 }).a
      (stepAt s.tables { c with cursor := c.cursor + 1 }).b).toNat * 5000)
    awaiting := []
    flash := none }

theorem stepEnds_wait (h : callAt s e = some c) (hkind : (stepAt s.tables { c with cursor := c.cursor + 1 }).kind = 4) :
    stepEnds e s = putCall e (some (atNextWait s c)) s := by
  rw [stepEnds_eq h, runSteps_wait 511 (callAt_movedOn e c s) hkind]
  exact putCall_putCall _ _ _ _

theorem settled_wait (h : callAt s e = some c) (hfreed : s.calls.freed = false)
    (hkind : (stepAt s.tables { c with cursor := c.cursor + 1 }).kind = 4) :
    settle (stepEnds e s) = putCall e (some (atNextWait s c)) s := by
  rw [stepEnds_wait h hkind]
  exact settle_of_quiet hfreed

theorem inStep_of_running {kind : Byte} (h : callAt s e = some c) (hrun : c.running = true)
    (hkind : (stepAt s.tables c).kind = kind) (htimer : c.stepTimer ≠ none) : inStep s e kind = some c := by
  obtain ⟨n, hn⟩ := Option.ne_none_iff_exists'.mp htimer
  simp [inStep, h, hrun, hkind, hn]

theorem inStep_of_stopped (kind : Byte) (h : callAt s e = some c) (htimer : c.stepTimer = none) :
    inStep s e kind = none := by simp [inStep, h, htimer]

/-! ### The end of a call, in full -/

/-- The table and the areas as a call ends that sends no STOP: its entry is free, its areas are INACTIVE, and the
pending list is examined when the act ends (R144). -/
def callGone (e : EntryId) (c : Call) (s : State) : State :=
  setFlash c.held .inactive (s.withCalls { s.calls with
    table := putAt s.calls.table e none
    pendingList := s.calls.pendingList.filter fun x => x != e
    freed := s.calls.freed || s.calls.pendingList.contains e || c.held != 0 })

theorem endCall_silent {o : CallOutcome} (h : callAt s e = some c) (hstops : stopsUnits s.tables o c = false) :
    endCall o e s = writeRecord .callEnded (byteOf c.number) o.code (byteOf c.program.val) (callGone e c s) := by
  simp only [endCall, h, hstops]
  rfl

theorem endCall_touches (o : CallOutcome) (e : EntryId) (s : State) :
    OnlyTouches [.calls, .links, .log] s (endCall o e s) := endCall_onlyTouches o e s

end

/-! ### A CHIME or a WAIT step's time has run -/

section
variable {s : State} {e : EntryId} {c : Call} {i : Instr} {kind : Byte}

theorem timedStep_stopped (hexec : exec i s = .next (timedStepEnds kind e s)) (h : callAt s e = some c)
    (htimer : c.stepTimer = none) : exec i s = .next s := by
  rw [hexec, timedStepEnds, inStep_of_stopped kind h htimer]

theorem timedStep_ends (hexec : exec i s = .next (timedStepEnds kind e s)) (h : callAt s e = some c)
    (hrun : c.running = true) (hkind : (stepAt s.tables c).kind = kind) (htimer : c.stepTimer ≠ none) :
    exec i s = .next (settle (stepEnds e s)) := by
  rw [hexec, timedStepEnds, inStep_of_running h hrun hkind htimer]

/-- A FLASH step begins in the act (R154). -/
theorem nextStep_flash (h : callAt s e = some c) (hfreed : s.calls.freed = false)
    (hkind : (stepAt s.tables { c with cursor := c.cursor + 1 }).kind = 3) :
    OnlyTouches [.calls] s (settle (stepEnds e s))
      ∧ callAt (settle (stepEnds e s)) e = some { c with
          cursor := c.cursor + 1, awaiting := [], flash := some ⟨true, 0⟩
          stepTimer := some (s.now + (stepAt s.tables { c with cursor := c.cursor + 1 }).b.toNat * 5000) }
      ∧ (∀ a : AreaId, (settle (stepEnds e s)).calls.flash[a] =
          if c.held.getLsbD a.val then .low else s.calls.flash[a])
      ∧ ∀ d : EntryId, d ≠ e → callAt (settle (stepEnds e s)) d = callAt s d := by
  rw [stepEnds_eq h, runSteps_flash 511 (callAt_movedOn e c s) hkind]
  rw [settle_of_quiet (s := beginFlash _ _ _ (movedOn e c s)) hfreed, beginFlash]
  refine ⟨?_, callAt_putCall_same _ _ _, fun a => ?_, fun d hd => ?_⟩
  · exact onlyTouches_trans (onlyTouches_putCall _ _ s)
      (onlyTouches_trans (onlyTouches_setFlash _ _ _) (onlyTouches_putCall _ _ _))
  · exact setFlash_get _ _ _ a
  · exact (callAt_putCall_other _ _ hd).trans (callAt_putCall_other _ s hd)

/-- The program is at its end: the call ends DONE (R144). -/
theorem nextStep_end (h : callAt s e = some c) (hkind : (stepAt s.tables { c with cursor := c.cursor + 1 }).kind = 0) :
    stepEnds e s = writeRecord .callEnded (byteOf c.number) 0 (byteOf c.program.val)
      (callGone e (moveCursor c (c.cursor + 1)) (movedOn e c s)) := by
  rw [stepEnds_eq h, runSteps_end 511 (callAt_movedOn e c s) hkind]
  exact endCall_silent (c := moveCursor c (c.cursor + 1)) (callAt_movedOn e c s) rfl

theorem nextStep_done (h : callAt s e = some c) (hlist : s.calls.pendingList = [])
    (hkind : (stepAt s.tables { c with cursor := c.cursor + 1 }).kind = 0) :
    OnlyTouches [.calls, .links, .log] s (settle (stepEnds e s))
      ∧ callAt (settle (stepEnds e s)) e = none
      ∧ (∀ d : EntryId, d ≠ e → callAt (settle (stepEnds e s)) d = callAt s d)
      ∧ (∀ a : AreaId, (settle (stepEnds e s)).calls.flash[a] =
          if c.held.getLsbD a.val then .inactive else s.calls.flash[a])
      ∧ (settle (stepEnds e s)).log = loggedIn s.log
          ⟨s.log.next, houseClock s, .callEnded, byteOf c.number, 0, byteOf c.program.val⟩ := by
  have hnone : (writeRecord .callEnded (byteOf c.number) 0 (byteOf c.program.val)
      (callGone e (moveCursor c (c.cursor + 1)) (movedOn e c s))).calls.pendingList = [] := by
    rw [writeRecord_calls]
    exact congrArg (List.filter fun x => x != e) hlist
  rw [nextStep_end h hkind, settle_of_noPending hnone]
  refine ⟨?_, ?_, fun d hd => ?_, fun a => ?_, ?_⟩
  · refine onlyTouches_trans ?_ (onlyTouches_mono (by simp) (onlyTouches_withCalls _ _))
    refine onlyTouches_trans (onlyTouches_mono (bs := [.calls]) (by simp) ?_)
      (onlyTouches_mono (by simp) (writeRecord_onlyTouches _ _ _ _ _))
    exact onlyTouches_trans (onlyTouches_putCall e _ s)
      (onlyTouches_trans (onlyTouches_withCalls _ _) (onlyTouches_setFlash _ _ _))
  · rw [callAt, withCalls_calls, writeRecord_calls]
    exact putAt_same _ _ _
  · rw [callAt, withCalls_calls, writeRecord_calls]
    exact (putAt_other _ _ hd).trans (putAt_other _ _ hd)
  · rw [withCalls_calls, writeRecord_calls]
    exact setFlash_get _ _ _ a
  · rw [withCalls_log, writeRecord_log]
    rfl

theorem timedStepEnds_parts (hexec : exec i s = .next (timedStepEnds kind e s)) (h : callAt s e = some c)
    (hrun : c.running = true) (hfreed : s.calls.freed = false) (hkind : (stepAt s.tables c).kind = kind) :
    let st := stepAt s.tables { c with cursor := c.cursor + 1 }
    let next : Call := { c with cursor := c.cursor + 1, stepTimer := none, awaiting := [], flash := none }
    (c.stepTimer = none → exec i s = .next s)
      ∧ (c.stepTimer ≠ none → st.kind = 4 → exec i s = .next (s.withCalls { s.calls with
          table := putAt s.calls.table e (some { next with
            stepTimer := some (s.now + (word16 st.a st.b).toNat * 5000) }) }))
      ∧ (c.stepTimer ≠ none → st.kind = 3 → Answers i s fun t => OnlyTouches [.calls] s t
          ∧ callAt t e = some { next with
              stepTimer := some (s.now + st.b.toNat * 5000), flash := some ⟨true, 0⟩ }
          ∧ (∀ a : AreaId, t.calls.flash[a] = if c.held.getLsbD a.val then .low else s.calls.flash[a])
          ∧ ∀ d : EntryId, d ≠ e → callAt t d = callAt s d)
      ∧ (c.stepTimer ≠ none → st.kind = 0 → s.calls.pendingList = [] → Answers i s fun t =>
          OnlyTouches [.calls, .links, .log] s t ∧ callAt t e = none
            ∧ (∀ d : EntryId, d ≠ e → callAt t d = callAt s d)
            ∧ (∀ a : AreaId, t.calls.flash[a] = if c.held.getLsbD a.val then .inactive else s.calls.flash[a])
            ∧ t.log = loggedIn s.log
                ⟨s.log.next, houseClock s, .callEnded, byteOf c.number, 0, byteOf c.program.val⟩) := by
  intro st next
  have hends := timedStep_ends hexec h hrun hkind
  refine ⟨timedStep_stopped hexec h, fun htimer hwait => ?_, fun htimer hflash => ?_, fun htimer hend hlist => ?_⟩
  · rw [hends htimer, settled_wait h hfreed hwait]
    rfl
  · exact ⟨_, hends htimer, nextStep_flash h hfreed hflash⟩
  · exact ⟨_, hends htimer, nextStep_done h hlist hend⟩

theorem timedStepEnds_chimeWait : Parts.TimedStepEnds := by
  intro s e c h hrun hfreed k hk hkind
  rcases List.mem_cons.mp hk with rfl | hk
  · exact timedStepEnds_parts rfl h hrun hfreed hkind
  · obtain rfl := List.mem_singleton.mp hk
    exact timedStepEnds_parts rfl h hrun hfreed hkind

end

end Sys2Proof.Machine
end


section
/-! CHIME, MESSAGE, REPEAT and FLASH steps (R150 to R155, R173). -/

namespace Sys2Proof.Machine

/-! ### Commands to the units of some areas -/

/-- The commands for the units of some areas are in RACK-EXPRESS, behind what stood there, and nothing else has changed
(R151). -/
def CommandsFiled (s : State) (frames : List Frame) (t : State) : Prop :=
  t.links.queues[QueueId.rackExpress.ix].frames = s.links.queues[QueueId.rackExpress.ix].frames ++ frames
    ∧ OnlyTouches [.links] s t

/-- The frame of a command (R165). -/
def commandFrame (cmd x y unit : Byte) : Frame := mkFrame 0x40 unit [cmd, x, y]

theorem length_commandFrame (cmd x y unit : Byte) : (commandFrame cmd x y unit).length = 8 := by
  rw [commandFrame, length_mkFrame]
  rfl

/-- The bytes that some queued frames take are counted in their queue's free bytes. -/
theorem freeBytes_filed (s : State) (q : QueueId) (f : Frame) :
    freeBytes s.tables (filedIn s q f) q = freeBytes s.tables s.links q - (f.length + 4) := by
  rw [freeBytes, filedIn_same, freeBytes, Nat.sub_sub]
  simp [occupied, storedSize]

section
variable (cmd x y : Byte)

theorem sendToArea_of_unit {s : State} {a : AreaId} {u : Byte} (h : unitOf s.tables a = some u) :
    sendToArea cmd x y s a = offer .rackExpress (commandFrame cmd x y u) s := by
  rw [sendToArea, h]
  rfl

theorem sendToArea_of_none {s : State} {a : AreaId} (h : unitOf s.tables a = none) : sendToArea cmd x y s a = s := by
  rw [sendToArea, h]

theorem sendToAreas_filed (l : List AreaId) {s : State}
    (hroom : (l.filterMap (unitOf s.tables)).length * 12 ≤ freeBytes s.tables s.links .rackExpress) :
    CommandsFiled s ((l.filterMap (unitOf s.tables)).map (commandFrame cmd x y)) (l.foldl (sendToArea cmd x y) s) := by
  induction l generalizing s with
  | nil => exact ⟨(List.append_nil _).symm, onlyTouches_refl _ s⟩
  | cons a l ih =>
    rw [List.foldl_cons]
    cases hunit : unitOf s.tables a with
    | none =>
      rw [sendToArea_of_none _ _ _ hunit, List.filterMap_cons_none hunit]
      rw [List.filterMap_cons_none hunit] at hroom
      exact ih hroom
    | some u =>
      rw [List.filterMap_cons_some hunit, List.length_cons] at hroom
      have hfits : (commandFrame cmd x y u).length + 4 ≤ freeBytes s.tables s.links .rackExpress := by
        rw [length_commandFrame]
        omega
      have hleft : freeBytes s.tables (filedIn s .rackExpress (commandFrame cmd x y u)) .rackExpress
          = freeBytes s.tables s.links .rackExpress - 12 := freeBytes_filed _ _ _
      obtain ⟨hframes, htouch⟩ := ih (s := s.withLinks (filedIn s .rackExpress (commandFrame cmd x y u)))
        (by rw [withLinks_tables, withLinks_links, hleft]; omega)
      rw [sendToArea_of_unit _ _ _ hunit, offer_of_room hfits, List.filterMap_cons_some hunit, List.map_cons]
      refine ⟨?_, onlyTouches_trans (onlyTouches_withLinks s _) htouch⟩
      rw [hframes, withLinks_links, filedIn_same, List.append_assoc]
      rfl

theorem overflowed_frames {q : QueueId} (hq : q ≠ .consoleTx) (f : Frame) (s : State) :
    (overflowed q f s).links.queues[q.ix].frames = s.links.queues[q.ix].frames := by
  cases hlatch : s.links.queues[q.ix].latched with
  | true => rw [overflowed_of_latched f hlatch]
  | false => exact (overflowed_open_effect f hlatch).2.2.1 hq

/-- Without room for one command none is filed: each is dropped (R151, R170). -/
theorem sendToAreas_dropped (l : List AreaId) {s : State} (hfull : freeBytes s.tables s.links .rackExpress < 12) :
    (l.foldl (sendToArea cmd x y) s).links.queues[QueueId.rackExpress.ix].frames
      = s.links.queues[QueueId.rackExpress.ix].frames := by
  refine (foldl_keeps (P := fun t : State => t.tables = s.tables ∧ t.links.queues[QueueId.rackExpress.ix].frames
    = s.links.queues[QueueId.rackExpress.ix].frames) (fun t a ⟨htables, hframes⟩ => ?_) l s ⟨rfl, rfl⟩).2
  cases hunit : unitOf t.tables a with
  | none =>
    rw [sendToArea_of_none _ _ _ hunit]
    exact ⟨htables, hframes⟩
  | some u =>
    have hsame : freeBytes t.tables t.links .rackExpress = freeBytes s.tables s.links .rackExpress := by
      rw [freeBytes, freeBytes, occupied, occupied, hframes, htables]
    rw [sendToArea_of_unit _ _ _ hunit, offer_of_full (by rw [hsame, length_commandFrame]; omega)]
    exact ⟨(overflowed_tables _ _ _).trans htables, (overflowed_frames (by decide) _ t).trans hframes⟩

theorem sendToAreas_touches (areas : AreaSet) (s : State) : OnlyTouches [.links, .log] s (sendToAreas areas cmd x y s) :=
  foldl_keeps (P := OnlyTouches [.links, .log] s) (fun t a ht => by
    unfold sendToArea
    split
    · exact onlyTouches_trans ht (offer_onlyTouches _ _ t)
    · exact ht) _ s (onlyTouches_refl _ s)

end

/-- A step that gives a command to the unit of each held area, and then leaves the call as `d` (R151 to R153). -/
def commanded (cmd x y : Byte) (e : EntryId) (held : AreaSet) (d : Call) (s : State) : State :=
  putCall e (some d) (sendToAreas held cmd x y s)

theorem commanded_effect (cmd x y : Byte) {s : State} (e : EntryId) (held : AreaSet) (b d : Call)
    (hfreed : s.calls.freed = false) :
    let t := settle (commanded cmd x y e held d (putCall e (some b) s))
    let units := (areasOf held).filterMap (unitOf s.tables)
    let free := freeBytes s.tables s.links .rackExpress
    let old := s.links.queues[QueueId.rackExpress.ix].frames
    let now := t.links.queues[QueueId.rackExpress.ix].frames
    OnlyTouches [.calls, .links, .log] s t
      ∧ t.calls = { s.calls with table := putAt s.calls.table e (some d) }
      ∧ (units.length * 12 ≤ free → now = old ++ units.map (commandFrame cmd x y) ∧ t.log = s.log)
      ∧ (free < 12 → now = old) := by
  have hcalls : (sendToAreas held cmd x y (putCall e (some b) s)).calls = (putCall e (some b) s).calls :=
    sendToAreas_calls _ _ _ _ _
  have hquiet : (commanded cmd x y e held d (putCall e (some b) s)).calls.freed = false :=
    (congrArg CallState.freed hcalls).trans hfreed
  dsimp only
  rw [settle_of_quiet hquiet]
  refine ⟨?_, ?_, fun hroom => ?_, fun hfull => ?_⟩
  · refine onlyTouches_trans (onlyTouches_mono (by simp) (onlyTouches_putCall e (some b) s)) ?_
    exact onlyTouches_trans (onlyTouches_mono (by simp) (sendToAreas_touches cmd x y held _))
      (onlyTouches_mono (by simp) (onlyTouches_putCall e (some d) _))
  · have hput : (commanded cmd x y e held d (putCall e (some b) s)).calls
        = { (putCall e (some b) s).calls with table := putAt (putCall e (some b) s).calls.table e (some d) } :=
      congrArg (fun cs : CallState => { cs with table := putAt cs.table e (some d) }) hcalls
    rw [hput]
    exact congrArg (fun v => { s.calls with table := v }) (putAt_putAt _ _ _ _)
  · obtain ⟨hframes, htouch⟩ := sendToAreas_filed cmd x y (areasOf held) (s := putCall e (some b) s) hroom
    exact ⟨hframes, htouch .log (by decide)⟩
  · exact sendToAreas_dropped cmd x y (areasOf held) (s := putCall e (some b) s) hfull

/-- A CHIME or a MESSAGE step begins as a WAIT ends (R152, R153). -/
theorem unitStepBegins : Parts.UnitStepBegins := by
  intro s e c h hrun hfreed htimer hkind st next units free begins
  have hends := timedStep_ends (i := .waitStepExpiry e) rfl h hrun hkind htimer
  refine ⟨fun hchime => ?_, fun hmessage => ?_⟩
  · refine ⟨_, hends, ?_⟩
    rw [stepEnds_eq h, runSteps_chime 511 (callAt_movedOn e c s) hchime]
    have heffect := commanded_effect 1 st.a st.b e c.held (moveCursor c (c.cursor + 1)) { next with
      stepTimer := some (s.now + st.b.toNat * s.tables.schedule.spacing.toNat * 100) } hfreed
    exact heffect
  · refine ⟨_, hends, ?_⟩
    rw [stepEnds_eq h, runSteps_message 511 (callAt_movedOn e c s) hmessage]
    exact commanded_effect 2 st.a 0 e c.held (moveCursor c (c.cursor + 1)) { next with
      stepTimer := some (s.now + st.b.toNat * 100000), awaiting := units } hfreed

/-! ### A REPEAT step -/

section
variable {s : State} {e : EntryId} {c : Call}

theorem stepAt_of_index {c : Call} {i : Fin 12} (t : Tables) (h : c.cursor = i.val) :
    stepAt t c = t.programs[c.program].steps[i] := by simp [stepAt, h]

/-- A REPEAT step follows a WAIT and leads to another (R155). -/
theorem repeat_leads {d : Call} (h : callAt s e = some c) (hfreed : s.calls.freed = false)
    (hkind : (stepAt s.tables { c with cursor := c.cursor + 1 }).kind = 5)
    (hmoves : repeatStep (moveCursor c (c.cursor + 1)) (stepAt s.tables { c with cursor := c.cursor + 1 }) = d)
    (hdest : (stepAt s.tables d).kind = 4) :
    settle (stepEnds e s) = putCall e (some { d with
      stepTimer := some (s.now + (word16 (stepAt s.tables d).a (stepAt s.tables d).b).toNat * 5000) }) s := by
  rw [stepEnds_eq h, runSteps_repeat 511 (callAt_movedOn e c s) hkind]
  have hstep : repeatStep (moveCursor c (c.cursor + 1)) (stepAt (movedOn e c s).tables (moveCursor c (c.cursor + 1)))
      = d := hmoves
  rw [hstep, runSteps_wait (s := putCall e (some d) (movedOn e c s)) 510 (callAt_putCall_same e (some d) _) hdest,
    movedOn, beginWait, putCall_putCall,
    putCall_putCall]
  exact settle_of_quiet hfreed

theorem getD_index {α : Type} {n : Nat} (v : Vector α n) (i : Fin n) (x : α) : v.toList.getD i.val x = v[i] := by simp

theorem setIfInBounds_index {α : Type} {n : Nat} (v : Vector α n) (i : Fin n) (x : α) :
    v.setIfInBounds i.val x = putAt v i x := by
  ext j hj
  simp [putAt, Vector.getElem_setIfInBounds, Vector.getElem_set]

theorem repeatStep_forever {st : StepBytes} (c : Call) (h : st.b = 255) :
    repeatStep c st = moveCursor c st.a.toNat := if_pos h

theorem repeatStep_again {st : StepBytes} {c : Call} {i : Fin 12} (hi : c.cursor = i.val) (hb : st.b ≠ 255)
    (hcount : c.counters[i] < st.b.toNat) : repeatStep c st
      = moveCursor { c with counters := putAt c.counters i (c.counters[i] + 1) } st.a.toNat := by
  unfold repeatStep
  dsimp only
  rw [hi, getD_index, if_neg hb, if_pos hcount, setIfInBounds_index]

theorem repeatStep_over {st : StepBytes} {c : Call} {i : Fin 12} (hi : c.cursor = i.val) (hb : st.b ≠ 255)
    (hcount : st.b.toNat ≤ c.counters[i]) : repeatStep c st
      = moveCursor { c with counters := putAt c.counters i 0 } (i.val + 1) := by
  unfold repeatStep
  dsimp only
  rw [hi, getD_index, if_neg hb, if_neg (Nat.not_lt.mpr hcount), setIfInBounds_index]

end

/-- A REPEAT step acts as it begins (R155). -/
theorem repeatStepActs : Parts.RepeatStepActs := by
  intro s e c i h hrun hfreed htimer hkind hi st moves hrepeat
  have hends := timedStep_ends (i := .waitStepExpiry e) rfl h hrun hkind htimer
  have hst : stepAt s.tables { c with cursor := c.cursor + 1 } = st := stepAt_of_index s.tables hi.symm
  have hleads : ∀ {n : Nat} {v : Vector Nat 12}, repeatStep (moveCursor c (c.cursor + 1)) st
      = moveCursor { c with counters := v } n → moves n v := by
    intro n v hmoves hdest
    have hleads := repeat_leads (d := moveCursor { c with counters := v } n) h hfreed (by rw [hst]; exact hrepeat)
      (by rw [hst]; exact hmoves) hdest
    rw [hends, hleads]
    rfl
  exact ⟨fun hb => hleads (repeatStep_forever _ hb),
    fun hb hcount => hleads (repeatStep_again (c := moveCursor c (c.cursor + 1)) hi.symm hb hcount),
    fun hb hcount => hleads (repeatStep_over (c := moveCursor c (c.cursor + 1)) hi.symm hb hcount)⟩

/-- Settles O45, by the equation of each kind of step as it begins, taken after the one that ends. -/
theorem stepTimeRuns : Obligations.StepTimeRuns := ⟨timedStepEnds_chimeWait, unitStepBegins, repeatStepActs⟩

/-! ### A MESSAGE step ends -/

section
variable {s u : State} {e : EntryId} {c : Call}

theorem exec_takeCallDone {f : Frame} {rest : List Frame} (hhead : AtHead s .rackRx f rest)
    (hkind : frameKind f = 0x41) : exec .takeCallDone s = .next (takeCallDone f (dropHead .rackRx s)) := by
  have hexec : exec .takeCallDone s = execTakeCallDone s := rfl
  rw [hexec, execTakeCallDone, headFrame_of_atHead hhead]
  exact if_pos hkind

theorem timeouts_keep (number : Byte) (message : Byte) (l : List Byte) (s : State) :
    OnlyTouches [.links, .log] s (l.foldl (fun x unit => writeRecord .messageTimeout number unit message x) s) :=
  foldl_keeps (P := OnlyTouches [.links, .log] s)
    (fun t u ht => onlyTouches_trans ht (writeRecord_onlyTouches .messageTimeout number u message t)) l s
    (onlyTouches_refl _ s)

/-- A step that ends in a state whose calls are those of `s`, with the next a WAIT. -/
theorem settled_wait_later (htouch : OnlyTouches [.links, .log] s u) (h : callAt s e = some c)
    (hfreed : s.calls.freed = false) (hkind : (stepAt s.tables { c with cursor := c.cursor + 1 }).kind = 4) :
    settle (stepEnds e u) = u.withCalls { s.calls with table := putAt s.calls.table e (some (atNextWait s c)) } := by
  have hcalls : u.calls = s.calls := htouch .calls (by decide)
  have htables : u.tables = s.tables := htouch .tables (by decide)
  have hnow : u.now = s.now := htouch .now (by decide)
  have hcall : callAt u e = some c := by rw [callAt, hcalls]; exact h
  rw [settled_wait hcall (by rw [hcalls]; exact hfreed) (by rw [htables]; exact hkind), atNextWait, hnow, htables,
    putCall, hcalls, atNextWait]

theorem unitAnswers_of_some {unit message : Byte} {a : AreaId} (harea : areaOfUnit s.tables unit = some a)
    (hholder : holderOf s.calls a = some e) (h : callAt s e = some c) (hkind : (stepAt s.tables c).kind = 2) :
    unitAnswers unit message s =
      if (stepAt s.tables c).a = message ∧ unit ∈ c.awaiting then
        if c.awaiting.filter (fun x => x != unit) = [] then
          settle (stepEnds e (putCall e (some { c with awaiting := c.awaiting.filter fun x => x != unit }) s))
        else putCall e (some { c with awaiting := c.awaiting.filter fun x => x != unit }) s
      else s := by
  simp only [unitAnswers, harea, hholder, h, hkind]
  by_cases hawaited : (stepAt s.tables c).a = message ∧ unit ∈ c.awaiting
  · rw [if_pos hawaited]
    simp [hawaited.1, hawaited.2]
  · rw [if_neg hawaited]
    exact if_neg (by simpa using fun hm hu => hawaited ⟨hm, hu⟩)

end

/-- Settles O46: a CALL-DONE ends the step with the last awaited unit, and the limit ends it with a record for each. -/
theorem messageStepEnds : Obligations.MessageStepEnds := by
  intro s e c h hrun hfreed hkind message st ended
  refine ⟨fun htimer => ?stopped, fun htimer hwait => ?limit, fun f rest hhead hframe => ?answers⟩
  case stopped =>
    have hexec : exec (.messageLimitExpiry e) s = .next (messageLimit e s) := rfl
    rw [hexec, messageLimit, inStep_of_stopped 2 h htimer]
  case limit =>
    have hexec : exec (.messageLimitExpiry e) s = .next (messageLimit e s) := rfl
    rw [hexec, messageLimit, inStep_of_running h hrun hkind htimer]
    exact congrArg Host.Outcome.next
      (settled_wait_later (timeouts_keep (byteOf c.number) message c.awaiting s) h hfreed hwait)
  case answers =>
    have htouch : OnlyTouches [.links] s (dropHead .rackRx s) := dropHead_onlyTouches _ s
    have hcall : callAt (dropHead .rackRx s) e = some c := h
    have htaken := exec_takeCallDone hhead hframe
    refine ⟨fun hlength => ?_, fun harea => ?_, fun a m harea hbody => ?_⟩
    · rw [htaken, takeCallDone, if_neg hlength]
    · have hnone : unitAnswers (frameStation f) (byteAt (frameBody f) 0) (dropHead .rackRx s) = dropHead .rackRx s := by
        rw [unitAnswers, show areaOfUnit (dropHead .rackRx s).tables (frameStation f) = none from harea]
      rw [htaken, takeCallDone, hnone, ite_self]
    · have harea' : areaOfUnit (dropHead .rackRx s).tables (frameStation f) = some a := harea
      have hexec : exec .takeCallDone s = .next (unitAnswers (frameStation f) m (dropHead .rackRx s)) := by
        rw [htaken, takeCallDone, hbody]
        rfl
      refine ⟨fun hfree => ?_, fun hholder hother => ?_, fun hholder hm hunit hleft => ?_,
        fun hholder hm hunit hleft hwait => ?_⟩
      · have hfree' : holderOf (dropHead .rackRx s).calls a = none := hfree
        rw [hexec, unitAnswers, harea']
        simp only [hfree']
      all_goals have hcases := unitAnswers_of_some (message := m) harea' hholder hcall hkind
      · rw [hexec, hcases, if_neg]
        rintro ⟨hm, hu⟩
        exact hother.elim (fun hne => hne hm.symm) fun hnot => hnot hu
      · rw [hexec, hcases, if_pos ⟨hm.symm, hunit⟩, if_neg hleft]
        rfl
      · rw [hexec, hcases, if_pos ⟨hm.symm, hunit⟩, if_pos hleft]
        have hset := settled_wait (callAt_putCall_same e (some { c with
          awaiting := c.awaiting.filter fun x => x != frameStation f }) (dropHead .rackRx s)) hfreed hwait
        rw [hset, putCall_putCall]
        rfl

/-! ### A FLASH step turns -/

section
variable {s : State} {e : EntryId} {c : Call}

theorem mem_flashed (s : State) (a : AreaId) (l : List AreaId) (set : AreaSet) :
    hasArea (l.foldl (fun set a => if s.calls.flash[a] = .inactive then set else set ||| oneArea a) set) a = true
      ↔ hasArea set a = true ∨ a ∈ l ∧ s.calls.flash[a] ≠ .inactive := by
  induction l generalizing set with
  | nil => simp
  | cons b l ih =>
    rw [List.foldl_cons, ih]
    split
    next hoff =>
      constructor
      · rintro (hset | ⟨ha, hon⟩)
        · exact .inl hset
        · exact .inr ⟨List.mem_cons_of_mem _ ha, hon⟩
      · rintro (hset | ⟨ha, hon⟩)
        · exact .inl hset
        · rcases List.mem_cons.mp ha with rfl | ha
          · exact absurd hoff hon
          · exact .inr ⟨ha, hon⟩
    next hon =>
      rw [hasArea_or, hasArea_oneArea, Bool.or_eq_true, decide_eq_true_iff, List.mem_cons]
      constructor
      · rintro ((hset | rfl) | ⟨ha, hflash⟩)
        · exact .inl hset
        · exact .inr ⟨.inl rfl, hon⟩
        · exact .inr ⟨.inr ha, hflash⟩
      · rintro (hset | ⟨rfl | ha, hflash⟩)
        · exact .inl (.inl hset)
        · exact .inl (.inr rfl)
        · exact .inr ⟨ha, hflash⟩

theorem flashedAreas_iff (s : State) (c : Call) (a : AreaId) :
    (flashedAreas s c).getLsbD a.val = true ↔ c.held.getLsbD a.val ∧ s.calls.flash[a] ≠ .inactive := by
  refine (mem_flashed s a (areasOf c.held) 0).trans ?_
  rw [mem_areasOf, hasArea_zero]
  simp [hasArea]

theorem flashed_turn (s : State) (c : Call) (f : FlashState) (a : AreaId) :
    (setFlash (flashedAreas s c) f s).calls.flash[a] =
      if c.held.getLsbD a.val ∧ s.calls.flash[a] ≠ .inactive then f else s.calls.flash[a] := by
  rw [setFlash_get]
  exact if_congr (flashedAreas_iff s c a) rfl rfl

end

/-- Settles O47, by the three branches of the FLASH timer; the areas flashed are those held whose flash state is not
INACTIVE. -/
theorem flashTurns : Obligations.FlashTurns := by
  intro s e c p h hrun hfreed hkind hp st next turned
  have hexec : exec (.flashTimerExpiry e) s = .next (flashTurn e s) := rfl
  refine ⟨fun htimer => ?stopped, fun htimer hlow => ?high, fun htimer hlow hleft => ?low,
    fun htimer hlow hcycles hwait => ?finished⟩
  case stopped => rw [hexec, flashTurn, inStep_of_stopped 3 h htimer]
  case high =>
    refine ⟨_, hexec, ?_⟩
    simp only [flashTurn, inStep_of_running h hrun hkind htimer, hp, hlow, if_true]
    exact ⟨onlyTouches_trans (onlyTouches_putCall _ _ s) (onlyTouches_setFlash _ _ _),
      fun a => flashed_turn s c .high a, callAt_putCall_same _ _ s⟩
  case low =>
    refine ⟨_, hexec, ?_⟩
    simp only [flashTurn, inStep_of_running h hrun hkind htimer, hp, hlow, Bool.false_eq_true, if_false,
      if_pos (show p.cycles + 1 < (stepAt s.tables c).c.toNat from hleft)]
    exact ⟨onlyTouches_trans (onlyTouches_putCall _ _ s) (onlyTouches_setFlash _ _ _),
      fun a => flashed_turn s c .low a, callAt_putCall_same _ _ s⟩
  case finished =>
    refine ⟨_, hexec, ?_⟩
    simp only [flashTurn, inStep_of_running h hrun hkind htimer, hp, hlow, Bool.false_eq_true, if_false,
      if_neg (show ¬p.cycles + 1 < (stepAt s.tables c).c.toNat from Nat.not_lt.mpr hcycles)]
    have hcall : callAt (setFlash (flashedAreas s c) .inactive s) e = some c := h
    rw [settled_wait hcall hfreed hwait]
    exact ⟨onlyTouches_trans (onlyTouches_setFlash _ _ s) (onlyTouches_putCall _ _ _),
      fun a => flashed_turn s c .inactive a, callAt_putCall_same _ _ _⟩

end Sys2Proof.Machine
end


section
/-! The tests of START-CALL and CANCEL-CALL, and the start of a call whose areas are free (R142 to R146, R156). -/

namespace Sys2Proof.Machine

/-! ### Who holds an area -/

/-- Whether the call in an entry, if there is one, is RUNNING and holds an area (R142). -/
def claims (c : Option Call) (a : AreaId) : Bool :=
  match c with
  | some c => c.running && hasArea c.held a
  | none => false

theorem holderOf_eq (cs : CallState) (a : AreaId) :
    holderOf cs a = (List.finRange 10).find? fun e => claims cs.table[e] a := rfl

theorem holderOf_congr {cs ds : CallState} {a : AreaId} (h : ∀ e : EntryId, claims ds.table[e] a = claims cs.table[e] a) :
    holderOf ds a = holderOf cs a := by rw [holderOf_eq, holderOf_eq, funext h]

theorem claims_putAt {v : Vector (Option Call) 10} {e : EntryId} {x : Option Call} {a : AreaId}
    (h : claims x a = claims v[e] a) (d : EntryId) : claims (putAt v e x)[d] a = claims v[d] a := by
  by_cases hd : d = e
  · rw [hd, putAt_same, h]
  · rw [putAt_other _ _ hd]

theorem claims_waiting {c : Call} (h : c.running = false) (a : AreaId) : claims (some c) a = false := by simp [claims, h]

theorem claims_none (a : AreaId) : claims none a = false := rfl

section
variable {s : State} {e : EntryId} {c d : Call}

theorem putCall_self (h : callAt s e = some c) : putCall e (some c) s = s := by
  have hsame : putAt s.calls.table e (some c) = s.calls.table := by
    rw [← h, callAt]
    simp [putAt]
  rw [putCall, hsame]
  rfl

theorem holderOf_putCall {x : Option Call} {a : AreaId} (h : claims x a = claims (callAt s e) a) :
    holderOf (putCall e x s).calls a = holderOf s.calls a := holderOf_congr (claims_putAt h)

/-! ### A call takes areas that no call holds -/

theorem takeAreas_free (l : List AreaId) (h : callAt s e = some c) (hrun : c.running = false)
    (hfree : ∀ a ∈ l, holderOf s.calls a = none) : l.foldl (seizeArea e) s
      = putCall e (some { c with held := l.foldl (fun set a => set ||| oneArea a) c.held }) s := by
  induction l generalizing s c with
  | nil => exact (putCall_self h).symm
  | cons a l ih =>
    rw [List.foldl_cons, seizeArea, preempt_of_free e true (hfree a List.mem_cons_self), takeArea_of_some h]
    have hsame (b : AreaId) : holderOf (putCall e (some { c with held := c.held ||| oneArea a }) s).calls b
        = holderOf s.calls b := by
      refine holderOf_putCall ?_
      rw [h, claims_waiting hrun]
      exact claims_waiting (c := { c with held := c.held ||| oneArea a }) hrun b
    rw [ih (c := { c with held := c.held ||| oneArea a }) (callAt_putCall_same _ _ _) hrun fun b hb => (hsame b).trans (hfree b (List.mem_cons_of_mem a hb)),
      putCall_putCall]
    rfl

theorem hasArea_joined (l : List AreaId) (set : AreaSet) (a : AreaId) :
    hasArea (l.foldl (fun set a => set ||| oneArea a) set) a = true ↔ hasArea set a = true ∨ a ∈ l := by
  induction l generalizing set with
  | nil => simp
  | cons b l ih =>
    rw [List.foldl_cons, ih, hasArea_or, hasArea_oneArea, Bool.or_eq_true, decide_eq_true_iff, List.mem_cons, or_assoc]

theorem areaSet_ext {x y : AreaSet} (h : ∀ a : AreaId, hasArea x a = true ↔ hasArea y a = true) : x = y :=
  BitVec.eq_of_getLsbD_eq fun i hi => Bool.eq_iff_iff.mpr (h ⟨i, hi⟩)

theorem joined_areasOf (x : AreaSet) : (areasOf x).foldl (fun set a => set ||| oneArea a) 0 = x :=
  areaSet_ext fun a => by
    rw [hasArea_joined, hasArea_zero, mem_areasOf]
    simp

/-- A call as it begins to run, at a first step that is a WAIT (R146, R152). -/
def startedCall (s : State) (c : Call) : Call :=
  { c with
    held := c.requested
    running := true
    cursor := 0
    stepTimer := some (s.now + (word16 (stepAt s.tables { c with cursor := 0 }).a
      (stepAt s.tables { c with cursor := 0 }).b).toNat * 5000)
    awaiting := []
    flash := none }

/-- A call whose areas nothing holds starts on all of them (R146). -/
theorem startRunning_free (h : callAt s e = some c) (hrun : c.running = false) (hheld : c.held = 0)
    (hfree : ∀ a : AreaId, hasArea c.requested a = true → holderOf s.calls a = none)
    (hkind : (stepAt s.tables { c with cursor := 0 }).kind = 4) : startRunning e s
      = (writeRecord .callStarted (byteOf c.number) (byteOf c.program.val) c.origin.code s).withCalls
          { s.calls with table := putAt s.calls.table e (some (startedCall s c)) } := by
  have hseized : (areasOf c.requested).foldl (seizeArea e) s = putCall e (some { c with held := c.requested }) s := by
    rw [takeAreas_free _ h hrun fun a ha => hfree a (mem_areasOf.mp ha), hheld, joined_areasOf]
  have hcall : callAt (putCall e (some { c with held := c.requested }) s) e = some { c with held := c.requested } :=
    callAt_putCall_same _ _ _
  simp only [startRunning, h, hseized, hcall]
  rw [putCall_putCall, show jumpBound = 511 + 1 from rfl, runSteps_wait
    (c := { moveCursor { c with held := c.requested } 0 with running := true }) 511
    (by rw [callAt, writeRecord_calls]; exact callAt_putCall_same _ _ _) (by rw [writeRecord_tables]; exact hkind)]
  rw [beginWait, putCall, writeRecord_calls]
  exact congrArg (fun v => State.withCalls _ { s.calls with table := v }) (putAt_putAt _ _ _ _)

end

/-! ### The tests of START-CALL -/

section
variable {s : State} {p : ProgramId} {e : EntryId} {b : Byte} {areas : AreaSet}

theorem programIdOf_of_val (h : b.toNat = p.val) : programIdOf b = some p := by
  rw [programIdOf, dif_pos (h ▸ p.isLt)]
  exact congrArg some (Fin.ext h)

theorem programIdOf_of_large (h : 15 < b.toNat) : programIdOf b = none := dif_neg (by omega)

theorem byteOf_programId (h : b.toNat = p.val) : byteOf p.val = b := by
  rw [← h]
  exact BitVec.eq_of_toNat_eq (by simp [byteOf])

/-- The areas a call asks for are some, and all in use (R145 test 2). -/
abbrev AreasNamed (s : State) (areas : AreaSet) : Prop :=
  areas ≠ 0 ∧ ∀ a : AreaId, areas.getLsbD a.val = true → s.tables.areas[a].kind ≠ 0

theorem allInUse_iff (t : Tables) (areas : AreaSet) :
    allInUse t areas = true ↔ ∀ a : AreaId, areas.getLsbD a.val = true → t.areas[a].kind ≠ 0 := by
  simp only [allInUse, List.all_eq_true, areaInUse, bne_iff_ne]
  exact forall_congr' fun a => imp_congr mem_areasOf Iff.rfl

theorem areasTest_iff : (areas = 0 || !allInUse s.tables areas) = true ↔ ¬AreasNamed s areas := by
  rw [Bool.or_eq_true, decide_eq_true_iff, Bool.not_eq_true', ← Bool.not_eq_true, allInUse_iff, AreasNamed,
    not_and_or, not_ne_iff]

theorem startCallTests_areas (hp : programIdOf b = some p) (h : ¬AreasNamed s areas) :
    startCallTests s b areas = .error .badArgument := by
  rw [startCallTests, hp]
  exact if_pos (areasTest_iff.mpr h)

theorem startCallTests_ordinary (hp : programIdOf b = some p) (h : AreasNamed s areas) :
    startCallTests s b areas = (ordinaryTests s p).map fun e => (e, p) := by
  simp only [startCallTests, hp]
  rw [if_neg fun htest => areasTest_iff.mp htest h]
  cases ordinaryTests s p <;> rfl

theorem permitsCalls_iff (ph : Phase) : permitsCalls ph = true ↔ ph ∉ [.maintenance, .dark, .recovery] := by
  cases ph <;> decide

/-- The lowest free entry of 2 to 9 (R143). -/
theorem freeEntry_of_lowest (he : 2 ≤ e.val) (hfree : callAt s e = none)
    (hbelow : ∀ d : EntryId, 2 ≤ d.val → d.val < e.val → callAt s d ≠ none) : freeEntry s = some e := by
  have hsplit : ∀ e : EntryId, 2 ≤ e.val →
      ordinaryEntries = ordinaryEntries.take (e.val - 2) ++ e :: ordinaryEntries.drop (e.val - 1) := by decide
  have hlow : ∀ e : EntryId, 2 ≤ e.val → ∀ d ∈ ordinaryEntries.take (e.val - 2), 2 ≤ d.val ∧ d.val < e.val := by decide
  refine List.find?_eq_some_iff_append.mpr ⟨Option.isNone_iff_eq_none.mpr hfree, _, _, hsplit e he, fun d hd => ?_⟩
  obtain ⟨htwo, hlt⟩ := hlow e he d hd
  simpa [Option.isSome_iff_ne_none] using hbelow d htwo hlt

theorem freeEntry_of_full (h : ∀ e : EntryId, 2 ≤ e.val → callAt s e ≠ none) : freeEntry s = none :=
  List.find?_eq_none.mpr fun e he => by simpa [Option.isSome_iff_ne_none] using h e (two_le_of_ordinary e he)

theorem ordinaryTests_class (h : s.tables.programs[p].cls.toNat < 2) : ordinaryTests s p = .error .reservedProgram :=
  if_pos h

section
variable (hclass : 2 ≤ s.tables.programs[p].cls.toNat)
include hclass

theorem ordinaryTests_phase (h : ¬s.phase.phase ∉ [.maintenance, .dark, .recovery]) :
    ordinaryTests s p = .error .wrongPhase := by
  rw [ordinaryTests, if_neg (Nat.not_lt.mpr hclass), if_pos]
  rw [Bool.not_eq_true', ← Bool.not_eq_true]
  exact fun hopen => h ((permitsCalls_iff _).mp hopen)

variable (hopen : s.phase.phase ∉ [.maintenance, .dark, .recovery])
include hopen

theorem ordinaryTests_open : ordinaryTests s p
    = if s.effects.stage = .evacuate then .error .alarmActive
      else (freeEntry s).elim (.error .limit) .ok := by
  have hphase : (!permitsCalls s.phase.phase) = false := by rw [(permitsCalls_iff _).mpr hopen]; rfl
  rw [ordinaryTests, if_neg (Nat.not_lt.mpr hclass), hphase, if_neg Bool.false_ne_true]
  cases freeEntry s <;> rfl

theorem ordinaryTests_stage (h : s.effects.stage = .evacuate) : ordinaryTests s p = .error .alarmActive :=
  (ordinaryTests_open hclass hopen).trans (if_pos h)

variable (hcalm : s.effects.stage ≠ .evacuate)
include hcalm

theorem ordinaryTests_full (h : ∀ e : EntryId, 2 ≤ e.val → callAt s e ≠ none) : ordinaryTests s p = .error .limit := by
  rw [ordinaryTests_open hclass hopen, if_neg hcalm, freeEntry_of_full h]
  rfl

theorem ordinaryTests_passed (he : 2 ≤ e.val) (hfree : callAt s e = none)
    (hbelow : ∀ d : EntryId, 2 ≤ d.val → d.val < e.val → callAt s d ≠ none) : ordinaryTests s p = .ok e := by
  rw [ordinaryTests_open hclass hopen, if_neg hcalm, freeEntry_of_lowest he hfree hbelow]
  rfl

end

end

end Sys2Proof.Machine
end


section
/-! START-CALL and CANCEL-CALL answered: refusals, the start of a call nothing blocks, and a call cancelled (R143, R145,
R146, R156). -/

namespace Sys2Proof.Machine

section
variable {s : State} {p : ProgramId} {e : EntryId} {o : Origin} {areas : AreaSet}

/-! ### Admission -/

/-- The calls with a new one placed in an entry (R143). -/
def withPlaced (s : State) (e : EntryId) (p : ProgramId) (o : Origin) (areas : AreaSet) : CallState :=
  { s.calls with
    table := putAt s.calls.table e (some (newCall s.calls.nextNumber p s.tables.programs[p].cls.toNat o areas))
    nextNumber := numberAfter s.calls.nextNumber }

theorem freeNumber_of_unused {cs : CallState} (h : numberInUse cs cs.nextNumber = false) :
    freeNumber cs 10 cs.nextNumber = cs.nextNumber := by rw [freeNumber, h]; rfl

theorem placeCall_unused (h : numberInUse s.calls s.calls.nextNumber = false) :
    placeCall e p o areas s = s.withCalls (withPlaced s e p o areas) := by
  rw [placeCall, freeNumber_of_unused h]
  rfl

theorem holderOf_placed (hfree : callAt s e = none) (a : AreaId) :
    holderOf (withPlaced s e p o areas) a = holderOf s.calls a := by
  refine holderOf_congr (claims_putAt (v := s.calls.table) (e := e) ?_)
  rw [show s.calls.table[e] = none from hfree]
  exact claims_waiting (c := newCall s.calls.nextNumber p s.tables.programs[p].cls.toNat o areas) rfl a

theorem areaBlocked_nonePending {n : Nat} (a : AreaId) : areaBlocked s n [] a
    = (holderOf s.calls a).elim false fun l => decide (priorityAt s l ≤ n) := by
  cases hholder : holderOf s.calls a with
  | none => simp [areaBlocked, requestedBy, hholder]
  | some l => simp [areaBlocked, requestedBy, hholder]

theorem aheadOfNew_nonePending (n : Nat) (h : s.calls.pendingList = []) : aheadOfNew s n = [] := by
  rw [aheadOfNew, h, List.filter_nil]

/-- The call that a program's start makes of a call nothing blocks, at a first step that is a WAIT (R146, R152). -/
def startedNew (s : State) (p : ProgramId) (o : Origin) (areas : AreaSet) : Call :=
  ⟨s.calls.nextNumber, p, s.tables.programs[p].cls.toNat, o, areas, areas, true, 0, Vector.replicate 12 0,
    some (s.now + (word16 s.tables.programs[p].steps[0].a s.tables.programs[p].steps[0].b).toNat * 5000), [], none, none⟩

theorem startedCall_newCall (s u : State) (n : Nat) (hn : s.calls.nextNumber = n) (htables : u.tables = s.tables)
    (hnow : u.now = s.now) :
    startedCall u (newCall n p s.tables.programs[p].cls.toNat o areas) = startedNew s p o areas := by
  have hstep : stepAt u.tables { newCall n p s.tables.programs[p].cls.toNat o areas with cursor := 0 }
      = s.tables.programs[p].steps[0] := by
    rw [htables]
    exact stepAt_of_index (i := 0) s.tables rfl
  rw [startedCall, hstep, hnow, startedNew, hn]
  rfl

/-- The calls after a call nothing blocks has started (R146). -/
def withStarted (s : State) (e : EntryId) (p : ProgramId) (o : Origin) (areas : AreaSet) : CallState :=
  { s.calls with
    table := putAt s.calls.table e (some (startedNew s p o areas))
    nextNumber := numberAfter s.calls.nextNumber }

theorem startAlarmCall_free (hfree : callAt s e = none)
    (hnone : ∀ a : AreaId, hasArea areas a = true → holderOf s.calls a = none)
    (hkind : s.tables.programs[p].steps[0].kind = 4) (hnum : numberInUse s.calls s.calls.nextNumber = false) :
    startRunning e (placeCall e p o areas s)
      = (writeRecord .callStarted (byteOf s.calls.nextNumber) (byteOf p.val) o.code s).withCalls
          (withStarted s e p o areas) := by
  rw [placeCall_unused hnum]
  have hcall : callAt (s.withCalls (withPlaced s e p o areas)) e
      = some (newCall s.calls.nextNumber p s.tables.programs[p].cls.toNat o areas) := putAt_same _ _ _
  have hstep : stepAt s.tables { newCall s.calls.nextNumber p s.tables.programs[p].cls.toNat o areas with cursor := 0 }
      = s.tables.programs[p].steps[0] := stepAt_of_index (i := 0) s.tables rfl
  rw [startRunning_free hcall rfl rfl (fun a ha => (holderOf_placed hfree a).trans (hnone a ha))
    (by rw [withCalls_tables, hstep]; exact hkind), startedCall_newCall s (s.withCalls (withPlaced s e p o areas)) _ rfl rfl rfl]
  exact congrArg (fun v => State.withCalls _ { withPlaced s e p o areas with table := v }) (putAt_putAt _ _ _ _)

/-- R146: a call that nothing blocks starts as it is admitted. -/
theorem admitCall_free (hfree : callAt s e = none) (hlist : s.calls.pendingList = [])
    (hnone : ∀ a : AreaId, hasArea areas a = true → holderOf s.calls a = none)
    (hkind : s.tables.programs[p].steps[0].kind = 4) (hnum : numberInUse s.calls s.calls.nextNumber = false) :
    admitCall e p o areas s
      = (writeRecord .callStarted (byteOf s.calls.nextNumber) (byteOf p.val) o.code s).withCalls
          (withStarted s e p o areas) := by
  have hopen : (areasOf areas).all (fun a => !areaBlocked (placeCall e p o areas s) s.tables.programs[p].cls.toNat
      (aheadOfNew (placeCall e p o areas s) s.tables.programs[p].cls.toNat) a) = true := by
    rw [placeCall_unused hnum, aheadOfNew_nonePending (s := s.withCalls (withPlaced s e p o areas)) _ hlist,
      List.all_eq_true]
    intro a ha
    rw [areaBlocked_nonePending, withCalls_calls, holderOf_placed hfree a, hnone a (mem_areasOf.mp ha)]
    rfl
  exact (if_pos hopen).trans (startAlarmCall_free hfree hnone hkind hnum)

/-! ### START-CALL -/

variable {tag b x y z : Byte}

theorem exec_startCall_of_requested (h : Requested s 6 tag [b, x, y, z]) :
    exec .startCall s = .next (replied tag 6 (startCallOwner [b, x, y, z] (dropHead .consoleRx s)).2
      (startCallOwner [b, x, y, z] (dropHead .consoleRx s)).1) := congrArg _ (handle_of_requested h _)

theorem startCall_refused {r : Reason} (h : Requested s 6 tag [b, x, y, z])
    (htests : startCallTests (dropHead .consoleRx s) b (word24 x y z) = .error r) :
    RefusedWith .startCall s 6 tag r := by
  have howner : startCallOwner [b, x, y, z] (dropHead .consoleRx s) = (dropHead .consoleRx s, refuse r) := by
    rw [startCallOwner, show startCallTests (dropHead .consoleRx s) (byteAt [b, x, y, z] 0) (argAreas [b, x, y, z] 1)
      = .error r from htests]
  have hexec := exec_startCall_of_requested h
  rwa [howner] at hexec

theorem startCall_admitted {u : State} {reached : Byte} (h : Requested s 6 tag [b, x, y, z])
    (htests : startCallTests (dropHead .consoleRx s) b (word24 x y z) = .ok (e, p))
    (hnum : numberInUse s.calls s.calls.nextNumber = false)
    (hadmit : settle (admitCall e p .request (word24 x y z) (dropHead .consoleRx s)) = u)
    (hreached : reachedState u e s.calls.nextNumber = reached) :
    DoneWith .startCall s 6 tag [byteOf s.calls.nextNumber, reached] u := by
  have howner : startCallOwner [b, x, y, z] (dropHead .consoleRx s)
      = (u, doneWith [byteOf s.calls.nextNumber, reached]) := by
    rw [startCallOwner, show startCallTests (dropHead .consoleRx s) (byteAt [b, x, y, z] 0) (argAreas [b, x, y, z] 1)
      = .ok (e, p) from htests]
    dsimp only
    rw [dropHead_calls, freeNumber_of_unused hnum, show argAreas [b, x, y, z] 1 = word24 x y z from rfl, hadmit,
      hreached]
  have hexec := exec_startCall_of_requested h
  rwa [howner] at hexec

theorem reachedState_of_call {u : State} {c : Call} (h : callAt u e = some c) :
    reachedState u e c.number = if c.running then 0 else 1 := by rw [reachedState, h]; exact if_pos rfl

theorem reachedState_of_none {u : State} (n : Nat) (h : callAt u e = none) : reachedState u e n = 2 := by
  rw [reachedState, h]

/-- The tests of START-CALL in order, and a call that nothing blocks (R145, R146). -/
theorem startCallTested : Parts.StartCallTested := by
  intro s tag b x y z hreq refused areas named
  refine ⟨fun hb => startCall_refused hreq ?_, fun p hp => ?_⟩
  · rw [startCallTests, programIdOf_of_large hb]
  intro cls open_ calm full
  have hid : programIdOf b = some p := programIdOf_of_val hp
  have hordinary {r : Reason} (hnamed : named) (h : ordinaryTests (dropHead .consoleRx s) p = .error r) : refused r :=
    startCall_refused hreq (by rw [startCallTests_ordinary (s := dropHead .consoleRx s) hid hnamed, h]; rfl)
  refine ⟨fun hnot => ?unnamed, fun hnamed hclass => ?reserved, fun hnamed hclass hclosed => ?phase,
    fun hnamed hclass hopen hstage => ?stage, fun hnamed hclass hopen hcalm hfull => ?limit,
    fun hnamed hclass hopen hcalm e he hfree hbelow hlist hfreed hnone => ?starts⟩
  case unnamed => exact startCall_refused hreq (startCallTests_areas (s := dropHead .consoleRx s) hid hnot)
  case reserved => exact hordinary hnamed (ordinaryTests_class (s := dropHead .consoleRx s) hclass)
  case phase => exact hordinary hnamed (ordinaryTests_phase (s := dropHead .consoleRx s) hclass hclosed)
  case stage => exact hordinary hnamed (ordinaryTests_stage (s := dropHead .consoleRx s) hclass hopen (not_not.mp hstage))
  case limit => exact hordinary hnamed (ordinaryTests_full (s := dropHead .consoleRx s) hclass hopen hcalm hfull)
  case starts =>
    intro st hkind hnum
    have htests : startCallTests (dropHead .consoleRx s) b (word24 x y z) = .ok (e, p) := by
      rw [startCallTests_ordinary (s := dropHead .consoleRx s) hid hnamed,
        ordinaryTests_passed (s := dropHead .consoleRx s) hclass hopen hcalm he hfree hbelow]
      rfl
    have hadmit := admitCall_free (s := dropHead .consoleRx s) (e := e) (p := p) (o := .request) (areas := areas) hfree
      hlist hnone hkind hnum
    have hset := (congrArg settle hadmit).trans (settle_of_quiet (by exact hfreed))
    have hreached := reachedState_of_call (u := settle _) (c := startedNew (dropHead .consoleRx s) p .request areas)
      ((congrArg (callAt · e) hset).trans (putAt_same _ _ _))
    refine ⟨_, startCall_admitted hreq htests hnum hset (hset ▸ hreached), ?_,
      putAt_same _ _ _, fun d hd => putAt_other _ _ hd, rfl, ?_⟩
    · refine onlyTouches_trans (onlyTouches_mono (by simp) (dropHead_onlyTouches .consoleRx s)) ?_
      exact onlyTouches_trans (onlyTouches_mono (by simp) (writeRecord_onlyTouches _ _ _ _ _))
        (onlyTouches_mono (by simp) (onlyTouches_withCalls _ _))
    · rw [withCalls_log, writeRecord_log, byteOf_programId hp]
      rfl

/-! ### CANCEL-CALL -/

theorem exec_cancelCall_of_requested (h : Requested s 7 tag [b]) :
    exec .cancelCall s = .next (replied tag 7 (cancelCallOwner [b] (dropHead .consoleRx s)).2
      (cancelCallOwner [b] (dropHead .consoleRx s)).1) := congrArg _ (handle_of_requested h _)

/-- Whether the call in an entry has a number. -/
def numbered (c : Option Call) (n : Nat) : Bool :=
  match c with
  | some c => c.number = n
  | none => false

theorem numbered_iff {c : Option Call} {n : Nat} : numbered c n = true ↔ ∃ x, c = some x ∧ x.number = n := by
  cases c <;> simp [numbered]

theorem entryOfNumber_eq (s : State) (n : Nat) :
    entryOfNumber s n = (List.finRange 10).find? fun e => numbered (callAt s e) n := rfl

theorem entryOfNumber_none {n : Nat} (h : ∀ (e : EntryId) (c : Call), callAt s e = some c → c.number ≠ n) :
    entryOfNumber s n = none := by
  rw [entryOfNumber_eq, List.find?_eq_none]
  intro e _ hnum
  obtain ⟨c, hc, hn⟩ := numbered_iff.mp hnum
  exact h e c hc hn

theorem entryOfNumber_only {n : Nat} {c : Call} (hc : callAt s e = some c) (hn : c.number = n)
    (honly : ∀ (d : EntryId) (x : Call), callAt s d = some x → x.number = n → d = e) : entryOfNumber s n = some e := by
  rw [entryOfNumber_eq]
  cases hfind : (List.finRange 10).find? fun e => numbered (callAt s e) n with
  | none =>
    exact absurd (numbered_iff.mpr ⟨c, hc, hn⟩) (List.find?_eq_none.mp hfind e (List.mem_finRange e))
  | some d =>
    have hd : numbered (callAt s d) n = true := List.find?_some (p := fun e => numbered (callAt s e) n) hfind
    obtain ⟨x, hx, hxn⟩ := numbered_iff.mp hd
    rw [honly d x hx hxn]

/-- The tests of CANCEL-CALL, and the ordinary call that ends (R156). -/
theorem cancelCallTested : Parts.CancelCallTested := by
  intro s tag b hreq
  have hexec := exec_cancelCall_of_requested hreq
  refine ⟨fun hnone => ?none, fun e c hc hn honly => ⟨fun hlow => ?reserved, fun hhigh => ?ends⟩⟩
  case none =>
    have howner : cancelCallOwner [b] (dropHead .consoleRx s) = (dropHead .consoleRx s, refuse .noSuchCall) := by
      rw [cancelCallOwner, show entryOfNumber (dropHead .consoleRx s) (byteAt [b] 0).toNat = none from
        entryOfNumber_none hnone]
    rwa [howner] at hexec
  all_goals
    have hentry : entryOfNumber (dropHead .consoleRx s) (byteAt [b] 0).toNat = some e := entryOfNumber_only hc hn honly
  case reserved =>
    have howner : cancelCallOwner [b] (dropHead .consoleRx s) = (dropHead .consoleRx s, refuse .reservedProgram) := by
      rw [cancelCallOwner, hentry]
      exact if_pos hlow
    rwa [howner] at hexec
  case ends =>
    have howner : cancelCallOwner [b] (dropHead .consoleRx s)
        = (endCall .cancelled e (dropHead .consoleRx s), doneWith []) := by
      rw [cancelCallOwner, hentry]
      exact if_neg (Nat.not_lt.mpr hhigh)
    rw [howner] at hexec
    exact ⟨_, hexec, callAt_endCall_same _ _ _,
      onlyTouches_trans (onlyTouches_mono (by simp) (dropHead_onlyTouches .consoleRx s)) (endCall_onlyTouches _ _ _)⟩

end

end Sys2Proof.Machine
end


section
/-! A call takes an area from a holder of lower priority (R146 case 1, R147). -/

namespace Sys2Proof.Machine

/-! ### How far an act has changed the calls -/

/-- The frames waiting in RACK-EXPRESS. -/
def expressFrames (s : State) : List Frame := s.links.queues[QueueId.rackExpress.ix].frames

/-- An act that began in `s` has so far left the calls as `cs`, the log as `g` and the frames of RACK-EXPRESS as `fs`,
and has touched nothing but those three parts. -/
structure CallsAct (s : State) (cs : CallState) (g : LogState) (fs : List Frame) (t : State) : Prop where
  calls : t.calls = cs
  log : t.log = g
  frames : expressFrames t = fs
  touches : OnlyTouches [.calls, .links, .log] s t

/-- A record of the present time, to be filed next in a log. -/
def stamped (s : State) (g : LogState) (k : EventKind) (x y z : Byte) : EventRecord := ⟨g.next, houseClock s, k, x, y, z⟩

/-- The flash states with those of some areas set. -/
def flashedAs (areas : AreaSet) (f : FlashState) (v : Vector FlashState 24) : Vector FlashState 24 :=
  tabulate 24 fun a => if hasArea areas a then f else v[a]

theorem flashedAs_none (f : FlashState) (v : Vector FlashState 24) : flashedAs 0 f v = v := by
  ext i hi
  have h := tabulate_get (fun a => if hasArea 0 a then f else v[a]) ⟨i, hi⟩
  rw [hasArea_zero] at h
  exact h

section
variable {s t : State} {cs : CallState} {g : LogState} {fs : List Frame}

theorem putAt_comm {α : Type} {n : Nat} (v : Vector α n) {i j : Fin n} (h : i ≠ j) (x y : α) :
    putAt (putAt v j x) i y = putAt (putAt v i y) j x := by
  ext k hk
  simp only [putAt, Vector.getElem_set]
  split_ifs with hi hj
  · exact absurd (Fin.ext (hi.trans hj.symm)) h
  all_goals rfl

theorem callsAct_refl (s : State) : CallsAct s s.calls s.log (expressFrames s) s := ⟨rfl, rfl, rfl, onlyTouches_refl _ s⟩

theorem callsAct_dropHead {q : QueueId} (hq : q ≠ .rackExpress) (s : State) :
    CallsAct s s.calls s.log (expressFrames s) (dropHead q s) :=
  ⟨rfl, rfl, by rw [expressFrames, dropHead_links, popFrame_other hq.symm]; rfl,
    onlyTouches_mono (by simp) (dropHead_onlyTouches q s)⟩

/-- The units of RACK-EXPRESS's frames decide its free bytes. -/
theorem freeBytes_of_frames {u : State} (hframes : expressFrames u = expressFrames s) (htables : u.tables = s.tables) :
    freeBytes u.tables u.links .rackExpress = freeBytes s.tables s.links .rackExpress := by
  unfold expressFrames at hframes
  rw [freeBytes, freeBytes, occupied, occupied, hframes, htables]

/-- Room for a command to the unit of an area, where it has one. -/
abbrev UnitHasRoom (s : State) (a : AreaId) : Prop :=
  unitOf s.tables a = none ∨ 12 ≤ freeBytes s.tables s.links .rackExpress

namespace CallsAct

theorem tables (h : CallsAct s cs g fs t) : t.tables = s.tables := h.touches .tables (by decide)

theorem now (h : CallsAct s cs g fs t) : t.now = s.now := h.touches .now (by decide)

theorem entry (h : CallsAct s cs g fs t) (e : EntryId) : callAt t e = cs.table[e] := by rw [callAt, h.calls]

theorem cast {ds : CallState} (h : CallsAct s cs g fs t) (he : cs = ds) : CallsAct s ds g fs t := he ▸ h

theorem withCalls (h : CallsAct s cs g fs t) (x : CallState) : CallsAct s x g fs (t.withCalls x) :=
  ⟨rfl, h.log, h.frames, onlyTouches_trans h.touches (onlyTouches_mono (by simp) (onlyTouches_withCalls _ _))⟩

theorem put (h : CallsAct s cs g fs t) (e : EntryId) (c : Option Call) :
    CallsAct s { cs with table := putAt cs.table e c } g fs (putCall e c t) := by
  have hcalls := h.calls
  subst hcalls
  exact h.withCalls _

theorem flash (h : CallsAct s cs g fs t) (areas : AreaSet) (f : FlashState) :
    CallsAct s { cs with flash := flashedAs areas f cs.flash } g fs (setFlash areas f t) := by
  have hcalls := h.calls
  subst hcalls
  exact h.withCalls _

theorem record (h : CallsAct s cs g fs t) (k : EventKind) (x y z : Byte) :
    CallsAct s cs (loggedIn g (stamped s g k x y z)) fs (writeRecord k x y z t) where
  calls := (writeRecord_calls _ _ _ _ _).trans h.calls
  log := by
    rw [writeRecord_log, h.log, recordNow, h.log, houseClock, h.now]
    rfl
  frames := by
    rw [expressFrames, writeRecord_queue_other (by decide)]
    exact h.frames
  touches := onlyTouches_trans h.touches (onlyTouches_mono (by simp) (writeRecord_onlyTouches _ _ _ _ _))

theorem stop (h : CallsAct s cs g fs t) {a : AreaId} (hroom : UnitHasRoom t a) :
    CallsAct s cs g (fs ++ (unitOf s.tables a).toList.map stopFrame) (sendToArea cmdStop 0 0 t a) := by
  cases hunit : unitOf t.tables a with
  | none =>
    rw [h.tables] at hunit
    rw [sendToArea_of_none _ _ _ (by rw [h.tables]; exact hunit), hunit]
    exact ⟨h.calls, h.log, h.frames.trans (List.append_nil _).symm, h.touches⟩
  | some u =>
    have hfits : (commandFrame cmdStop 0 0 u).length + 4 ≤ freeBytes t.tables t.links .rackExpress := by
      rw [length_commandFrame]
      exact hroom.resolve_left fun hno => nomatch hno.symm.trans hunit
    rw [sendToArea_of_unit _ _ _ hunit, offer_of_room hfits, ← h.tables, hunit]
    refine ⟨h.calls, h.log, ?_, onlyTouches_trans h.touches (onlyTouches_mono (by simp) (onlyTouches_withLinks _ _))⟩
    rw [expressFrames, withLinks_links, filedIn_same]
    exact congrArg (· ++ [commandFrame cmdStop 0 0 u]) h.frames

theorem take (h : CallsAct s cs g fs t) {w : EntryId} {c : Call} (a : AreaId) (hw : cs.table[w] = some c) :
    CallsAct s { cs with table := putAt cs.table w (some { c with held := c.held ||| oneArea a }) } g fs
      (takeArea w a t) := by
  rw [takeArea_of_some ((h.entry w).trans hw)]
  exact h.put w _

theorem waits (h : CallsAct s cs g fs t) {l : EntryId} {c : Call} (hl : cs.table[l] = some c)
    (hkind : (stepAt s.tables { c with cursor := c.cursor + 1 }).kind = 4) :
    CallsAct s { cs with table := putAt cs.table l (some (atNextWait s c)) } g fs (stepEnds l t) := by
  rw [stepEnds_wait ((h.entry l).trans hl) (by rw [h.tables]; exact hkind)]
  have hwait : atNextWait t c = atNextWait s c := by rw [atNextWait, h.tables, h.now, atNextWait]
  rw [hwait]
  exact h.put l _

/-- A call that holds no area and is not in the pending list ends without a STOP. -/
theorem ends (h : CallsAct s cs g fs t) {o : CallOutcome} {l : EntryId} {c : Call} (hl : cs.table[l] = some c)
    (hstops : stopsUnits s.tables o c = false) :
    CallsAct s { cs with
        table := putAt cs.table l none
        pendingList := cs.pendingList.filter fun x => x != l
        flash := flashedAs c.held .inactive cs.flash
        freed := cs.freed || cs.pendingList.contains l || c.held != 0 }
      (loggedIn g (stamped s g .callEnded (byteOf c.number) o.code (byteOf c.program.val))) fs (endCall o l t) := by
  rw [endCall_silent ((h.entry l).trans hl) (by rw [h.tables]; exact hstops)]
  have hcalls := h.calls
  subst hcalls
  exact ((h.withCalls { t.calls with
    table := putAt t.calls.table l none
    pendingList := t.calls.pendingList.filter fun x => x != l
    freed := t.calls.freed || t.calls.pendingList.contains l || c.held != 0 }).flash c.held .inactive).record .callEnded
      (byteOf c.number) o.code (byteOf c.program.val)

/-- A call that holds no area and waits for none ends. -/
theorem endsEmpty (h : CallsAct s cs g fs t) {o : CallOutcome} {l : EntryId} {c : Call} (hl : cs.table[l] = some c)
    (hstops : stopsUnits s.tables o c = false) (hheld : c.held = 0) (hlist : cs.pendingList = []) :
    CallsAct s { cs with table := putAt cs.table l none }
      (loggedIn g (stamped s g .callEnded (byteOf c.number) o.code (byteOf c.program.val))) fs (endCall o l t) := by
  refine (h.ends hl hstops).cast ?_
  rw [hheld, flashedAs_none, hlist]
  cases cs
  simp_all

/-- A call that has taken its areas begins to run, at a WAIT. -/
theorem begins (h : CallsAct s cs g fs t) {e : EntryId} {c d : Call} {u : State} (hu : callAt u e = some d)
    (hseized : (areasOf d.requested).foldl (seizeArea e) u = t) (hc : cs.table[e] = some c)
    (hkind : (stepAt s.tables { c with cursor := 0 }).kind = 4) :
    CallsAct s { cs with table := putAt cs.table e (some { c with
        running := true
        cursor := 0
        stepTimer := some (s.now + (word16 (stepAt s.tables { c with cursor := 0 }).a
          (stepAt s.tables { c with cursor := 0 }).b).toNat * 5000)
        awaiting := []
        flash := none }) }
      (loggedIn g (stamped s g .callStarted (byteOf c.number) (byteOf c.program.val) c.origin.code)) fs
      (startRunning e u) := by
  have hcall : callAt t e = some c := (h.entry e).trans hc
  have hput := (h.put e (some { moveCursor c 0 with running := true })).record .callStarted (byteOf c.number)
    (byteOf c.program.val) c.origin.code
  simp only [startRunning, hu, hseized, hcall]
  rw [show jumpBound = 511 + 1 from rfl, runSteps_wait (c := { moveCursor c 0 with running := true }) 511
    ((hput.entry e).trans (putAt_same _ _ _)) (by rw [hput.tables]; exact hkind), beginWait, hput.tables, afterUnits,
    hput.now]
  refine (hput.put e _).cast ?_
  exact congrArg (fun v => { cs with table := v }) (putAt_putAt _ _ _ _)

end CallsAct

end

/-! ### The loser -/

section
variable {s t : State} {cs : CallState} {g : LogState} {fs : List Frame} {l w : EntryId} {c d : Call} {a : AreaId}

theorem awaiting_loseArea (T : Tables) (a : AreaId) (c : Call) :
    (loseArea T a c).awaiting = c.awaiting.filter fun u => decide (unitOf T a ≠ some u) := by
  rw [loseArea]
  cases unitOf T a with
  | none => simp
  | some u =>
    refine List.filter_congr fun x _ => ?_
    simp [bne, eq_comm (a := u), BEq.beq]

/-- The calls after a call has lost an area that its unit was told to stop. -/
def withLost (cs : CallState) (l : EntryId) (a : AreaId) (c : Call) : CallState :=
  { cs with table := putAt cs.table l (some c), flash := flashedAs (oneArea a) .inactive cs.flash }

theorem callsAct_areaLost (h : CallsAct s cs g fs t) (hroom : UnitHasRoom t a)
    (hstays : (loseArea s.tables a c).held = 0 ∨ c.awaiting = [] ∨ (loseArea s.tables a c).awaiting ≠ []) :
    CallsAct s (withLost cs l a (loseArea s.tables a c)) g (fs ++ (unitOf s.tables a).toList.map stopFrame)
      (areaLost l c a t) := by
  rw [areaLost]
  rw [h.tables, if_neg]
  · exact ((h.stop hroom).put l _).flash _ _
  · simp only [Bool.and_eq_true, bne_iff_ne, List.isEmpty_iff, Bool.not_eq_true', List.isEmpty_eq_false_iff]
    rintro ⟨⟨hheld, hempty⟩, hsome⟩
    exact hstays.elim hheld fun h => h.elim hsome fun h => h hempty

theorem callsAct_areaLost_waits (h : CallsAct s cs g fs t) (hroom : UnitHasRoom t a)
    (hheld : (loseArea s.tables a c).held ≠ 0) (hsome : c.awaiting ≠ []) (hempty : (loseArea s.tables a c).awaiting = [])
    (hkind : (stepAt s.tables { c with cursor := c.cursor + 1 }).kind = 4) :
    CallsAct s (withLost cs l a (atNextWait s (loseArea s.tables a c))) g
      (fs ++ (unitOf s.tables a).toList.map stopFrame) (areaLost l c a t) := by
  rw [areaLost]
  rw [h.tables, if_pos]
  · have hlost := ((h.stop hroom).put l (some (loseArea s.tables a c))).flash (oneArea a) .inactive
    exact (hlost.waits (putAt_same _ _ _) hkind).cast
      (congrArg (fun v => { cs with table := v, flash := flashedAs (oneArea a) .inactive cs.flash }) (putAt_putAt _ _ _ _))
  · simp only [Bool.and_eq_true, bne_iff_ne, List.isEmpty_iff, Bool.not_eq_true', List.isEmpty_eq_false_iff]
    exact ⟨⟨hheld, hempty⟩, hsome⟩

theorem or_self_area (x : AreaSet) (a : AreaId) : (x ||| oneArea a) ||| oneArea a = x ||| oneArea a := by
  rw [BitVec.or_assoc, BitVec.or_self]

/-- The area changes hands, and its loser goes on (R147). -/
theorem callsAct_seize {x : Call} (h : CallsAct s cs g fs t) (hholder : holderOf cs a = some l) (hl : l ≠ w)
    (hc : cs.table[l] = some c) (hw : cs.table[w] = some d)
    (hlost : CallsAct s (withLost cs l a x) g (fs ++ (unitOf s.tables a).toList.map stopFrame) (areaLost l c a t))
    (hheld : (loseArea s.tables a c).held ≠ 0) :
    CallsAct s { withLost cs l a x with
        table := putAt (withLost cs l a x).table w (some { d with held := d.held ||| oneArea a }) }
      g (fs ++ (unitOf s.tables a).toList.map stopFrame) (seizeArea w t a) := by
  have hw' : (withLost cs l a x).table[w] = some d := (putAt_other _ _ hl.symm).trans hw
  have htaken := hlost.take a hw'
  rw [seizeArea, preempt_of_holder true (by rw [h.calls]; exact hholder) hl ((h.entry l).trans hc)]
  dsimp only
  rw [h.tables, if_neg hheld, if_pos rfl]
  refine (htaken.take a (putAt_same _ _ _)).cast ?_
  rw [or_self_area]
  exact congrArg (fun v => { withLost cs l a x with table := v }) (putAt_putAt _ _ _ _)

/-- The area changes hands, and its loser, which held no other, ends PREEMPTED (R147). -/
theorem callsAct_seize_ends (h : CallsAct s cs g fs t) (hholder : holderOf cs a = some l) (hl : l ≠ w)
    (hc : cs.table[l] = some c) (hw : cs.table[w] = some d) (hroom : UnitHasRoom t a) (hlist : cs.pendingList = [])
    (hheld : (loseArea s.tables a c).held = 0) :
    CallsAct s { withLost cs l a (loseArea s.tables a c) with
        table := putAt (putAt (putAt cs.table l (some (loseArea s.tables a c))) w
          (some { d with held := d.held ||| oneArea a })) l none }
      (loggedIn g (stamped s g .callEnded (byteOf c.number) 2 (byteOf c.program.val)))
      (fs ++ (unitOf s.tables a).toList.map stopFrame) (seizeArea w t a) := by
  have hlost := callsAct_areaLost (l := l) (c := c) h hroom (.inl hheld)
  have hw' : (withLost cs l a (loseArea s.tables a c)).table[w] = some d := (putAt_other _ _ hl.symm).trans hw
  have hl' : (putAt (withLost cs l a (loseArea s.tables a c)).table w
      (some { d with held := d.held ||| oneArea a }))[l] = some (loseArea s.tables a c) :=
    (putAt_other _ _ hl).trans (putAt_same _ _ _)
  have hended := (hlost.take a hw').endsEmpty (o := .preempted) hl' rfl hheld hlist
  have hw'' : (putAt (putAt (withLost cs l a (loseArea s.tables a c)).table w
      (some { d with held := d.held ||| oneArea a })) l none)[w] = some { d with held := d.held ||| oneArea a } :=
    (putAt_other _ _ hl.symm).trans (putAt_same _ _ _)
  have htaken := hended.take a hw''
  rw [seizeArea, preempt_of_holder true (by rw [h.calls]; exact hholder) hl ((h.entry l).trans hc)]
  dsimp only
  rw [h.tables, if_pos hheld, if_pos rfl]
  refine htaken.cast ?_
  rw [or_self_area]
  refine congrArg (fun v => { withLost cs l a (loseArea s.tables a c) with table := v }) ?_
  exact (putAt_comm _ hl.symm _ _).trans (congrArg (putAt · l none) (putAt_putAt _ _ _ _))

end

end Sys2Proof.Machine
end


section
/-! START-CALL with the pre-emption of a holder (R146 case 1, R147). -/

namespace Sys2Proof.Machine

theorem flashedAs_get (areas : AreaSet) (f : FlashState) (v : Vector FlashState 24) (a : AreaId) :
    (flashedAs areas f v)[a] = if areas.getLsbD a.val then f else v[a] := tabulate_get _ _

theorem flashedAs_one (f : FlashState) (v : Vector FlashState 24) (a : AreaId) : (flashedAs (oneArea a) f v)[a] = f :=
  (flashedAs_get _ _ _ _).trans (if_pos ((hasArea_oneArea a a).trans (decide_eq_true rfl)))

theorem CallsAct.room {s t : State} {cs : CallState} {g : LogState} {a : AreaId}
    (h : CallsAct s cs g (expressFrames s) t) (hroom : UnitHasRoom s a) : UnitHasRoom t a :=
  hroom.imp (fun hnone => by rwa [h.tables]) fun hfits => by rwa [freeBytes_of_frames h.frames h.tables]

theorem areasOf_oneArea (a : AreaId) : areasOf (oneArea a) = [a] := by
  have hall : ∀ a : AreaId, areasOf (oneArea a) = [a] := by decide
  exact hall a

section
variable {s t : State} {p : ProgramId} {e l : EntryId} {o : Origin} {areas : AreaSet} {c : Call} {a : AreaId}
  {cs : CallState} {g : LogState} {fs : List Frame} {tag b x y z : Byte}

/-- The calls with a new one placed, as an act has left the rest. -/
theorem callsAct_placed (h : CallsAct s s.calls g fs t) (hnum : numberInUse s.calls s.calls.nextNumber = false) :
    CallsAct s (withPlaced s e p o areas) g fs (placeCall e p o areas t) := by
  have hplaced : withPlaced t e p o areas = withPlaced s e p o areas := by
    rw [withPlaced, h.calls, h.tables, withPlaced]
  rw [placeCall_unused (by rw [h.calls]; exact hnum), hplaced]
  exact h.withCalls _

theorem table_placed (s : State) (e : EntryId) (p : ProgramId) (o : Origin) (areas : AreaSet) :
    (withPlaced s e p o areas).table[e]
      = some (newCall s.calls.nextNumber p s.tables.programs[p].cls.toNat o areas) := putAt_same _ _ _

theorem table_placed_other {d : EntryId} (hd : d ≠ e) :
    (withPlaced s e p o areas).table[d] = callAt s d := putAt_other _ _ hd

theorem entry_ne (hfree : callAt s e = none) (hc : callAt s l = some c) : l ≠ e := by
  rintro rfl
  exact nomatch hfree.symm.trans hc

/-- An area is blocked by its holder alone where no call is PENDING. -/
theorem areaBlocked_of_holder (h : CallsAct s cs g fs t) (hholder : holderOf cs a = some l) (hc : cs.table[l] = some c)
    (n : Nat) : areaBlocked t n [] a = decide (c.priority ≤ n) := by
  rw [areaBlocked_nonePending, h.calls, hholder]
  exact congrArg (fun m => decide (m ≤ n)) (priorityAt_some ((h.entry l).trans hc))

theorem areaBlocked_of_none (h : CallsAct s cs g fs t) (hholder : holderOf cs a = none) (n : Nat) :
    areaBlocked t n [] a = false := by
  rw [areaBlocked_nonePending, h.calls, hholder]
  rfl

theorem startCallTests_passed (hp : b.toNat = p.val) (hnamed : AreasNamed s areas)
    (hclass : 2 ≤ s.tables.programs[p].cls.toNat) (hopen : s.phase.phase ∉ [.maintenance, .dark, .recovery])
    (hcalm : s.effects.stage ≠ .evacuate) (he : 2 ≤ e.val) (hfree : callAt s e = none)
    (hbelow : ∀ d : EntryId, 2 ≤ d.val → d.val < e.val → callAt s d ≠ none) :
    startCallTests s b areas = .ok (e, p) := by
  rw [startCallTests_ordinary (programIdOf_of_val hp) hnamed, ordinaryTests_passed hclass hopen hcalm he hfree hbelow]
  rfl

theorem oneArea_ne_zero (a : AreaId) : oneArea a ≠ 0 := fun hzero => by
  have hself := hasArea_oneArea a a
  rw [hzero, hasArea_zero] at hself
  simp at hself

theorem areasNamed_oneArea (hkind : s.tables.areas[a].kind ≠ 0) : AreasNamed s (oneArea a) := by
  refine ⟨oneArea_ne_zero a, fun b hb => ?_⟩
  obtain rfl := of_decide_eq_true ((hasArea_oneArea a b).symm.trans hb)
  exact hkind

/-- A call that takes one area and begins at a WAIT: what its admission leaves, given what the taking leaves. -/
theorem startCall_takes (hreq : Requested s 6 tag [b, x, y, z]) (hp : b.toNat = p.val)
    (htests : startCallTests (dropHead .consoleRx s) b (word24 x y z) = .ok (e, p)) (harea : word24 x y z = oneArea a)
    (hnum : numberInUse s.calls s.calls.nextNumber = false) (hlist : s.calls.pendingList = [])
    (hfree : callAt s e = none) (hholder : holderOf s.calls a = some l) (hc : callAt s l = some c)
    (hlow : s.tables.programs[p].cls.toNat < c.priority) (hkind : s.tables.programs[p].steps[0].kind = 4)
    (hseized : CallsAct s cs g fs (seizeArea e (placeCall e p .request (oneArea a) (dropHead .consoleRx s)) a))
    (hnew : cs.table[e] = some { newCall s.calls.nextNumber p s.tables.programs[p].cls.toNat .request (oneArea a) with
      held := 0 ||| oneArea a }) (hfreed : cs.freed = false) :
    ∃ u, DoneWith .startCall s 6 tag [byteOf s.calls.nextNumber, 0] u
      ∧ CallsAct s { cs with table := putAt cs.table e (some (startedNew s p .request (oneArea a))) }
          (loggedIn g (stamped s g .callStarted (byteOf s.calls.nextNumber) b 0)) fs u := by
  have hplaced : CallsAct s (withPlaced s e p .request (oneArea a)) s.log (expressFrames s)
      (placeCall e p .request (oneArea a) (dropHead .consoleRx s)) :=
    callsAct_placed (callsAct_dropHead (by decide) s) hnum
  have hblocked : areaBlocked (placeCall e p .request (oneArea a) (dropHead .consoleRx s))
      s.tables.programs[p].cls.toNat [] a = false := by
    rw [areaBlocked_of_holder hplaced ((holderOf_placed hfree a).trans hholder)
      ((table_placed_other (entry_ne hfree hc)).trans hc)]
    exact decide_eq_false (Nat.not_le.mpr hlow)
  have hadmit : admitCall e p .request (oneArea a) (dropHead .consoleRx s)
      = startRunning e (placeCall e p .request (oneArea a) (dropHead .consoleRx s)) := by
    refine if_pos ?_
    rw [areasOf_oneArea, List.all_cons, List.all_nil, dropHead_tables, aheadOfNew_nonePending _
      ((congrArg CallState.pendingList hplaced.calls).trans hlist), hblocked]
    rfl
  have hstep : stepAt s.tables { newCall s.calls.nextNumber p s.tables.programs[p].cls.toNat .request (oneArea a) with
      held := 0 ||| oneArea a, cursor := 0 } = s.tables.programs[p].steps[0] := stepAt_of_index (i := 0) s.tables rfl
  have hbegun := hseized.begins (u := placeCall e p .request (oneArea a) (dropHead .consoleRx s))
    (d := newCall s.calls.nextNumber p s.tables.programs[p].cls.toNat .request (oneArea a))
    ((hplaced.entry e).trans (table_placed s e p _ _)) (by rw [newCall, areasOf_oneArea]; rfl) hnew
    (by rw [hstep]; exact hkind)
  rw [hstep] at hbegun
  have hzero : (0 : AreaSet) ||| oneArea a = oneArea a := BitVec.zero_or
  have hset : settle (admitCall e p .request (word24 x y z) (dropHead .consoleRx s))
      = startRunning e (placeCall e p .request (oneArea a) (dropHead .consoleRx s)) := by
    rw [harea, hadmit]
    exact settle_of_quiet ((congrArg CallState.freed hbegun.calls).trans hfreed)
  have hcall : callAt (startRunning e (placeCall e p .request (oneArea a) (dropHead .consoleRx s))) e
      = some (startedNew s p .request (oneArea a)) := by
    refine (hbegun.entry e).trans ((putAt_same _ _ _).trans (congrArg some ?_))
    rw [hzero]
    rfl
  refine ⟨_, startCall_admitted hreq htests hnum hset (reachedState_of_call hcall), ?_⟩
  have hid := byteOf_programId hp
  rw [hzero] at hbegun
  rw [← hid]
  exact hbegun

/-- A call takes its one area from a holder of lower priority (R146 case 1, R147). -/
theorem callPreempts : Parts.CallPreempts := by
  intro s tag b x y z p e l c a hreq hp hclass hopen hcalm harea hkind he hfree hbelow hholder hc hlow hlist hfreed
    hnum hroom hwait n st next kept left started ended taken
  have hplaced : CallsAct s (withPlaced s e p .request (oneArea a)) s.log (expressFrames s)
      (placeCall e p .request (oneArea a) (dropHead .consoleRx s)) :=
    callsAct_placed (callsAct_dropHead (by decide) s) hnum
  have hne : l ≠ e := entry_ne hfree hc
  have hc' : (withPlaced s e p .request (oneArea a)).table[l] = some c := (table_placed_other hne).trans hc
  have hholder' : holderOf (withPlaced s e p .request (oneArea a)) a = some l := (holderOf_placed hfree a).trans hholder
  have hroom' : UnitHasRoom (placeCall e p .request (oneArea a) (dropHead .consoleRx s)) a := hplaced.room hroom
  have hnew := table_placed s e p .request (oneArea a)
  have htests : startCallTests (dropHead .consoleRx s) b (word24 x y z) = .ok (e, p) := by
    rw [harea]
    exact startCallTests_passed (s := dropHead .consoleRx s) hp (areasNamed_oneArea hkind) hclass hopen hcalm he hfree
      hbelow
  have hawaiting : (loseArea s.tables a c).awaiting = left := awaiting_loseArea s.tables a c
  have hstarts := fun {cs g} => startCall_takes (cs := cs) (g := g)
    (fs := expressFrames s ++ (unitOf s.tables a).toList.map stopFrame) hreq hp htests harea hnum hlist hfree hholder hc
    hlow hwait
  have hgoes {x : Call} (hkept : (loseArea s.tables a c).held ≠ 0)
      (hlost : CallsAct s (withLost (withPlaced s e p .request (oneArea a)) l a x) s.log
        (expressFrames s ++ (unitOf s.tables a).toList.map stopFrame)
        (areaLost l c a (placeCall e p .request (oneArea a) (dropHead .consoleRx s)))) :
      taken fun u => callAt u l = some x ∧ u.log = loggedIn s.log (started s.log.next) := by
    have hseized := callsAct_seize hplaced hholder' hne hc' hnew hlost hkept
    obtain ⟨u, hdone, hu⟩ := hstarts hseized (putAt_same _ _ _) hfreed
    have hentry := hu.entry
    have hflash := congrArg CallState.flash hu.calls
    refine ⟨u, hdone, (hentry e).trans (putAt_same _ _ _), fun d hd hdl => ?_, ?_, hu.frames, ?_, hu.log⟩
    · exact (hentry d).trans ((putAt_other _ _ hd).trans ((putAt_other _ _ hd).trans
        ((putAt_other _ _ hdl).trans (table_placed_other hd))))
    · exact (congrArg (fun v : Vector FlashState 24 => v[a]) hflash).trans (flashedAs_one _ _ _)
    · exact (hentry l).trans ((putAt_other _ _ hne).trans ((putAt_other _ _ hne).trans (putAt_same _ _ _)))
  refine ⟨fun hkept => ?ends, fun hkept hstays => ?goesOn, fun hkept hsome hleft hnext => ?stepEnds⟩
  case ends =>
    have hseized := callsAct_seize_ends hplaced hholder' hne hc' hnew hroom' hlist hkept
    obtain ⟨u, hdone, hu⟩ := hstarts hseized
      ((putAt_other _ _ hne.symm).trans (putAt_same _ _ _)) hfreed
    have hentry := hu.entry
    have hflash := congrArg CallState.flash hu.calls
    refine ⟨u, hdone, (hentry e).trans (putAt_same _ _ _), fun d hd hdl => ?_, ?_, hu.frames, ?_, hu.log⟩
    · exact (hentry d).trans ((putAt_other _ _ hd).trans ((putAt_other _ _ hdl).trans ((putAt_other _ _ hd).trans
        ((putAt_other _ _ hdl).trans (table_placed_other hd)))))
    · exact (congrArg (fun v : Vector FlashState 24 => v[a]) hflash).trans (flashedAs_one _ _ _)
    · exact (hentry l).trans ((putAt_other _ _ hne).trans (putAt_same _ _ _))
  case goesOn =>
    have hloser : loseArea s.tables a c = { c with held := kept, awaiting := left } := by
      rw [← hawaiting]
      rfl
    exact hloser ▸ hgoes hkept (callsAct_areaLost hplaced hroom' (.inr (hawaiting ▸ hstays)))
  case stepEnds =>
    exact hgoes hkept (callsAct_areaLost_waits hplaced hroom' hkept hsome (hawaiting.trans hleft) hnext)

end

/-- Settles O44, by the tests in order and the exact effect of each act on the calls, RACK-EXPRESS and the log. -/
theorem startAndCancelTested : Obligations.StartAndCancelTested := ⟨startCallTested, cancelCallTested, callPreempts⟩

end Sys2Proof.Machine
end


section
/-! A call that must wait, and its start deadline (R146 cases 2 and 3, R149). -/

namespace Sys2Proof.Machine

/-! ### A free entry stays free while the pending list is examined -/

section
variable {s : State} {e w : EntryId}

theorem free_takeArea {a : AreaId} (h : callAt s e = none) : callAt (takeArea w a s) e = none := by
  by_cases he : e = w
  · subst he
    rwa [takeArea_of_none h]
  · exact (callAt_takeArea_other a he).trans h

theorem free_putCall {c d : Call} (hc : callAt s w = some c) (h : callAt s e = none) :
    callAt (putCall w (some d) s) e = none := by
  have he : e ≠ w := by
    rintro rfl
    exact nomatch h.symm.trans hc
  exact (callAt_putCall_other _ s he).trans h

theorem free_startRunning (h : callAt s e = none) : callAt (startRunning w s) e = none := by
  unfold startRunning
  split
  · exact h
  next c0 _ =>
    have hseized : callAt ((areasOf c0.requested).foldl (seizeArea w) s) e = none :=
      foldl_keeps (P := fun t => callAt t e = none) (fun t a ht => seizeArea_rule (Q := fun t => callAt t e = none)
        (fun hq hst => hst.none hq) free_takeArea (fun _ => ht) (fun _ => ht)
        fun _ _ _ _ hc => (shrinks_areaLost a hc).none ht) _ _ h
    dsimp only
    split
    · exact hseized
    next c hc =>
      refine (shrinks_runSteps _ _ _).none ((shrinks_record _ _ _ _ _).none (free_putCall hc hseized))

theorem free_examineCall (h : callAt s e = none) : callAt (examineCall s w) e = none := by
  unfold examineCall
  split
  · exact h
  next c hc =>
    refine ite_keeps (P := fun t => callAt t e = none) h (ite_keeps (P := fun t => callAt t e = none) h ?_)
    exact free_startRunning (s := State.withCalls _ _) (free_putCall hc h)

theorem free_settle (h : callAt s e = none) : callAt (settle s) e = none := by
  have hfor : ∀ (n : Nat) {s : State}, callAt s e = none → callAt (settleFor n s) e = none := by
    intro n
    induction n with
    | zero => exact fun h => h
    | succ n ih =>
      intro s h
      refine ite_keeps (P := fun t => callAt t e = none) (ih ?_) h
      exact foldl_keeps (P := fun t => callAt t e = none) (fun _ _ ht => free_examineCall ht) _ (s.withCalls _) h
  exact hfor _ h

end

/-! ### A deadline runs out -/

theorem settle_touches (s : State) : OnlyTouches [.calls, .links, .log] s (settle s) :=
  settle_keeps (callsClosed_onlyTouches s) (onlyTouches_refl _ s)

/-- The deadline timer of a PENDING call runs out (R149). -/
theorem deadlineRunsOut : Parts.DeadlineRunsOut := by
  intro s e c hc
  have hexec : exec (.deadlineTimerExpiry e) s = .next (deadlineOut e s) := rfl
  refine ⟨fun hstopped => ?_, fun hruns => ?_⟩
  · rw [hexec, deadlineOut, hc]
    exact congrArg Host.Outcome.next (if_neg (by rw [hstopped]; exact Bool.false_ne_true))
  have hout : deadlineOut e s = settle (endCall .expired e s) := by
    rw [deadlineOut, hc]
    exact if_pos (Option.isSome_iff_ne_none.mpr hruns)
  refine ⟨_, hexec.trans (congrArg _ hout), onlyTouches_trans (endCall_onlyTouches _ _ _) (settle_touches _),
    free_settle (callAt_endCall_same _ _ _), fun hlist hfreed hheld => ?_⟩
  have hended := (callsAct_refl s).ends (o := .expired) hc rfl
  have hempty : s.calls.pendingList.filter (fun x => x != e) = [] := by rw [hlist]; simp
  rw [settle_of_noPending ((congrArg CallState.pendingList hended.calls).trans hempty), withCalls_log, hended.log,
    withCalls_calls, hended.calls]
  refine ⟨?_, rfl⟩
  rw [hempty, hheld, flashedAs_none]
  cases hcalls : s.calls
  simp_all

/-! ### A call that must wait -/

section
variable {s t : State} {p : ProgramId} {e l : EntryId} {c : Call} {a : AreaId} {cs : CallState} {g : LogState}
  {fs : List Frame}

theorem table_unplaced (hfree : callAt s e = none) (o : Origin) (areas : AreaSet) :
    putAt (withPlaced s e p o areas).table e none = s.calls.table := by
  rw [withPlaced, putAt_putAt, ← hfree, callAt]
  simp [putAt]

theorem clearArea_kept (h : CallsAct s cs g fs t) (hholder : holderOf cs a = some l) (hc : cs.table[l] = some c)
    {n : Nat} (hhigh : c.priority ≤ n) : clearArea e n t a = t := by
  rw [clearArea, h.calls, hholder]
  exact if_neg (by rw [priorityAt_some ((h.entry l).trans hc)]; exact Nat.not_lt.mpr hhigh)

/-- A call joins an empty pending list (R146 case 3). -/
theorem CallsAct.joins (h : CallsAct s cs g fs t) (hc : cs.table[e] = some c) (hlist : cs.pendingList = [])
    (priority n : Nat) :
    CallsAct s { cs with
        table := putAt cs.table e (some { c with deadline := some (s.now + n * 100000) }), pendingList := [e] }
      g fs (joinPending e priority n t) := by
  rw [joinPending, (h.entry e).trans hc]
  dsimp only
  rw [h.calls, hlist, afterS, h.now]
  have hput := h.put e (some { c with deadline := some (s.now + n * 100000) })
  have hcalls := hput.calls
  exact (hput.withCalls _).cast (congrArg (fun x : CallState => { x with pendingList := [e] }) hcalls)

theorem areasBlocked_of_mem {n : Nat} {ahead : List EntryId} {areas : AreaSet} (ha : hasArea areas a = true)
    (h : areaBlocked t n ahead a = true) :
    ¬((areasOf areas).all fun b => !areaBlocked t n ahead b) = true := fun hall => by
  have hopen := List.all_eq_true.mp hall a (mem_areasOf.mpr ha)
  rw [h] at hopen
  exact absurd hopen Bool.false_ne_true

/-- An area blocked by a holder of equal or higher priority (R146). -/
theorem admission_blocked {areas : AreaSet} (h : CallsAct s (withPlaced s e p .request areas) g fs t)
    (hfree : callAt s e = none) (hholder : holderOf s.calls a = some l) (hc : callAt s l = some c)
    (hhigh : c.priority ≤ s.tables.programs[p].cls.toNat) (hlist : s.calls.pendingList = [])
    (ha : hasArea areas a = true) :
    ¬((areasOf areas).all fun b => !areaBlocked t s.tables.programs[p].cls.toNat
      (aheadOfNew t s.tables.programs[p].cls.toNat) b) = true := by
  refine areasBlocked_of_mem ha ?_
  rw [aheadOfNew_nonePending _ ((congrArg CallState.pendingList h.calls).trans hlist),
    areaBlocked_of_holder h ((holderOf_placed hfree a).trans hholder)
      ((table_placed_other (entry_ne hfree hc)).trans hc)]
  exact decide_eq_true hhigh

end

/-- A call blocked by the holder of its one area expires at once or waits (R146 cases 2 and 3). -/
theorem blockedCallWaits : Parts.BlockedCallWaits := by
  intro s tag b x y z p e l c a hreq hp hclass hopen hcalm hnamed he hfree hbelow harea hholder hc hhigh hlist hfreed
    hnum n deadline
  have htests : startCallTests (dropHead .consoleRx s) b (word24 x y z) = .ok (e, p) := by
    refine startCallTests_passed (s := dropHead .consoleRx s) hp ⟨?_, hnamed⟩ hclass hopen hcalm he hfree hbelow
    rw [harea]
    exact oneArea_ne_zero a
  have hplaced : CallsAct s (withPlaced s e p .request (oneArea a)) s.log (expressFrames s)
      (placeCall e p .request (oneArea a) (dropHead .consoleRx s)) :=
    callsAct_placed (callsAct_dropHead (by decide) s) hnum
  have hblocked := admission_blocked hplaced hfree hholder hc hhigh hlist
    ((hasArea_oneArea a a).trans (decide_eq_true rfl))
  refine ⟨fun hzero => ?expires, fun hwaits => ?pending⟩
  case expires =>
    have hended := hplaced.endsEmpty (o := .expired) (table_placed s e p _ _) rfl rfl hlist
    have hadmit : admitCall e p .request (word24 x y z) (dropHead .consoleRx s)
        = endCall .expired e (placeCall e p .request (oneArea a) (dropHead .consoleRx s)) := by
      rw [harea]
      exact (if_neg hblocked).trans (if_pos hzero)
    have hset := (congrArg settle hadmit).trans (settle_of_quiet ((congrArg CallState.freed hended.calls).trans hfreed))
    refine ⟨_, startCall_admitted hreq htests hnum hset (reachedState_of_none _ ((hended.entry e).trans
      (putAt_same _ _ _))), ?_, ?_⟩
    · rw [hended.calls, table_unplaced hfree]
      rfl
    · rw [hended.log, ← byteOf_programId hp]
      rfl
  case pending =>
    have hkept : (areasOf (oneArea a)).foldl (clearArea e s.tables.programs[p].cls.toNat)
        (placeCall e p .request (oneArea a) (dropHead .consoleRx s))
        = placeCall e p .request (oneArea a) (dropHead .consoleRx s) := by
      rw [areasOf_oneArea]
      exact clearArea_kept hplaced ((holderOf_placed hfree a).trans hholder)
        ((table_placed_other (entry_ne hfree hc)).trans hc) hhigh
    have hjoined := hplaced.joins (table_placed s e p _ _) hlist s.tables.programs[p].cls.toNat deadline
    have hadmit : admitCall e p .request (word24 x y z) (dropHead .consoleRx s)
        = joinPending e s.tables.programs[p].cls.toNat deadline
            (placeCall e p .request (oneArea a) (dropHead .consoleRx s)) := by
      rw [harea]
      exact (if_neg hblocked).trans ((if_neg hwaits).trans (congrArg (joinPending e _ _) hkept))
    have hset := (congrArg settle hadmit).trans (settle_of_quiet ((congrArg CallState.freed hjoined.calls).trans hfreed))
    have hcall := (hjoined.entry e).trans (putAt_same _ _ _)
    refine ⟨_, startCall_admitted hreq htests hnum hset (reachedState_of_call hcall), hjoined.log,
      congrArg CallState.pendingList hjoined.calls, ?_, hcall⟩
    exact (hjoined.entry l).trans ((putAt_other _ _ (entry_ne hfree hc)).trans
      ((table_placed_other (entry_ne hfree hc)).trans hc))

end Sys2Proof.Machine
end


section
/-! The pending list examined, and a call that pre-empts as it goes to wait (R146 case 3, R147, R148). -/

namespace Sys2Proof.Machine

/-! ### One pending call is examined -/

/-- A state with the mark of R148 cleared. -/
def cleared (t : State) : State := t.withCalls { t.calls with freed := false }

section
variable {s t : State} {w : EntryId}

theorem settle_of_one (hlist : t.calls.pendingList = [w]) (hfreed : t.calls.freed = true) :
    settle t = cleared (settleFor 1 (examineCall (cleared t) w)) := by
  have htwo : settleFor 2 t = settleFor 1 (examineCall (cleared t) w) := by
    rw [settleFor, if_pos hfreed, examine, withCalls_calls, hlist]
    rfl
  rw [settle, hlist]
  exact congrArg cleared htwo

/-- The one pending call still waits: the examination changes nothing. -/
theorem settle_of_stays (hlist : t.calls.pendingList = [w]) (hfreed : t.calls.freed = true)
    (hstays : examineCall (cleared t) w = cleared t) : settle t = cleared t := by
  rw [settle_of_one hlist hfreed, hstays]
  rfl

/-- The one pending call leaves the list. -/
theorem settle_of_leaves (hlist : t.calls.pendingList = [w]) (hfreed : t.calls.freed = true)
    (hempty : (examineCall (cleared t) w).calls.pendingList = []) :
    settle t = cleared (examineCall (cleared t) w) := by
  rw [settle_of_one hlist hfreed, settleFor]
  cases hmark : (examineCall (cleared t) w).calls.freed with
  | false => rfl
  | true =>
    rw [if_pos rfl, settleFor, examine, withCalls_calls, hempty]
    rfl

theorem callsAct_cleared {cs : CallState} {g : LogState} {fs : List Frame} (h : CallsAct s cs g fs t) :
    CallsAct s { cs with freed := false } g fs (cleared t) := by
  have hcalls := h.calls
  subst hcalls
  exact h.withCalls _

end

/-! ### A pending call starts -/

section
variable {s t : State} {cs : CallState} {g : LogState} {fs : List Frame} {w : EntryId} {d : Call}

theorem holderOf_eq_none {a : AreaId} (h : ∀ i : EntryId, claims cs.table[i] a = false) : holderOf cs a = none := by
  rw [holderOf_eq]
  exact List.find?_eq_none.mpr fun i _ => by rw [h i]; exact Bool.false_ne_true

/-- A call examined with nothing ahead of it, whose areas nothing holds, starts at a WAIT (R148). -/
theorem callsAct_examine (h : CallsAct s cs g fs t) (hlist : cs.pendingList = [w]) (hd : cs.table[w] = some d)
    (hrun : d.running = false) (hheld : d.held = 0)
    (hfree : ∀ a : AreaId, hasArea d.requested a = true → holderOf cs a = none)
    (hkind : (stepAt s.tables { d with cursor := 0 }).kind = 4) :
    CallsAct s { cs with
        table := putAt cs.table w (some (startedCall s { d with deadline := none })), pendingList := [], freed := true }
      (loggedIn g (stamped s g .callStarted (byteOf d.number) (byteOf d.program.val) d.origin.code)) fs
      (examineCall t w) := by
  have hcalls := h.calls
  subst hcalls
  have hopen : ¬((areasOf d.requested).any fun a =>
      areaBlocked t d.priority (t.calls.pendingList.takeWhile fun x => x != w) a) = true := by
    rw [hlist, Bool.not_eq_true, List.any_eq_false]
    intro a ha
    have hnone : ([w].takeWhile fun x => x != w) = [] := by simp
    rw [hnone, areaBlocked_of_none h (hfree a (mem_areasOf.mp ha))]
    exact Bool.false_ne_true
  rw [examineCall_of_starts hd (by rw [hlist]; simp) hopen]
  have hleft : CallsAct s { t.calls with
      table := putAt t.calls.table w (some { d with deadline := none }), pendingList := [], freed := true } g fs
      (leavesList w d t) :=
    ((h.put w (some { d with deadline := none })).withCalls _).cast (by simp [putCall, hlist])
  have hstarts := startRunning_free (s := leavesList w d t) (c := { d with deadline := none })
    ((hleft.entry w).trans (putAt_same _ _ _)) hrun hheld
    (fun a ha => by
      rw [hleft.calls]
      refine (holderOf_congr (claims_putAt ?_)).trans (hfree a ha)
      rw [hd, claims_waiting hrun]
      exact claims_waiting (c := { d with deadline := none }) hrun a)
    (by rw [hleft.tables]; exact hkind)
  have hcall : startedCall (leavesList w d t) { d with deadline := none } = startedCall s { d with deadline := none } := by
    rw [startedCall, hleft.tables, hleft.now, startedCall]
  rw [hstarts, hcall]
  refine ((hleft.record .callStarted (byteOf d.number) (byteOf d.program.val) d.origin.code).withCalls _).cast ?_
  rw [hleft.calls]
  exact congrArg (fun v => { t.calls with table := v, pendingList := [], freed := true }) (putAt_putAt _ _ _ _)

end

/-- A call that ends DONE makes room for the one at the head of the pending list (R144, R148). -/
theorem pendingCallStarts : Parts.PendingCallStarts := by
  intro s e w c d hc hrun htimer hheld hkind hend hlist hd hwaits hnone hothers st hwait
  have hew : w ≠ e := by
    rintro rfl
    obtain rfl := Option.some.inj (hc.symm.trans hd)
    exact absurd (hrun.symm.trans hwaits) (by decide)
  have hends := timedStep_ends (i := .waitStepExpiry e) rfl hc hrun hkind htimer
  have hmoved := (callsAct_refl s).put e (some (moveCursor c (c.cursor + 1)))
  have hended := hmoved.ends (o := .done) (putAt_same _ _ _) rfl
  have hstep : stepEnds e s = endCall .done e (movedOn e c s) := by
    rw [stepEnds_eq hc, runSteps_end 511 (callAt_movedOn e c s) hend]
  rw [movedOn] at hstep
  rw [← hstep] at hended
  have hrest : s.calls.pendingList.filter (fun x => x != e) = [w] := by rw [hlist]; simp [hew]
  have hmark : (s.calls.freed || s.calls.pendingList.contains e || c.held != 0) = true := by
    rw [bne_iff_ne.mpr hheld, Bool.or_true]
  have hclear := callsAct_cleared hended
  have hstepAt : stepAt s.tables { d with cursor := 0 } = st := stepAt_of_index (i := 0) s.tables rfl
  have hfree (a : AreaId) (ha : hasArea d.requested a = true) :
      ∀ i : EntryId, claims (putAt (putAt s.calls.table e (some (moveCursor c (c.cursor + 1)))) e none)[i] a = false := by
    intro i
    by_cases hi : i = e
    · rw [hi, putAt_same]
      rfl
    · rw [putAt_other _ _ hi, putAt_other _ _ hi]
      cases hx : s.calls.table[i] with
      | none => rfl
      | some x =>
        refine Bool.eq_false_iff.mpr fun hclaim => ?_
        obtain ⟨hxrun, hxheld⟩ := Bool.and_eq_true_iff.mp hclaim
        have hboth : hasArea (x.held &&& d.requested) a = true :=
          BitVec.getLsbD_and.trans (Bool.and_eq_true_iff.mpr ⟨hxheld, ha⟩)
        rw [hothers i x hi hx hxrun, hasArea_zero] at hboth
        exact absurd hboth Bool.false_ne_true
  have hstarted := callsAct_examine hclear hrest
    ((putAt_other _ _ hew).trans ((putAt_other _ _ hew).trans hd)) hwaits hnone
    (fun a ha => holderOf_eq_none (hfree a ha)) (by rw [hstepAt]; exact hwait)
  have hset := settle_of_leaves ((congrArg CallState.pendingList hended.calls).trans hrest)
    ((congrArg CallState.freed hended.calls).trans hmark) (congrArg CallState.pendingList hstarted.calls)
  have hfinal := callsAct_cleared hstarted
  rw [← hset] at hfinal
  refine ⟨_, hends, hfinal.touches, ?_, congrArg CallState.pendingList hfinal.calls, ?_, fun i hi hiw => ?_, hfinal.log⟩
  · exact (hfinal.entry e).trans ((putAt_other _ _ hew.symm).trans (putAt_same _ _ _))
  · refine (hfinal.entry w).trans ((putAt_same _ _ _).trans ?_)
    have hat : stepAt s.tables { { d with deadline := none } with cursor := 0 } = st := hstepAt
    rw [startedCall, hat]
  · exact (hfinal.entry i).trans ((putAt_other _ _ hiw).trans ((putAt_other _ _ hi).trans (putAt_other _ _ hi)))

/-! ### A call that goes to wait pre-empts the lower holders -/

theorem foldl_only {α β : Type} {f : β → α → β} {i : α} {b : β} (l : List α) (hmem : i ∈ l) (hnodup : l.Nodup)
    (hbefore : ∀ j ∈ l, j ≠ i → f b j = b) (hafter : ∀ j ∈ l, j ≠ i → f (f b i) j = f b i) : l.foldl f b = f b i := by
  induction l with
  | nil => cases hmem
  | cons a l ih =>
    obtain ⟨hnot, hnodup⟩ := List.nodup_cons.mp hnodup
    rw [List.foldl_cons]
    rcases List.mem_cons.mp hmem with rfl | hmem
    · have hskip : ∀ (m : List α), (∀ j ∈ m, f (f b i) j = f b i) → m.foldl f (f b i) = f b i := by
        intro m
        induction m with
        | nil => exact fun _ => rfl
        | cons j m ihm =>
          intro hm
          rw [List.foldl_cons, hm j List.mem_cons_self, ihm fun k hk => hm k (List.mem_cons_of_mem _ hk)]
      refine hskip l fun j hj => hafter j (List.mem_cons_of_mem _ hj) ?_
      rintro rfl
      exact hnot hj
    · have ha : a ≠ i := by
        rintro rfl
        exact hnot hmem
      rw [hbefore a List.mem_cons_self ha]
      exact ih hmem hnodup (fun j hj => hbefore j (List.mem_cons_of_mem _ hj))
        fun j hj => hafter j (List.mem_cons_of_mem _ hj)

theorem nodup_areasOf (areas : AreaSet) : (areasOf areas).Nodup := (List.nodup_finRange 24).filter _

section
variable {s t : State} {cs : CallState} {g : LogState} {fs : List Frame} {e l : EntryId} {c : Call} {f : AreaId}

/-- The calls after a holder has lost its one area to no one. -/
def withLeft (cs : CallState) (l : EntryId) (f : AreaId) : CallState :=
  { cs with table := putAt cs.table l none, flash := flashedAs (oneArea f) .inactive cs.flash, freed := true }

theorem withLeft_same (cs : CallState) (l : EntryId) (f : AreaId) : (withLeft cs l f).table[l] = none := putAt_same _ _ _

theorem withLeft_other {d : EntryId} (h : d ≠ l) : (withLeft cs l f).table[d] = cs.table[d] := putAt_other _ _ h

/-- A holder of lower priority, which has no other area, ends PREEMPTED and leaves the area free (R146 case 3, R147). -/
theorem callsAct_clearArea (h : CallsAct s cs g fs t) (hholder : holderOf cs f = some l) (hle : l ≠ e)
    (hc : cs.table[l] = some c) {n : Nat} (hlow : n < c.priority) (hheld : c.held = oneArea f)
    (hroom : UnitHasRoom t f) (hlist : cs.pendingList = []) :
    CallsAct s (withLeft cs l f)
      (loggedIn g (stamped s g .callEnded (byteOf c.number) 2 (byteOf c.program.val)))
      (fs ++ (unitOf s.tables f).toList.map stopFrame) (clearArea e n t f) := by
  have hempty : (loseArea s.tables f c).held = 0 := by
    refine eq_zero_of_noArea fun b => ?_
    rw [loseArea, hasArea_dropArea, hheld, hasArea_oneArea]
    simp
  have hlost := callsAct_areaLost (l := l) (c := c) h hroom (.inl hempty)
  have hcalls := hlost.calls
  have hmarked := (hlost.withCalls { withLost cs l f (loseArea s.tables f c) with freed := true }).endsEmpty
    (o := .preempted) (putAt_same _ _ _) rfl hempty hlist
  have hclear : clearArea e n t f = preempt e false t f := by
    rw [clearArea, h.calls, hholder]
    exact if_pos (by rw [priorityAt_some ((h.entry l).trans hc)]; exact hlow)
  rw [hclear, preempt_of_holder false (by rw [h.calls]; exact hholder) hle ((h.entry l).trans hc)]
  dsimp only
  rw [h.tables, if_pos hempty, if_neg Bool.false_ne_true, markFreed, hcalls]
  exact hmarked.cast (congrArg (fun v => { withLost cs l f (loseArea s.tables f c) with table := v, freed := true })
    (putAt_putAt _ _ _ _))

end

/-- A call that must wait for one area has the other freed for it (R146 case 3, R147). -/
theorem waitingCallPreempts : Parts.WaitingCallPreempts := by
  intro s tag b x y z p e k l d c a f hlaw hreq hp hclass hopen hcalm haf hareas hka hkf he hfree hbelow hholdA hd hhigh
    hholdF hc hlow hheld hlist hnum hdeadline hroom n
  have hkl : k ≠ l := by
    rintro rfl
    obtain rfl := Option.some.inj (hd.symm.trans hc)
    exact absurd hlow (Nat.not_lt.mpr hhigh)
  have hhas (i : AreaId) : hasArea (oneArea a ||| oneArea f) i = true ↔ i = a ∨ i = f := by
    rw [hasArea_or, hasArea_oneArea, hasArea_oneArea, Bool.or_eq_true, decide_eq_true_iff, decide_eq_true_iff]
  have hnamed : AreasNamed s (oneArea a ||| oneArea f) := by
    refine ⟨fun hzero => ?_, fun i hi => ?_⟩
    · have hin := (hhas a).mpr (.inl rfl)
      rw [hzero, hasArea_zero] at hin
      exact absurd hin Bool.false_ne_true
    · rcases (hhas i).mp hi with rfl | rfl
      · exact hka
      · exact hkf
  have htests : startCallTests (dropHead .consoleRx s) b (word24 x y z) = .ok (e, p) := by
    rw [hareas]
    exact startCallTests_passed (s := dropHead .consoleRx s) hp hnamed hclass hopen hcalm he hfree hbelow
  have hplaced : CallsAct s (withPlaced s e p .request (oneArea a ||| oneArea f)) s.log (expressFrames s)
      (placeCall e p .request (oneArea a ||| oneArea f) (dropHead .consoleRx s)) :=
    callsAct_placed (callsAct_dropHead (by decide) s) hnum
  have hke : k ≠ e := entry_ne hfree hd
  have hle : l ≠ e := entry_ne hfree hc
  have hblocked := admission_blocked hplaced hfree hholdA hd hhigh hlist ((hhas a).mpr (.inl rfl))
  have hcleared := callsAct_clearArea (e := e) (n := s.tables.programs[p].cls.toNat) hplaced
    ((holderOf_placed hfree f).trans hholdF) hle ((table_placed_other hle).trans hc) hlow hheld (hplaced.room hroom) hlist
  have hclaims (i : AreaId) (hi : i ≠ f) (j : EntryId) :
      claims (withLeft (withPlaced s e p .request (oneArea a ||| oneArea f)) l f).table[j] i
        = claims (withPlaced s e p .request (oneArea a ||| oneArea f)).table[j] i := by
    refine claims_putAt ?_ j
    rw [(table_placed_other hle).trans hc, claims_none, claims, hheld, hasArea_oneArea, decide_eq_false hi,
      Bool.and_false]
  have hfold : (areasOf (oneArea a ||| oneArea f)).foldl (clearArea e s.tables.programs[p].cls.toNat)
      (placeCall e p .request (oneArea a ||| oneArea f) (dropHead .consoleRx s))
      = clearArea e s.tables.programs[p].cls.toNat
          (placeCall e p .request (oneArea a ||| oneArea f) (dropHead .consoleRx s)) f := by
    refine foldl_only _ (mem_areasOf.mpr ((hhas f).mpr (.inr rfl))) (nodup_areasOf _) (fun i hi hif => ?_)
      fun i hi hif => ?_
    all_goals obtain rfl := ((hhas i).mp (mem_areasOf.mp hi)).resolve_right hif
    · exact clearArea_kept hplaced ((holderOf_placed hfree i).trans hholdA) ((table_placed_other hke).trans hd) hhigh
    · exact clearArea_kept hcleared ((holderOf_congr (hclaims i hif)).trans ((holderOf_placed hfree i).trans hholdA))
        ((putAt_other _ _ hkl).trans ((table_placed_other hke).trans hd)) hhigh
  have hjoined := hcleared.joins ((putAt_other _ _ hle.symm).trans (table_placed s e p _ _)) hlist
    s.tables.programs[p].cls.toNat s.tables.programs[p].deadline.toNat
  have hadmit : admitCall e p .request (word24 x y z) (dropHead .consoleRx s) = joinPending e
      s.tables.programs[p].cls.toNat s.tables.programs[p].deadline.toNat
        (clearArea e s.tables.programs[p].cls.toNat
          (placeCall e p .request (oneArea a ||| oneArea f) (dropHead .consoleRx s)) f) := by
    have hzero : ¬s.tables.programs[p].deadline.toNat = 0 := fun h => hdeadline (BitVec.eq_of_toNat_eq h)
    rw [hareas]
    exact (if_neg hblocked).trans ((if_neg hzero).trans (congrArg (joinPending e _ _) hfold))
  rw [← hadmit] at hjoined
  have hclear := callsAct_cleared hjoined
  have hclaimsE (i : AreaId) (j : EntryId) := claims_putAt (e := e)
    (v := (withLeft (withPlaced s e p .request (oneArea a ||| oneArea f)) l f).table)
    (x := some { newCall n p s.tables.programs[p].cls.toNat .request (oneArea a ||| oneArea f) with
      deadline := some (s.now + s.tables.programs[p].deadline.toNat * 100000) }) (a := i) (by
        rw [withLeft_other hle.symm, table_placed]
        exact (claims_waiting (c := { newCall n p s.tables.programs[p].cls.toNat .request (oneArea a ||| oneArea f) with
          deadline := some (s.now + s.tables.programs[p].deadline.toNat * 100000) }) rfl i).trans
            (claims_waiting rfl i).symm) j
  have hcall := (hclear.entry e).trans (putAt_same _ _ _)
  have hstays : examineCall (cleared (admitCall e p .request (word24 x y z) (dropHead .consoleRx s))) e
      = cleared (admitCall e p .request (word24 x y z) (dropHead .consoleRx s)) := by
    have hhold : holderOf (cleared (admitCall e p .request (word24 x y z) (dropHead .consoleRx s))).calls a = some k := by
      rw [hclear.calls]
      exact Eq.trans (holderOf_congr (hclaimsE a)) ((holderOf_congr (hclaims a haf)).trans
        ((holderOf_placed hfree a).trans hholdA))
    rw [examineCall, hcall]
    refine ite_keeps (P := fun u => u = cleared _) rfl (if_pos (List.any_eq_true.mpr
      ⟨a, mem_areasOf.mpr ((hhas a).mpr (.inl rfl)), ?_⟩))
    have hahead : ((cleared (admitCall e p .request (word24 x y z) (dropHead .consoleRx s))).calls.pendingList.takeWhile
        fun x => x != e) = [] := by
      rw [hclear.calls]
      simp
    rw [hahead, areaBlocked_of_holder hclear (by rw [← hclear.calls]; exact hhold) ((putAt_other _ _ hke).trans ((putAt_other _ _ hkl).trans
      ((table_placed_other hke).trans hd)))]
    exact decide_eq_true hhigh
  have hset := settle_of_stays (congrArg CallState.pendingList hjoined.calls)
    (congrArg CallState.freed hjoined.calls) hstays
  refine ⟨_, startCall_admitted hreq htests hnum hset (reachedState_of_call hcall), ?_, ?_, ?_,
    congrArg CallState.pendingList hclear.calls, hcall, hclear.log, hclear.frames⟩
  · exact (hclear.entry l).trans ((putAt_other _ _ hle).trans (putAt_same _ _ _))
  · exact (hclear.entry k).trans ((putAt_other _ _ hke).trans ((putAt_other _ _ hkl).trans
      ((table_placed_other hke).trans hd)))
  · rw [hclear.calls]
    refine holderOf_eq_none fun j => (hclaimsE f j).trans ?_
    by_cases hj : j = l
    · rw [hj]
      exact congrArg (claims · f) (withLeft_same _ l f)
    · refine (congrArg (claims · f) (withLeft_other hj)).trans ?_
      by_cases hje : j = e
      · rw [hje, table_placed]
        exact claims_waiting rfl f
      · rw [table_placed_other hje]
        cases hx : callAt s j with
        | none => rfl
        | some x =>
          refine Bool.eq_false_iff.mpr fun hclaim => hj ?_
          exact hlaw.2 j l x c f hx hc (Bool.and_eq_true_iff.mp hclaim).2
            (by rw [hheld, hasArea_oneArea]; exact decide_eq_true rfl)

end Sys2Proof.Machine
end


section
/-! Calls suppressed by a change of phase (R157), and the interval clock (R145, R161). -/

namespace Sys2Proof.Machine

/-! ### A phase change that finds nothing to close -/

section
variable {s t : State} {cs : CallState} {g : LogState} {fs : List Frame} {e w : EntryId} {c d : Call}

theorem zonesFollowPhase_calm (target : Phase)
    (h : ∀ z : ZoneId, (zoneAt s z).state ≠ .investigating ∧ (zoneAt s z).window = none) :
    zonesFollowPhase target s = s := by
  have hdelay : (if permitsDelay target then s else endInvestigation handOver s) = s := by
    have hnone : zonesIn s.monitor.zones .investigating = [] :=
      List.eq_nil_iff_forall_not_mem.mpr fun z hz => (h z).1 (mem_zonesIn.mp hz)
    rw [endInvestigation, hnone]
    exact ite_self s
  have hclosed : (List.finRange 66).foldl (closeWindow handOver .phase) s = s := by
    refine foldl_keeps (P := fun t => t = s) (fun t z ht => ?_) _ s rfl
    rw [ht]
    exact if_pos (by rw [(h z).2]; rfl)
  rw [zonesFollowPhase, hdelay]
  rw [closeWindows, hclosed]
  exact ite_self s

/-- The call of a phase change with no commit and no INTERVAL, to a phase without calls (R157). -/
theorem carryOut_suppresses {target : Phase} (length : Nat) (hold : s.phase.phase ≠ .maintenance)
    (hinterval : s.phase.phase ≠ .interval) (htarget : target ≠ .maintenance) (hnot : target ≠ .interval)
    (hcalls : permitsCalls target = false)
    (h : ∀ z : ZoneId, (zoneAt s z).state ≠ .investigating ∧ (zoneAt s z).window = none) :
    carryOut target length s = suppressOrdinary (changePhase target s) := by
  have hmonitor : ∀ z : ZoneId, zoneAt (changePhase target s) z = zoneAt s z := fun z => by
    rw [zoneAt, changePhase_monitor, zoneAt]
  have hcalm := zonesFollowPhase_calm (s := changePhase target s) target fun z => by rw [hmonitor z]; exact h z
  simp only [carryOut, if_neg hold, if_neg htarget, hcalm, callsFollowPhase, hcalls, if_neg hinterval, if_neg hnot]
  rfl

/-- A call that runs ends SUPPRESSED with STOP to its units (R144, R157). -/
theorem CallsAct.endsStopped (h : CallsAct s cs g (expressFrames s) t) (hc : cs.table[e] = some c)
    (hrun : c.running = true) (hroom : 288 ≤ freeBytes s.tables s.links .rackExpress) :
    CallsAct s { cs with
        table := putAt cs.table e none
        pendingList := cs.pendingList.filter fun x => x != e
        flash := flashedAs c.held .inactive cs.flash
        freed := cs.freed || cs.pendingList.contains e || c.held != 0 }
      (loggedIn g (stamped s g .callEnded (byteOf c.number) 4 (byteOf c.program.val)))
      (expressFrames s ++ ((areasOf c.held).filterMap (unitOf s.tables)).map stopFrame)
      (endCall .suppressed e t) := by
  have hunits : ((areasOf c.held).filterMap (unitOf t.tables)).length ≤ 24 :=
    (List.length_filterMap_le _ _).trans (length_areasOf_le c.held)
  obtain ⟨hframes, htouch⟩ := sendToAreas_filed cmdStop 0 0 (areasOf c.held) (s := t)
    (by rw [freeBytes_of_frames h.frames h.tables]; omega)
  have hsent : CallsAct s cs g (expressFrames s ++ ((areasOf c.held).filterMap (unitOf s.tables)).map stopFrame)
      (sendToAreas c.held cmdStop 0 0 t) :=
    ⟨(sendToAreas_calls _ _ _ _ _).trans h.calls, (htouch .log (by decide)).trans h.log, by
      rw [expressFrames, sendToAreas, hframes, h.tables]
      exact congrArg (· ++ _) h.frames, onlyTouches_trans h.touches (onlyTouches_mono (by simp) htouch)⟩
  have hcall : callAt t e = some c := (h.entry e).trans hc
  have hstops : stopsUnits t.tables .suppressed c = true := hrun
  have hcalls := hsent.calls
  subst hcalls
  have hend : endCall .suppressed e t = writeRecord .callEnded (byteOf c.number) 4 (byteOf c.program.val)
      (callGone e c (sendToAreas c.held cmdStop 0 0 t)) := by
    simp only [endCall, hcall, hstops]
    rfl
  rw [hend]
  exact ((hsent.withCalls { (sendToAreas c.held cmdStop 0 0 t).calls with
    table := putAt (sendToAreas c.held cmdStop 0 0 t).calls.table e none
    pendingList := (sendToAreas c.held cmdStop 0 0 t).calls.pendingList.filter fun x => x != e
    freed := (sendToAreas c.held cmdStop 0 0 t).calls.freed
      || (sendToAreas c.held cmdStop 0 0 t).calls.pendingList.contains e || c.held != 0 }).flash c.held .inactive).record
      .callEnded (byteOf c.number) 4 (byteOf c.program.val)

theorem endRunning_idle {x : State} {i : EntryId} (h : callAt x i = none) : endRunning x i = x :=
  if_neg (by rw [runsIn, h]; exact Bool.false_ne_true)

/-- One pending and one running call are suppressed, in that order (R157). -/
theorem suppressOrdinary_two (he : 2 ≤ e.val) (hc : callAt s e = some c) (hrun : c.running = true)
    (hlist : s.calls.pendingList = [w]) (hd : callAt s w = some d) (hwaits : d.running = false)
    (hothers : ∀ i : EntryId, 2 ≤ i.val → i ≠ e → i ≠ w → callAt s i = none)
    (hroom : 288 ≤ freeBytes s.tables s.links .rackExpress) :
    ∃ cs, CallsAct s cs
        (loggedIn (loggedIn s.log (stamped s s.log .callEnded (byteOf d.number) 4 (byteOf d.program.val)))
          (stamped s (loggedIn s.log (stamped s s.log .callEnded (byteOf d.number) 4 (byteOf d.program.val))) .callEnded
            (byteOf c.number) 4 (byteOf c.program.val)))
        (expressFrames s ++ ((areasOf c.held).filterMap (unitOf s.tables)).map stopFrame) (suppressOrdinary s)
      ∧ cs.table[e] = none ∧ cs.table[w] = none ∧ cs.pendingList = []
      ∧ ∀ a : AreaId, c.held.getLsbD a.val = true → cs.flash[a] = .inactive := by
  have hew : e ≠ w := by
    rintro rfl
    obtain rfl := Option.some.inj (hc.symm.trans hd)
    exact absurd (hrun.symm.trans hwaits) (by decide)
  have hpending := (callsAct_refl s).ends (o := .suppressed) hd hwaits
  have hrunning := hpending.endsStopped (e := e) ((putAt_other _ _ hew).trans hc) hrun hroom
  have hruns : endRunning (endCall .suppressed w s) e = endCall .suppressed e (endCall .suppressed w s) :=
    if_pos (by rw [runsIn, (hpending.entry e).trans ((putAt_other _ _ hew).trans hc)]; exact hrun)
  have hidle (i : EntryId) (hi : 2 ≤ i.val) (hie : i ≠ e) : callAt (endCall .suppressed w s) i = none := by
    by_cases hiw : i = w
    · rw [hiw]
      exact callAt_endCall_same _ _ _
    · exact (callAt_endCall_other _ _ hiw).trans (hothers i hi hie hiw)
  have hsuppress : suppressOrdinary s = endCall .suppressed e (endCall .suppressed w s) := by
    have hfold : ordinaryEntries.foldl endRunning (endCall .suppressed w s)
        = endRunning (endCall .suppressed w s) e := by
      refine foldl_only _ (mem_ordinaryEntries e he) (by decide) (fun i hi hie => ?_) fun i hi hie => ?_
      · exact endRunning_idle (hidle i (two_le_of_ordinary i hi) hie)
      · rw [hruns]
        exact endRunning_idle ((callAt_endCall_other _ _ hie).trans (hidle i (two_le_of_ordinary i hi) hie))
    rw [suppressOrdinary, hlist]
    exact hfold.trans hruns
  rw [hsuppress]
  refine ⟨_, hrunning, putAt_same _ _ _, (putAt_other _ _ hew.symm).trans (putAt_same _ _ _), ?_, fun a ha => ?_⟩
  · dsimp only
    rw [hlist]
    simp
  · exact (flashedAs_get _ _ _ a).trans (if_pos ha)

end

/-- What the calls, the log and RACK-EXPRESS are after a change of phase with no staff present (R2). -/
structure PhaseChangedQuietly (target : Phase) (s t : State) : Prop where
  calls : t.calls = s.calls
  tables : t.tables = s.tables
  now : t.now = s.now
  frames : expressFrames t = expressFrames s
  log : t.log = loggedIn s.log (stamped s s.log .phaseChanged 0 s.phase.phase.code target.code)

theorem changePhase_unstaffed (target : Phase) {s : State} (h : s.phase.staff = false) :
    PhaseChangedQuietly target s (changePhase target s) := by
  have hchange : changePhase target s = writeRecord .phaseChanged 0 s.phase.phase.code target.code (noticeIsDue
      (s.withPhase { s.phase with
        phase := target
        testValid := s.phase.testValid && !clearsValidity target
        staff := s.phase.staff && !noStaffPhase target })) := if_neg (by rw [h]; exact Bool.false_ne_true)
  rw [hchange]
  exact ⟨writeRecord_calls _ _ _ _ _, writeRecord_tables _ _ _ _ _, writeRecord_now _ _ _ _ _,
    congrArg Queue.frames (writeRecord_queue_other (by decide) _ _ _ _ _), writeRecord_log _ _ _ _ _⟩

theorem transitionTests_toDark {s : State} (hphase : s.phase.phase = .rehearsal) (hstage : s.effects.stage ≠ .evacuate) :
    transitionTests s .dark = none :=
  transitionTests_passed (.inl hstage) (by rw [hphase]; rfl) (by simp [guardOf, hphase])

/-- SET-PHASE DARK in REHEARSAL, with no zone to close. -/
theorem exec_setPhase_toDark {s : State} {tag : Byte} (hreq : Requested s 3 tag [Phase.dark.code])
    (hphase : s.phase.phase = .rehearsal)
    (hstage : s.effects.stage ≠ .evacuate)
    (hzones : ∀ z : ZoneId, (zoneAt s z).state ≠ .investigating ∧ (zoneAt s z).window = none) :
    DoneWith .setPhase s 3 tag [Phase.dark.code] (suppressOrdinary (changePhase .dark (dropHead .consoleRx s))) := by
  have hphase' : (dropHead .consoleRx s).phase.phase = .rehearsal := by rw [dropHead_phase, hphase]
  have howner := setPhaseOwner_accepted (s := dropHead .consoleRx s) (target := .dark) []
    (by rw [hphase']; decide) (transitionTests_toDark hphase' (by rw [dropHead_effects]; exact hstage))
  rw [carryOut_suppresses _ (by rw [hphase']; decide) (by rw [hphase']; decide) (by decide) (by decide) rfl
    (by exact hzones)] at howner
  have hexec := exec_setPhase_of_requested hreq
  rw [howner] at hexec
  dsimp only at hexec
  exact hexec

/-- A change from REHEARSAL to DARK suppresses the ordinary calls (R157). -/
theorem callsSuppressed : Parts.CallsSuppressed := by
  intro s tag e w c d hreq hphase hstaff hstage hzones he hc hrun hlist hd hwaits hothers hroom stamp one
  obtain ⟨hcalls, htables, hnow, hframes, hlog⟩ :=
    changePhase_unstaffed .dark (s := dropHead .consoleRx s) (by rw [dropHead_phase]; exact hstaff)
  have hdone := exec_setPhase_toDark hreq hphase hstage hzones
  have hdrop := (callsAct_dropHead (q := .consoleRx) (by decide) s).frames
  generalize hu : changePhase .dark (dropHead .consoleRx s) = u at *
  rw [dropHead_calls] at hcalls
  rw [dropHead_tables] at htables
  rw [dropHead_now] at hnow
  rw [dropHead_phase, hphase, dropHead_log] at hlog
  rw [hdrop] at hframes
  have hentry (i : EntryId) : callAt u i = callAt s i := by rw [callAt, hcalls, callAt]
  obtain ⟨cs, hact, hnoneE, hnoneW, hempty, hflash⟩ := suppressOrdinary_two
    (s := u) he ((hentry e).trans hc) hrun (by rw [hcalls]; exact hlist)
    ((hentry w).trans hd) hwaits (fun i hi hie hiw => (hentry i).trans (hothers i hi hie hiw))
    (by rw [freeBytes_of_frames hframes htables]; exact hroom)
  refine ⟨_, hdone, (hact.entry e).trans hnoneE, (hact.entry w).trans hnoneW, by rw [hact.calls]; exact hempty, ?_,
    fun a ha => by rw [hact.calls]; exact hflash a ha, ?_⟩
  · have hfinal := hact.frames
    rw [hframes, htables] at hfinal
    exact hfinal
  · have hclock : houseClock u = houseClock s := by rw [houseClock, hnow, houseClock]
    rw [hact.log, hlog]
    simp only [stamped, hclock]
    rfl

/-- Settles O48, by following each act from its admission, timer or phase change to the settled pending list. -/
theorem waitingCalls : Obligations.WaitingCalls :=
  ⟨blockedCallWaits, deadlineRunsOut, waitingCallPreempts, pendingCallStarts, callsSuppressed⟩

end Sys2Proof.Machine
end


section
/-! The interval clock and the schedule (R145, R161). -/

namespace Sys2Proof.Machine

/-! ### Admission and the pending list leave the interval as it is -/

section
variable {s t : State}

theorem clearArea_intervalKept (e : EntryId) (n : Nat) (a : AreaId) (h : IntervalKept s t) :
    IntervalKept s (clearArea e n t a) := by
  unfold clearArea
  split
  · exact ite_keeps (preempt_intervalKept _ _ _ h) h
  · exact h

theorem joinPending_intervalKept (e : EntryId) (priority n : Nat) (h : IntervalKept s t) :
    IntervalKept s (joinPending e priority n t) := by
  unfold joinPending
  split
  · exact h
  · exact h

theorem admitCall_intervalKept (e : EntryId) (p : ProgramId) (o : Origin) (areas : AreaSet) (h : IntervalKept s t) :
    IntervalKept s (admitCall e p o areas t) := by
  have hplaced : IntervalKept s (placeCall e p o areas t) := h
  refine ite_keeps (startRunning_intervalKept _ hplaced) (ite_keeps (endCall_intervalKept _ _ hplaced) ?_)
  exact joinPending_intervalKept _ _ _ (foldl_keeps (fun _ a hu => clearArea_intervalKept _ _ a hu) _ _ hplaced)

theorem examineCall_intervalKept (e : EntryId) (h : IntervalKept s t) : IntervalKept s (examineCall t e) := by
  unfold examineCall
  split
  · exact h
  · exact ite_keeps h (ite_keeps h (startRunning_intervalKept e (t := State.withCalls _ _) h))

theorem settle_intervalKept (h : IntervalKept s t) : IntervalKept s (settle t) := by
  have hfor : ∀ (n : Nat) {t : State}, IntervalKept s t → IntervalKept s (settleFor n t) := by
    intro n
    induction n with
    | zero => exact fun h => h
    | succ n ih =>
      intro t h
      refine ite_keeps (ih ?_) h
      exact foldl_keeps (fun _ e hu => examineCall_intervalKept e hu) _ (t.withCalls _) h
  exact hfor _ h

end

/-! ### One tick -/

/-- Whether a schedule entry is due with so many seconds left (R161). -/
abbrev EntryDue (s : State) (n : Nat) (i : Fin 6) : Prop :=
  s.calls.progress[i] = .unfired ∧ s.tables.schedule.entries[i].offset.toNat = n

/-- The state in which the entries are looked at: a second less is left, and the clock runs again (R161). -/
def secondLess (s : State) : State :=
  s.withCalls { s.calls with remaining := s.calls.remaining - 1, clock := some (s.now + 100000) }

/-- The interval's end, where no second is left. -/
def endsAtZero (n : Nat) (t : State) : State := if n = 0 then intervalEnds t else t

theorem clockTick_eq (s : State) : clockTick s
    = settle (endsAtZero (s.calls.remaining - 1) ((List.finRange 6).foldl fireIfDue (secondLess s))) := by
  have hclock : afterS s 1 = some (s.now + 100000) := rfl
  rw [clockTick, hclock]
  rfl

theorem exec_clockTick {s : State} (h : s.calls.clock ≠ none) : exec .intervalClockTick s = .next (clockTick s) :=
  if_pos (Option.isSome_iff_ne_none.mpr h)

section
variable {s t : State} {i : Fin 6}

theorem fireIfDue_of_due (h : EntryDue t t.calls.remaining i) : fireIfDue t i = fireEntry i t :=
  if_pos (by rw [decide_eq_true h.1, decide_eq_true h.2]; rfl)

theorem fireIfDue_of_not (h : ¬EntryDue t t.calls.remaining i) : fireIfDue t i = t :=
  if_neg fun hdue => h ((Bool.and_eq_true_iff.mp hdue).imp of_decide_eq_true of_decide_eq_true)

theorem fireEntry_intervalKept (i : Fin 6) (t : State) : IntervalKept (setProgress i .fired t) (fireEntry i t) := by
  unfold fireEntry
  dsimp only
  split
  · exact (recordClosed_intervalKept _).record _ _ _ _ (intervalKept_refl _)
  · exact admitCall_intervalKept _ _ _ _ (intervalKept_refl _)

theorem fireEntry_touches (i : Fin 6) (t : State) : OnlyTouches [.calls, .links, .log] t (fireEntry i t) := by
  have hset : OnlyTouches [.calls, .links, .log] t (setProgress i .fired t) :=
    onlyTouches_mono (by simp) (onlyTouches_withCalls t _)
  unfold fireEntry
  dsimp only
  split
  · exact onlyTouches_trans hset (onlyTouches_mono (by simp) (writeRecord_onlyTouches _ _ _ _ _))
  · exact onlyTouches_trans hset (admitCall_keeps (callsClosed_onlyTouches _) _ _ _ _ (onlyTouches_refl _ _))

/-- What the entries looked at so far leave of the interval: those due are FIRED. -/
structure EntriesFired (l : List (Fin 6)) (s t : State) : Prop where
  touches : OnlyTouches [.calls, .links, .log] s t
  clock : t.calls.clock = s.calls.clock
  remaining : t.calls.remaining = s.calls.remaining
  fired : ∀ i ∈ l, EntryDue s s.calls.remaining i → t.calls.progress[i] = .fired
  kept : ∀ i, i ∉ l ∨ ¬EntryDue s s.calls.remaining i → t.calls.progress[i] = s.calls.progress[i]

theorem entriesFired_step {l : List (Fin 6)} (h : EntriesFired l s t) (i : Fin 6) (hi : i ∉ l) :
    EntriesFired (i :: l) s (fireIfDue t i) := by
  have htables : t.tables = s.tables := h.touches .tables (by decide)
  have hdue : EntryDue t t.calls.remaining i ↔ EntryDue s s.calls.remaining i := by
    rw [EntryDue, EntryDue, h.kept i (.inl hi), htables, h.remaining]
  by_cases hd : EntryDue s s.calls.remaining i
  · rw [fireIfDue_of_due (hdue.mpr hd)]
    obtain ⟨hclock, hremaining, hprogress⟩ := fireEntry_intervalKept i t
    refine ⟨onlyTouches_trans h.touches (fireEntry_touches i t), hclock.trans h.clock, hremaining.trans h.remaining,
      fun j hj hjdue => ?_, fun j hj => ?_⟩
    all_goals rw [hprogress]
    · by_cases hji : j = i
      · rw [hji]
        exact putAt_same _ _ _
      · exact (putAt_other _ _ hji).trans (h.fired j ((List.mem_cons.mp hj).resolve_left hji) hjdue)
    · have hji : j ≠ i := by
        rintro rfl
        exact hj.elim (fun hnot => hnot List.mem_cons_self) fun hnot => hnot hd
      exact (putAt_other _ _ hji).trans (h.kept j (hj.imp_left fun hnot hmem => hnot (List.mem_cons_of_mem _ hmem)))
  · rw [fireIfDue_of_not (fun hdt => hd (hdue.mp hdt))]
    refine ⟨h.touches, h.clock, h.remaining, fun j hj hjdue => ?_, fun j hj => ?_⟩
    · rcases List.mem_cons.mp hj with rfl | hj
      · exact absurd hjdue hd
      · exact h.fired j hj hjdue
    · exact h.kept j (hj.imp_left fun hnot hmem => hnot (List.mem_cons_of_mem _ hmem))

theorem entriesFired_foldl (m : List (Fin 6)) : ∀ {l : List (Fin 6)} {t : State}, EntriesFired l s t → m.Nodup →
    (∀ i ∈ m, i ∉ l) → ∃ k, (∀ i, i ∈ k ↔ i ∈ m ∨ i ∈ l) ∧ EntriesFired k s (m.foldl fireIfDue t) := by
  induction m with
  | nil => exact fun h _ _ => ⟨_, fun i => by simp, h⟩
  | cons i m ih =>
    intro l t h hnodup hnot
    obtain ⟨him, hnodup⟩ := List.nodup_cons.mp hnodup
    obtain ⟨k, hk, hfired⟩ := ih (entriesFired_step h i (hnot i List.mem_cons_self)) hnodup fun j hj hmem => by
      rcases List.mem_cons.mp hmem with rfl | hmem
      · exact him hj
      · exact hnot j (List.mem_cons_of_mem _ hj) hmem
    refine ⟨k, fun j => (hk j).trans ?_, hfired⟩
    rw [List.mem_cons, List.mem_cons]
    exact or_left_comm.trans (or_assoc.symm)

theorem endsAtZero_touches (n : Nat) (t : State) : OnlyTouches [.calls, .links, .log] t (endsAtZero n t) :=
  ite_keeps (P := OnlyTouches [.calls, .links, .log] t)
    (onlyTouches_trans (onlyTouches_mono (by simp) (writeRecord_onlyTouches _ _ _ _ t))
      (onlyTouches_mono (by simp) (onlyTouches_withCalls _ _))) (onlyTouches_refl _ t)

theorem endsAtZero_calls (n : Nat) (t : State) :
    (endsAtZero n t).calls = { t.calls with clock := if n = 0 then none else t.calls.clock } := by
  by_cases hn : n = 0
  · rw [endsAtZero, if_pos hn, if_pos hn, intervalEnds, withCalls_calls, writeRecord_calls]
  · rw [endsAtZero, if_neg hn, if_neg hn]

end

/-- What the end of a tick leaves of the interval. -/
theorem tick_kept (n : Nat) (t : State) : OnlyTouches [.calls, .links, .log] t (settle (endsAtZero n t))
    ∧ (settle (endsAtZero n t)).calls.clock = (if n = 0 then none else t.calls.clock)
    ∧ (settle (endsAtZero n t)).calls.remaining = t.calls.remaining
    ∧ (settle (endsAtZero n t)).calls.progress = t.calls.progress := by
  have hcalls := endsAtZero_calls n t
  obtain ⟨hclock, hremaining, hprogress⟩ := settle_intervalKept (intervalKept_refl (endsAtZero n t))
  rw [hcalls] at hclock hremaining hprogress
  exact ⟨onlyTouches_trans (endsAtZero_touches _ _) (settle_touches _), hclock, hremaining, hprogress⟩

theorem allEntriesFired (s : State) : EntriesFired (List.finRange 6) s ((List.finRange 6).foldl fireIfDue s) := by
  obtain ⟨k, hk, hfired⟩ := entriesFired_foldl (s := s) (List.finRange 6) (l := [])
    ⟨onlyTouches_refl _ _, rfl, rfl, fun _ h => (nomatch h), fun _ _ => rfl⟩ (List.nodup_finRange 6)
    fun _ _ h => (nomatch h)
  have hall (i : Fin 6) : i ∈ k := (hk i).mpr (.inl (List.mem_finRange i))
  exact ⟨hfired.touches, hfired.clock, hfired.remaining, fun i _ => hfired.fired i (hall i),
    fun i hi => hfired.kept i (.inr (hi.resolve_left fun hnot => hnot (List.mem_finRange i)))⟩

theorem foldl_fireIfDue_none {s : State} (h : ∀ i, ¬EntryDue s s.calls.remaining i) :
    (List.finRange 6).foldl fireIfDue s = s :=
  foldl_keeps (P := fun t => t = s) (fun t i ht => by
    rw [ht]
    exact fireIfDue_of_not (h i)) _ _ rfl

/-- The interval ends at a tick at which no entry fires. -/
theorem tick_log_none {s : State} (hn : s.calls.remaining - 1 = 0) (hfreed : s.calls.freed = false) :
    (settle (endsAtZero (s.calls.remaining - 1) (secondLess s))).log
      = loggedIn s.log ⟨s.log.next, houseClock s, .intervalEnd, 0, 0, 0⟩ := by
  have hquiet : (endsAtZero (s.calls.remaining - 1) (secondLess s)).calls.freed = false := by
    rw [endsAtZero_calls]
    exact hfreed
  rw [settle_of_quiet hquiet, endsAtZero, if_pos hn, intervalEnds, withCalls_log, writeRecord_log]
  rfl

/-- A tick of the running interval clock (R161). -/
theorem clockTicks : Parts.ClockTicks := by
  intro s
  refine ⟨fun hstopped => ?_, fun hruns => ?_⟩
  · exact if_neg (by rw [hstopped]; exact Bool.false_ne_true)
  refine ⟨_, exec_clockTick hruns, ?_⟩
  beta_reduce
  intro n due
  obtain ⟨htouched, hclockF, hremainingF, hfiredF, hkeptF⟩ := allEntriesFired (secondLess s)
  obtain ⟨hends, hclock, hremaining, hprogress⟩ :=
    tick_kept (s.calls.remaining - 1) ((List.finRange 6).foldl fireIfDue (secondLess s))
  have htouch : OnlyTouches [.calls, .links, .log] s (secondLess s) :=
    onlyTouches_mono (by simp) (onlyTouches_withCalls s _)
  rw [clockTick_eq]
  refine ⟨onlyTouches_trans htouch (onlyTouches_trans htouched hends), hremaining.trans hremainingF,
    fun i => ⟨fun hdue => ?_, fun hnot => ?_⟩, fun hn => ?_, fun hn => ?_, fun hnone hn hfreed => ?_⟩
  · rw [hprogress]
    exact hfiredF i (List.mem_finRange i) hdue
  · rw [hprogress]
    exact hkeptF i (.inr hnot)
  · rw [hclock]
    exact (if_neg hn).trans hclockF
  · rw [hclock]
    exact if_pos hn
  · rw [foldl_fireIfDue_none (s := secondLess s) hnone]
    exact tick_log_none hn hfreed

/-! ### One entry fires alone -/

section
variable {s : State} {i : Fin 6}

theorem tick_of_only (hdue : EntryDue s (s.calls.remaining - 1) i)
    (honly : ∀ j, j ≠ i → ¬EntryDue s (s.calls.remaining - 1) j) :
    (List.finRange 6).foldl fireIfDue (secondLess s) = fireEntry i (secondLess s) := by
  have hfire : fireIfDue (secondLess s) i = fireEntry i (secondLess s) := fireIfDue_of_due hdue
  have hfired := entriesFired_step (s := secondLess s) (t := secondLess s) (l := [])
    ⟨onlyTouches_refl _ _, rfl, rfl, fun _ h => (nomatch h), fun _ _ => rfl⟩ i (fun h => nomatch h)
  refine (foldl_only _ (List.mem_finRange i) (List.nodup_finRange 6) (fun j _ hj => ?_) fun j _ hj => ?_).trans hfire
  · exact fireIfDue_of_not (t := secondLess s) (honly j hj)
  · refine fireIfDue_of_not fun hagain => honly j hj ?_
    have htables : (fireIfDue (secondLess s) i).tables = (secondLess s).tables := hfired.touches .tables (by decide)
    rw [EntryDue, hfired.remaining, htables, hfired.kept j (.inr fun hd => honly j hj hd)] at hagain
    exact hagain

/-- The log after a tick's last record, if the interval ends with it. -/
def loggedAtZero (s : State) (n : Nat) (g : LogState) : LogState :=
  if n = 0 then loggedIn g ⟨g.next, houseClock s, .intervalEnd, 0, 0, 0⟩ else g

/-- A tick ends with what its entry left, where no area came free. -/
theorem tick_ends {t : State} {cs : CallState} {g : LogState} {fs : List Frame} (h : CallsAct s cs g fs t)
    (hfreed : cs.freed = false) (n : Nat) : settle (endsAtZero n t) = endsAtZero n t
      ∧ (endsAtZero n t).calls.table = cs.table ∧ (endsAtZero n t).calls.pendingList = cs.pendingList
      ∧ (endsAtZero n t).log = loggedAtZero s n g := by
  have hcalls := endsAtZero_calls n t
  rw [h.calls] at hcalls
  refine ⟨settle_of_quiet (by rw [hcalls]; exact hfreed), by rw [hcalls], by rw [hcalls], ?_⟩
  by_cases hn : n = 0
  · rw [endsAtZero, if_pos hn, loggedAtZero, if_pos hn]
    exact (h.record .intervalEnd 0 0 0).log
  · rw [endsAtZero, if_neg hn, loggedAtZero, if_neg hn]
    exact h.log

end

/-- The schedule entry that fires alone at a tick (R145, R161). -/
theorem scheduleEntryFires : Parts.ScheduleEntryFires := by
  intro s i p hclock hfreed n due entry hdue honly hp hareas hkinds hclass end_ refused open_
  have hexec := exec_clockTick hclock
  rw [clockTick_eq, tick_of_only hdue honly] at hexec
  have hnamed : AreasNamed (setProgress i .fired (secondLess s)) entry.areas := ⟨hareas, hkinds⟩
  have hid : programIdOf entry.program = some p := programIdOf_of_val hp
  have htests := startCallTests_ordinary (s := setProgress i .fired (secondLess s)) hid hnamed
  have hprogress : CallsAct s { s.calls with
      remaining := s.calls.remaining - 1, clock := some (s.now + 100000)
      progress := putAt s.calls.progress i .fired } s.log (expressFrames s) (setProgress i .fired (secondLess s)) :=
    (callsAct_refl s).withCalls _
  have hrefused {r : Reason} (h : ordinaryTests (setProgress i .fired (secondLess s)) p = .error r) :
      refused r.code := by
    have hfire : fireEntry i (secondLess s)
        = writeRecord .scheduleRefused (byteOf i.val) r.code 0 (setProgress i .fired (secondLess s)) := by
      rw [h] at htests
      rw [fireEntry]
      rw [show startCallTests (setProgress i .fired (secondLess s)) (secondLess s).tables.schedule.entries[i].program
        (secondLess s).tables.schedule.entries[i].areas = .error r from htests]
    rw [hfire] at hexec
    obtain ⟨hset, htable, hlist, hlog⟩ := tick_ends (hprogress.record .scheduleRefused (byteOf i.val) r.code 0) hfreed n
    refine ⟨_, hexec.trans (congrArg Host.Outcome.next hset), ?_, ?_, ?_⟩
    · exact htable
    · exact hlist
    · exact hlog
  refine ⟨fun hclosed => hrefused (r := .wrongPhase)
      (ordinaryTests_phase (s := setProgress i .fired (secondLess s)) hclass hclosed),
    fun hopen hstage => hrefused (r := .alarmActive)
      (ordinaryTests_stage (s := setProgress i .fired (secondLess s)) hclass hopen hstage),
    fun hopen hcalm hfull => hrefused (r := .limit)
      (ordinaryTests_full (s := setProgress i .fired (secondLess s)) hclass hopen hcalm hfull), fun hopen hcalm e he hfree hbelow hlist hnone => ?_⟩
  intro st hkind hnum
  have hpassed := ordinaryTests_passed (s := setProgress i .fired (secondLess s)) hclass hopen hcalm he hfree hbelow
  have hfire : fireEntry i (secondLess s)
      = admitCall e p .schedule entry.areas (setProgress i .fired (secondLess s)) := by
    rw [hpassed] at htests
    rw [fireEntry]
    rw [show startCallTests (setProgress i .fired (secondLess s)) (secondLess s).tables.schedule.entries[i].program
      (secondLess s).tables.schedule.entries[i].areas = .ok (e, p) from htests]
    rfl
  have hadmit := admitCall_free (s := setProgress i .fired (secondLess s)) (e := e) (p := p) (o := .schedule)
    (areas := entry.areas) hfree hlist hnone hkind hnum
  have hstarted := (hprogress.record .callStarted
      (byteOf (setProgress i .fired (secondLess s)).calls.nextNumber) (byteOf p.val) Origin.schedule.code).withCalls
    (withStarted (setProgress i .fired (secondLess s)) e p .schedule entry.areas)
  rw [← hadmit, ← hfire] at hstarted
  obtain ⟨hset, htable, -, hlog⟩ := tick_ends hstarted hfreed n
  refine ⟨_, hexec.trans (congrArg Host.Outcome.next hset), ?_, fun d hd => ?_, ?_⟩
  · rw [callAt, htable]
    exact putAt_same _ _ _
  · rw [callAt, htable]
    exact putAt_other _ _ hd
  · rw [hlog, byteOf_programId hp]
    rfl

/-- Settles O49, by what each entry looked at leaves of the interval, and by the one entry that fires. -/
theorem intervalClockTicks : Obligations.IntervalClockTicks := ⟨clockTicks, scheduleEntryFires⟩

end Sys2Proof.Machine
end


section
/-! The level step, and the spans of the refresh frames (R31, R40 to R44, R63, R66). -/

namespace Sys2Proof.Machine

/-! ### Runs of a vector -/

theorem mapRange_getElem {α : Type} (f : α → α) (xs : List α) : ∀ (k n i : Nat) (h : i < xs.length),
    (mapRange f k n xs)[i]'(by rw [length_mapRange]; exact h) = if k ≤ i ∧ i < k + n then f xs[i] else xs[i] := by
  induction xs with
  | nil => exact fun _ _ _ h => absurd h (Nat.not_lt_zero _)
  | cons x xs ih =>
    intro k n i h
    match k, n, i with
    | 0, 0, i => simp [mapRange]
    | 0, n + 1, 0 => simp [mapRange]
    | 0, n + 1, i + 1 =>
      simp only [mapRange, List.getElem_cons_succ]
      rw [ih 0 n i (Nat.lt_of_succ_lt_succ h)]
      exact if_congr (by omega) rfl rfl
    | k + 1, n, 0 => simp [mapRange]
    | k + 1, n, i + 1 =>
      simp only [mapRange, List.getElem_cons_succ]
      rw [ih k n i (Nat.lt_of_succ_lt_succ h)]
      exact if_congr (by omega) rfl rfl

theorem zipRange_getElem {α β : Type} (f : α → β → α) (y : β) (xs : List α) : ∀ (k : Nat) (bs : List β) (i : Nat)
    (h : i < xs.length), (zipRange f k bs xs)[i]'(by rw [length_zipRange]; exact h)
      = if k ≤ i ∧ i < k + bs.length then f xs[i] (bs.getD (i - k) y) else xs[i] := by
  induction xs with
  | nil => exact fun _ _ _ h => absurd h (Nat.not_lt_zero _)
  | cons x xs ih =>
    intro k bs i h
    match k, bs, i with
    | 0, [], i => simp [zipRange]
    | 0, b :: bs, 0 => simp [zipRange]
    | 0, b :: bs, i + 1 =>
      simp only [zipRange, List.getElem_cons_succ]
      rw [ih 0 bs i (Nat.lt_of_succ_lt_succ h)]
      refine if_congr (by rw [List.length_cons]; omega) ?_ rfl
      simp
    | k + 1, bs, 0 => simp [zipRange]
    | k + 1, bs, i + 1 =>
      simp only [zipRange, List.getElem_cons_succ]
      rw [ih k bs i (Nat.lt_of_succ_lt_succ h)]
      exact if_congr (by omega) (by rw [Nat.add_sub_add_right]) rfl

theorem mapRangeVec_get {α : Type} {m : Nat} (f : α → α) (k n : Nat) (v : Vector α m) (i : Fin m) :
    (mapRangeVec f k n v)[i] = if k ≤ i.val ∧ i.val < k + n then f v[i] else v[i] := by
  have h := mapRange_getElem f v.toList k n i.val (by simp)
  simpa [mapRangeVec] using h

theorem zipRangeVec_get {α β : Type} {m : Nat} (f : α → β → α) (y : β) (k : Nat) (bs : List β) (v : Vector α m)
    (i : Fin m) : (zipRangeVec f k bs v)[i]
      = if k ≤ i.val ∧ i.val < k + bs.length then f v[i] (bs.getD (i.val - k) y) else v[i] := by
  have h := zipRange_getElem f y v.toList k bs i.val (by simp)
  simpa [zipRangeVec] using h

/-! ### A level step -/

section
variable {s : State}

theorem refreshUniverse_touches (u : Nat) (s : State) : OnlyTouches [.stream, .links, .log] s (refreshUniverse s u) := by
  unfold refreshUniverse
  split
  · exact onlyTouches_refl _ s
  · dsimp only
    split
    · exact onlyTouches_trans (onlyTouches_mono (by simp) (onlyTouches_withLinks s _))
        (onlyTouches_mono (by simp) (onlyTouches_withStream _ _))
    next hnone => exact onlyTouches_mono (by simp) (offer_of_none hnone ▸ offer_onlyTouches _ _ s)

theorem refreshAll_touches (s : State) : OnlyTouches [.stream, .links, .log] s (refreshAll s) :=
  foldl_keeps (P := OnlyTouches [.stream, .links, .log] s)
    (fun t u ht => onlyTouches_trans ht (refreshUniverse_touches u t)) _ s (onlyTouches_refl _ s)

theorem resolveAll_touches (s : State) : OnlyTouches [.levels, .stream] s (resolveAll s) :=
  onlyTouches_trans (onlyTouches_mono (by simp) (onlyTouches_withLevels s _))
    (onlyTouches_mono (by simp) (onlyTouches_withStream _ _))

theorem exec_levelStep (s : State) : exec .levelStep s = .next (refreshAll (resolveAll s)) := rfl

theorem levels_levelStep (s : State) : (refreshAll (resolveAll s)).levels
    = { s.levels with channels := tabulate 96 (stepChannel s), stepTimer := some (s.now + 2500) } :=
  (refreshAll_touches _) .levels (by decide)

theorem channels_levelStep (s : State) (h : ChannelId) :
    (refreshAll (resolveAll s)).levels.channels[h] = stepChannel s h := by
  rw [levels_levelStep]
  exact tabulate_get _ _

theorem stepChannel_idle {h : ChannelId} (hidle : s.tables.channels[h].inUse ≠ 1) :
    stepChannel s h = s.levels.channels[h] := if_neg fun hin => hidle (of_decide_eq_true hin)

theorem stepChannel_same (s : State) (h : ChannelId) : (stepChannel s h).request = s.levels.channels[h].request
    ∧ (stepChannel s h).seen = s.levels.channels[h].seen := by
  unfold stepChannel
  dsimp only
  split
  · exact ⟨rfl, rfl⟩
  · exact ⟨rfl, rfl⟩

theorem stepChannel_output {h : ChannelId} (hin : s.tables.channels[h].inUse = 1) :
    (stepChannel s h).output.toNat = resolveChannel s s.tables.channels[h] s.levels.channels[h] := by
  have hstep : stepChannel s h = { s.levels.channels[h] with
      output := byteOf (resolveChannel s s.tables.channels[h] s.levels.channels[h]) } := if_pos (decide_eq_true hin)
  rw [hstep]
  have hle := resolveChannel_le s s.tables.channels[h] s.levels.channels[h]
  exact (BitVec.toNat_ofNat _ _).trans (Nat.mod_eq_of_lt (by omega))

theorem slew_at_once (rise fall target output : Nat) : slew true rise fall target output = target := by
  simp only [slew, if_true]
  split_ifs <;> omega

theorem resolveChannel_flash {e : ChannelEntry} (c : Channel) (hcalm : emergencyFlag s e = false)
    (hflash : flashOf s e ≠ .inactive) : resolveChannel s e c = targetLevel s e c := by
  have hsnap : (!emergencyFlag s e && flashOf s e != .inactive) = true := by
    rw [hcalm, Bool.not_false, Bool.true_and]
    exact bne_iff_ne.mpr hflash
  rw [resolveChannel]
  rw [hsnap]
  exact slew_at_once _ _ _ _

theorem resolveChannel_slew {e : ChannelEntry} (c : Channel)
    (hslow : emergencyFlag s e = true ∨ flashOf s e = .inactive) : resolveChannel s e c
      = slew false (if emergencyFlag s e then s.tables.alarm.riseRate.toNat else e.rise.toNat) e.fall.toNat
          (targetLevel s e c) c.output.toNat := by
  have hsnap : (!emergencyFlag s e && flashOf s e != .inactive) = false := by
    rcases hslow with hem | hoff
    · rw [hem]
      rfl
    · rw [hoff]
      exact Bool.and_false _
  rw [resolveChannel]
  rw [hsnap]

end

/-- Settles O17, by the channels' new values and the three cases of the slew. -/
theorem levelStepMovesOutputs : Obligations.LevelStepMovesOutputs := by
  intro s
  refine ⟨_, exec_levelStep s, onlyTouches_trans (onlyTouches_mono (by simp) (resolveAll_touches s))
    (onlyTouches_mono (by simp) (refreshAll_touches _)), ?_, ?_, fun h => ?_⟩
  · rw [levels_levelStep]
  · rw [levels_levelStep]
  intro e c target o up
  rw [channels_levelStep]
  refine ⟨(stepChannel_same s h).1, (stepChannel_same s h).2, stepChannel_idle, fun hin hcalm hflash => ?_,
    fun hin hslow => ?_⟩
  · rw [stepChannel_output hin, resolveChannel_flash _ hcalm hflash]
  · have hout := stepChannel_output hin
    rw [resolveChannel_slew _ hslow] at hout
    refine ⟨fun hlow => ?_, fun hhigh => ?_, fun heq => BitVec.eq_of_toNat_eq ?_⟩
    all_goals rw [hout, slew]
    · exact if_pos hlow
    · exact (if_neg (Nat.not_lt.mpr (Nat.le_of_lt hhigh))).trans (if_pos hhigh)
    · exact (if_neg (Nat.not_lt.mpr (Nat.le_of_eq heq))).trans (if_neg (Nat.not_lt.mpr (Nat.le_of_eq heq.symm)))

/-! ### The periodic refresh -/

theorem periodicRefreshMarks : Parts.PeriodicRefreshMarks := by
  intro s
  refine ⟨_, rfl, onlyTouches_withStream s _, rfl, fun i => ?_⟩
  exact (getElem_mapVec _ _ i).trans rfl

/-! ### The span of a refresh frame -/

theorem slotMarked_eq {slots : List Slot} {i : Nat} (h : i < slots.length) : slotMarked slots i = slots[i].dirty := by
  simp [slotMarked, List.getElem?_eq_getElem h]

theorem slotMarked_beyond {slots : List Slot} {i : Nat} (h : slots.length ≤ i) : slotMarked slots i = false := by
  simp [slotMarked, List.getElem?_eq_none h]

theorem slotMarked_drop (slots : List Slot) (k i : Nat) : slotMarked (slots.drop k) i = slotMarked slots (k + i) := by
  simp [slotMarked, List.getElem?_drop]

theorem slotMarked_take {slots : List Slot} {n i : Nat} (h : i < n) :
    slotMarked (slots.take n) i = slotMarked slots i := by
  simp [slotMarked, List.getElem?_take_of_lt h]

/-- The number of slots up to the last marked one. -/
def lastMarked (reach : List Slot) : Nat := reach.length - reach.reverse.findIdx (·.dirty)

theorem lastMarked_spec {reach : List Slot} (h : ∃ x ∈ reach, x.dirty = true) :
    1 ≤ lastMarked reach ∧ lastMarked reach ≤ reach.length ∧ slotMarked reach (lastMarked reach - 1) = true
      ∧ ∀ i, lastMarked reach ≤ i → slotMarked reach i = false := by
  have hfound : reach.reverse.findIdx (·.dirty) < reach.reverse.length := by
    obtain ⟨x, hx, hdirty⟩ := h
    exact List.findIdx_lt_length_of_exists ⟨x, List.mem_reverse.mpr hx, hdirty⟩
  have hdirty : (reach.reverse[reach.reverse.findIdx (·.dirty)]'hfound).dirty = true := List.findIdx_getElem
  have hlen : reach.reverse.findIdx (·.dirty) < reach.length := by rwa [List.length_reverse] at hfound
  refine ⟨by unfold lastMarked; omega, by unfold lastMarked; omega, ?_, fun i hi => ?_⟩
  · rw [slotMarked_eq (by unfold lastMarked; omega)]
    rw [List.getElem_reverse] at hdirty
    rw [← hdirty]
    congr 2
    unfold lastMarked
    omega
  · by_cases hin : i < reach.length
    · rw [slotMarked_eq hin]
      have hbefore : reach.length - 1 - i < reach.reverse.findIdx (·.dirty) := by
        unfold lastMarked at hi
        omega
      have hclear := List.not_of_lt_findIdx hbefore
      rw [List.getElem_reverse] at hclear
      have hindex : reach.length - 1 - (reach.length - 1 - i) = i := by omega
      simp only [hindex] at hclear
      exact hclear
    · exact slotMarked_beyond (Nat.not_lt.mp hin)

theorem refreshSpan_eq (slots : List Slot) : refreshSpan slots = if slots.any (·.dirty)
    then some (slots.findIdx (·.dirty), lastMarked ((slots.drop (slots.findIdx (·.dirty))).take 64)) else none := rfl

theorem refreshSpanCoversMarks : Parts.RefreshSpanCoversMarks := by
  intro slots
  rw [refreshSpan_eq]
  refine ⟨?_, fun start count hspan => ?_⟩
  · rw [ite_eq_right_iff]
    simp
  have hany : slots.any (·.dirty) = true := by
    by_contra hnone
    rw [if_neg hnone] at hspan
    exact nomatch hspan
  rw [if_pos hany] at hspan
  obtain ⟨rfl, rfl⟩ := Prod.mk.inj (Option.some.inj hspan)
  obtain ⟨x, hx, hdirty⟩ := List.any_eq_true.mp hany
  have hlt : slots.findIdx (·.dirty) < slots.length := List.findIdx_lt_length_of_exists ⟨x, hx, hdirty⟩
  have hfirst : (slots[slots.findIdx (·.dirty)]'hlt).dirty = true := List.findIdx_getElem
  have hstart : slotMarked slots (slots.findIdx (·.dirty)) = true := (slotMarked_eq hlt).trans hfirst
  have hbefore : ∀ i, i < slots.findIdx (·.dirty) → slotMarked slots i = false := fun i hi => by
    rw [slotMarked_eq (hi.trans hlt)]
    exact Bool.eq_false_iff.mpr (by simpa using List.not_of_lt_findIdx hi)
  generalize slots.findIdx (·.dirty) = start at *
  have hreach : ∃ y ∈ (slots.drop start).take 64, y.dirty = true := by
    refine ⟨slots[start], List.mem_take_iff_getElem.mpr ⟨0, by rw [List.length_drop]; omega, ?_⟩, hfirst⟩
    simp
  obtain ⟨hone, hle, hlast, hafter⟩ := lastMarked_spec hreach
  have hlength : ((slots.drop start).take 64).length ≤ 64 ∧ ((slots.drop start).take 64).length ≤ slots.length - start := by
    rw [List.length_take, List.length_drop]
    omega
  have hread {i : Nat} (hi : i < 64) : slotMarked ((slots.drop start).take 64) i = slotMarked slots (start + i) :=
    (slotMarked_take hi).trans (slotMarked_drop slots start i)
  generalize lastMarked ((slots.drop start).take 64) = count at *
  refine ⟨hone, by omega, by omega, hstart, ?_, hbefore, fun i hi hnear => ?_⟩
  · rw [hread (by omega)] at hlast
    rwa [Nat.add_sub_assoc hone]
  · have hclear := hafter (i - start) (by omega)
    rwa [hread (by omega), Nat.add_sub_cancel' (by omega)] at hclear

end Sys2Proof.Machine
end


section
/-! The marks of a level step and the refresh frames it offers (R43, R63 to R65). -/

namespace Sys2Proof.Machine

/-! ### The channels whose output changed -/

/-- One channel's part in the marking of R43. -/
def markOneChanged (t : Tables) (old new : Vector Channel 96) (v : Vector Slot 1024) (h : ChannelId) :
    Vector Slot 1024 :=
  if channelInUse t.channels[h] && old[h].output != new[h].output then markDirty v (channelSlot t h) else v

/-- A channel in use stands at a slot, and its output has changed. -/
def ChangedAt (t : Tables) (old new : Vector Channel 96) (i : Nat) (h : ChannelId) : Prop :=
  t.channels[h].inUse = 1 ∧ new[h].output ≠ old[h].output ∧ channelSlot t h = i

theorem markChanged_eq (t : Tables) (old new : Vector Channel 96) (v : Vector Slot 1024) :
    markChanged t old new v = (List.finRange 96).foldl (markOneChanged t old new) v := rfl

section
variable (t : Tables) (old new : Vector Channel 96) (i : Fin 1024)

theorem markOneChanged_marks (v : Vector Slot 1024) (h : ChannelId) :
    MarkedIf (ChangedAt t old new i h) v[i] (markOneChanged t old new v h)[i] := by
  unfold markOneChanged
  split
  next hmarks =>
    obtain ⟨huse, hdiffers⟩ := Bool.and_eq_true_iff.mp hmarks
    rw [markDirty_getElem]
    split
    next hat => exact markedIf_of_mark ⟨of_decide_eq_true huse, (bne_iff_ne.mp hdiffers).symm, hat⟩ _
    next hat => exact markedIf_of_not (fun hc => hat hc.2.2) _
  next hstays =>
    refine markedIf_of_not (fun ⟨huse, hdiffers, _⟩ => hstays ?_) _
    exact Bool.and_eq_true_iff.mpr ⟨decide_eq_true huse, bne_iff_ne.mpr hdiffers.symm⟩

theorem markChanged_marks (l : List ChannelId) (v : Vector Slot 1024) :
    MarkedIf (∃ h ∈ l, ChangedAt t old new i h) v[i] (l.foldl (markOneChanged t old new) v)[i] := by
  induction l generalizing v with
  | nil => exact ⟨rfl, by simp⟩
  | cons h l ih => simpa using (markOneChanged_marks t old new i v h).trans (ih _)

end

/-! ### One universe -/

/-- The refresh frame of a universe of some slots, as a state's levels and flags stand (R63, R64). -/
def refreshOf (s : State) (m : Vector Slot 1024) (u : Nat) : Option Frame :=
  (refreshSpan (universeSlots m u)).map fun span => mkFrame kindLevels 0 (levelsBody (byteOf u) (byteOf span.1)
    ((((universeSlots m u).drop span.1).take span.2).map (carriedLevel s)))

/-- A slot lies in the span of its universe's refresh frame. -/
def Covered (m : Vector Slot 1024) (i : Fin 1024) : Prop :=
  ∃ start count : Nat, refreshSpan (universeSlots m (i.val / 256)) = some (start, count)
    ∧ start ≤ i.val % 256 ∧ i.val % 256 < start + count

theorem length_universeSlots (v : Vector Slot 1024) {u : Nat} (hu : u < 4) : (universeSlots v u).length = 256 := by
  simp only [universeSlots, List.length_take, List.length_drop, Vector.length_toList]
  omega

theorem universeSlots_congr {v w : Vector Slot 1024} {u : Nat}
    (h : ∀ i : Fin 1024, i.val / 256 = u → v[i] = w[i]) (hu : u < 4) : universeSlots v u = universeSlots w u := by
  refine List.ext_getElem (by rw [length_universeSlots v hu, length_universeSlots w hu]) fun j hj _ => ?_
  rw [length_universeSlots v hu] at hj
  have hat := h ⟨256 * u + j, by omega⟩ (by dsimp only; omega)
  simpa [universeSlots] using hat

section
variable {s t : State} {m : Vector Slot 1024} {u : Nat}

theorem carriedLevel_congr (htouch : OnlyTouches [.stream, .links, .log] s t) : carriedLevel t = carriedLevel s := by
  have hlevels : t.levels = s.levels := htouch .levels (by decide)
  have heffects : t.effects = s.effects := htouch .effects (by decide)
  have htables : t.tables = s.tables := htouch .tables (by decide)
  funext x
  rw [carriedLevel, carriedLevel, hlevels]
  cases x.cls with
  | pass => rfl
  | house h => rfl
  | guard g => simp only [guardLevel, heffects, htables]

theorem refreshOf_congr (htouch : OnlyTouches [.stream, .links, .log] s t)
    (hslots : universeSlots t.stream.slots u = universeSlots m u) : refreshOf t t.stream.slots u = refreshOf s m u := by
  rw [refreshOf, refreshOf, carriedLevel_congr htouch, hslots]

theorem refreshUniverse_unmarked (h : refreshOf t t.stream.slots u = none) : refreshUniverse t u = t := by
  rw [refreshOf, Option.map_eq_none_iff] at h
  rw [refreshUniverse, h]

theorem refreshOf_some {f : Frame} (h : refreshOf t t.stream.slots u = some f) : ∃ start count,
    refreshSpan (universeSlots t.stream.slots u) = some (start, count) ∧ f = refreshFrame t u start count := by
  rw [refreshOf, Option.map_eq_some_iff] at h
  obtain ⟨⟨start, count⟩, hspan, hf⟩ := h
  exact ⟨start, count, hspan, hf.symm⟩

theorem refreshUniverse_filed {start count : Nat}
    (hspan : refreshSpan (universeSlots t.stream.slots u) = some (start, count))
    (hroom : (refreshFrame t u start count).length + 4 ≤ freeBytes t.tables t.links .rackExpress) :
    refreshUniverse t u = withSlots (t.withLinks (filedIn t .rackExpress (refreshFrame t u start count)))
      (mapRangeVec clearHeld (256 * u + start) count t.stream.slots) := by
  rw [refreshUniverse, hspan]
  dsimp only
  rw [tryFile_of_room hroom]

theorem refreshUniverse_refused {start count : Nat}
    (hspan : refreshSpan (universeSlots t.stream.slots u) = some (start, count))
    (hfull : freeBytes t.tables t.links .rackExpress < (refreshFrame t u start count).length + 4) :
    refreshUniverse t u = overflowed .rackExpress (refreshFrame t u start count) t := by
  rw [refreshUniverse, hspan]
  dsimp only
  rw [tryFile_of_full hfull]

theorem frameKind_refreshFrame (t : State) (u start count : Nat) : byteAt (refreshFrame t u start count) 0 = 0x10 := rfl

theorem length_refreshFrame_le (t : State) (u start : Nat) {count : Nat} (hcount : count ≤ 64) :
    (refreshFrame t u start count).length ≤ 255 := by
  rw [refreshFrame, length_mkFrame]
  simp only [levelsBody, List.length_cons, List.length_map, List.length_take]
  omega

end

/-! ### The universes in order -/

/-- The queue RACK-EXPRESS has its latch closed. -/
abbrev ExpressLatched (s : State) : Prop := s.links.queues[QueueId.rackExpress.ix].latched = true

/-- The frames refused of those a list of universes calls for. -/
def refusedFrames (frameOf : Nat → Option Frame) (filed us : List Nat) : List Frame :=
  (us.filter fun u => !filed.contains u).filterMap frameOf

/-- What the refresh of some universes makes of a state: the frames filed, the marks cleared, and the first refusal
reported (R63 to R65, R170). -/
structure Refreshes (s : State) (m : Vector Slot 1024) (us : List Nat) (t r : State) : Prop where
  frames : expressFrames r = expressFrames t
    ++ (filedUniverses (refreshOf s m) (freeBytes t.tables t.links .rackExpress) us).filterMap (refreshOf s m)
  slots : ∀ i : Fin 1024,
    let cleared := i.val / 256 ∈ filedUniverses (refreshOf s m) (freeBytes t.tables t.links .rackExpress) us
      ∧ Covered m i ∧ m[i].cls ≠ .pass
    (cleared → r.stream.slots[i] = { m[i] with dirty := false }) ∧ (¬cleared → r.stream.slots[i] = t.stream.slots[i])
  quiet : (ExpressLatched t
      ∨ refusedFrames (refreshOf s m) (filedUniverses (refreshOf s m) (freeBytes t.tables t.links .rackExpress) us) us = [])
    → r.log = t.log ∧ (ExpressLatched r ↔ ExpressLatched t)
  report : ∀ f, ¬ExpressLatched t → (refusedFrames (refreshOf s m)
      (filedUniverses (refreshOf s m) (freeBytes t.tables t.links .rackExpress) us) us).head? = some f →
    ExpressLatched r ∧ r.log = loggedIn t.log (stamped s t.log .queueOverflow 2 0x10 (byteOf f.length))

theorem filedUniverses_none {frameOf : Nat → Option Frame} {u : Nat} (free : Nat) (us : List Nat) (h : frameOf u = none) :
    filedUniverses frameOf free (u :: us) = filedUniverses frameOf free us := by simp only [filedUniverses, h]

theorem filedUniverses_filed {frameOf : Nat → Option Frame} {u free : Nat} {f : Frame} (us : List Nat)
    (h : frameOf u = some f) (hroom : f.length + 4 ≤ free) :
    filedUniverses frameOf free (u :: us) = u :: filedUniverses frameOf (free - (f.length + 4)) us := by
  simp only [filedUniverses, h, if_pos hroom]

theorem filedUniverses_refused {frameOf : Nat → Option Frame} {u free : Nat} {f : Frame} (us : List Nat)
    (h : frameOf u = some f) (hfull : ¬f.length + 4 ≤ free) :
    filedUniverses frameOf free (u :: us) = filedUniverses frameOf free us := by
  simp only [filedUniverses, h, if_neg hfull]

theorem filedUniverses_sublist (frameOf : Nat → Option Frame) (us : List Nat) : ∀ free u,
    u ∈ filedUniverses frameOf free us → u ∈ us := by
  induction us with
  | nil => exact fun _ _ h => nomatch h
  | cons v us ih =>
    intro free u hu
    cases hframe : frameOf v with
    | none =>
      rw [filedUniverses_none free us hframe] at hu
      exact List.mem_cons_of_mem _ (ih _ _ hu)
    | some f =>
      by_cases hroom : f.length + 4 ≤ free
      · rw [filedUniverses_filed us hframe hroom] at hu
        rcases List.mem_cons.mp hu with rfl | hu
        · exact List.mem_cons_self
        · exact List.mem_cons_of_mem _ (ih _ _ hu)
      · rw [filedUniverses_refused us hframe hroom] at hu
        exact List.mem_cons_of_mem _ (ih _ _ hu)

/-- A universe that has no frame, or whose frame is refused, is not among those filed behind it. -/
theorem refusedFrames_cons {frameOf : Nat → Option Frame} {u : Nat} {us filed : List Nat} (hfiled : u ∉ filed) :
    refusedFrames frameOf filed (u :: us) = (frameOf u).toList ++ refusedFrames frameOf filed us := by
  have hkeep : (!filed.contains u) = true := by simpa using hfiled
  unfold refusedFrames
  rw [List.filter_cons_of_pos (p := fun v => !filed.contains v) hkeep]
  cases hframe : frameOf u with
  | none => rw [List.filterMap_cons_none hframe]; rfl
  | some f => rw [List.filterMap_cons_some hframe]; rfl

theorem refusedFrames_filed {frameOf : Nat → Option Frame} {u : Nat} {us filed : List Nat} (hu : u ∉ us) :
    refusedFrames frameOf (u :: filed) (u :: us) = refusedFrames frameOf filed us := by
  unfold refusedFrames
  rw [List.filter_cons_of_neg (by simp)]
  congr 1
  refine List.filter_congr fun v hv => ?_
  have hne : v ≠ u := by
    rintro rfl
    exact hu hv
  simp [hne]

section
variable {s t : State} {m : Vector Slot 1024} {u : Nat} {us : List Nat}

/-- A state reached in the refresh, whose slots in the universes still to come are as the marks left them. -/
structure RefreshReaches (s : State) (m : Vector Slot 1024) (us : List Nat) (t : State) : Prop where
  touches : OnlyTouches [.stream, .links, .log] s t
  slots : ∀ i : Fin 1024, i.val / 256 ∈ us → t.stream.slots[i] = m[i]
  universes : ∀ u ∈ us, u < 4
  nodup : us.Nodup

theorem RefreshReaches.head (h : RefreshReaches s m (u :: us) t) : universeSlots t.stream.slots u = universeSlots m u :=
  universeSlots_congr (fun i hi => h.slots i (by rw [hi]; exact List.mem_cons_self)) (h.universes u List.mem_cons_self)

theorem RefreshReaches.tail {r : State} (h : RefreshReaches s m (u :: us) t)
    (htouch : OnlyTouches [.stream, .links, .log] t r)
    (hslots : ∀ i : Fin 1024, i.val / 256 ≠ u → r.stream.slots[i] = t.stream.slots[i]) : RefreshReaches s m us r where
  touches := onlyTouches_trans h.touches htouch
  slots i hi := by
    rw [hslots i fun hu => (List.nodup_cons.mp h.nodup).1 (hu ▸ hi)]
    exact h.slots i (List.mem_cons_of_mem _ hi)
  universes v hv := h.universes v (List.mem_cons_of_mem _ hv)
  nodup := (List.nodup_cons.mp h.nodup).2

/-- The slots that a filed frame of a universe covers have their marks cleared, where they are HOUSE or GUARD. -/
theorem slots_filed (h : RefreshReaches s m (u :: us) t) {start count : Nat}
    (hspan : refreshSpan (universeSlots m u) = some (start, count)) (i : Fin 1024) :
    let v := mapRangeVec clearHeld (256 * u + start) count t.stream.slots
    (i.val / 256 = u ∧ Covered m i ∧ m[i].cls ≠ .pass → v[i] = { m[i] with dirty := false })
      ∧ (¬(i.val / 256 = u ∧ Covered m i ∧ m[i].cls ≠ .pass) → v[i] = t.stream.slots[i]) := by
  have hu := h.universes u List.mem_cons_self
  obtain ⟨-, hspec⟩ := refreshSpanCoversMarks (universeSlots m u)
  obtain ⟨-, -, hend, -⟩ := hspec start count hspan
  rw [length_universeSlots m hu] at hend
  have hcovers (hi : i.val / 256 = u) : Covered m i ↔ start ≤ i.val % 256 ∧ i.val % 256 < start + count := by
    rw [Covered, hi, hspan]
    constructor
    · rintro ⟨_, _, heq, hin⟩
      obtain ⟨rfl, rfl⟩ := Prod.mk.inj (Option.some.inj heq)
      exact hin
    · exact fun hin => ⟨_, _, rfl, hin⟩
  have hrange : (256 * u + start ≤ i.val ∧ i.val < 256 * u + start + count)
      ↔ i.val / 256 = u ∧ start ≤ i.val % 256 ∧ i.val % 256 < start + count := by omega
  intro v
  have hget : v[i] = if 256 * u + start ≤ i.val ∧ i.val < 256 * u + start + count then clearHeld t.stream.slots[i]
      else t.stream.slots[i] := mapRangeVec_get _ _ _ _ _
  rw [hget]
  refine ⟨fun ⟨hi, hcov, hcls⟩ => ?_, fun hnot => ?_⟩
  · rw [if_pos (hrange.mpr ⟨hi, (hcovers hi).mp hcov⟩), h.slots i (by rw [hi]; exact List.mem_cons_self), clearHeld,
      if_neg hcls]
  · split
    next hin =>
      obtain ⟨hi, hcov⟩ := hrange.mp hin
      have hpass : m[i].cls = .pass := by
        by_contra hcls
        exact hnot ⟨hi, (hcovers hi).mpr hcov, hcls⟩
      rw [h.slots i (by rw [hi]; exact List.mem_cons_self), clearHeld, if_pos hpass]
    next => rfl

end

theorem expressLatched_filed (t : State) (f : Frame) (v : Vector Slot 1024) :
    ExpressLatched (withSlots (t.withLinks (filedIn t .rackExpress f)) v) ↔ ExpressLatched t := by
  have hsame : (withSlots (t.withLinks (filedIn t .rackExpress f)) v).links.queues[QueueId.rackExpress.ix]
      = { t.links.queues[QueueId.rackExpress.ix] with
          frames := t.links.queues[QueueId.rackExpress.ix].frames ++ [f] } := filedIn_same t .rackExpress f
  rw [ExpressLatched, hsame]

/-- The refresh of some universes, from a state reached in it. -/
theorem refreshes {s : State} {m : Vector Slot 1024} (us : List Nat) : ∀ {t : State}, RefreshReaches s m us t →
    Refreshes s m us t (us.foldl refreshUniverse t) := by
  induction us with
  | nil =>
    intro t _
    exact ⟨(List.append_nil _).symm, fun i => ⟨fun h => (nomatch h.1), fun _ => rfl⟩, fun _ => ⟨rfl, Iff.rfl⟩,
      fun _ _ h => (nomatch h)⟩
  | cons u us ih =>
    intro t h
    have hnot : u ∉ us := (List.nodup_cons.mp h.nodup).1
    have hframe := refreshOf_congr h.touches h.head
    rw [List.foldl_cons]
    cases hof : refreshOf s m u with
    | none =>
      rw [refreshUniverse_unmarked (hframe.trans hof)]
      have hfiled := filedUniverses_none (freeBytes t.tables t.links .rackExpress) us hof
      have hskip : refusedFrames (refreshOf s m)
          (filedUniverses (refreshOf s m) (freeBytes t.tables t.links .rackExpress) us) (u :: us)
          = refusedFrames (refreshOf s m)
            (filedUniverses (refreshOf s m) (freeBytes t.tables t.links .rackExpress) us) us := by
        rw [refusedFrames_cons fun hmem => hnot (filedUniverses_sublist _ _ _ _ hmem), hof]
        rfl
      obtain ⟨hframes, hslots, hquiet, hreport⟩ := ih (h.tail (onlyTouches_refl _ t) fun _ _ => rfl)
      constructor <;> rw [hfiled]
      · exact hframes
      · exact hslots
      · rw [hskip]
        exact hquiet
      · rw [hskip]
        exact hreport
    | some f =>
      obtain ⟨start, count, hspan, rfl⟩ := refreshOf_some (hframe.trans hof)
      have hspan' : refreshSpan (universeSlots m u) = some (start, count) := by rw [← h.head]; exact hspan
      by_cases hroom : (refreshFrame t u start count).length + 4 ≤ freeBytes t.tables t.links .rackExpress
      · have hstep := refreshUniverse_filed hspan hroom
        have hslot := slots_filed h hspan'
        have hfree : freeBytes (refreshUniverse t u).tables (refreshUniverse t u).links .rackExpress
            = freeBytes t.tables t.links .rackExpress - ((refreshFrame t u start count).length + 4) := by
          rw [hstep]
          exact freeBytes_filed t _ _
        obtain ⟨hframes, hslots, hquiet, hreport⟩ := ih (t := refreshUniverse t u)
          (h.tail (refreshUniverse_touches u t) fun i hi => by
            rw [hstep]
            exact (hslot i).2 fun hc => hi hc.1)
        rw [hfree] at hframes hslots hquiet hreport
        have hlog : (refreshUniverse t u).log = t.log := by rw [hstep]; rfl
        have hlatch : ExpressLatched (refreshUniverse t u) ↔ ExpressLatched t := by
          rw [hstep]
          exact expressLatched_filed _ _ _
        have hexpress : expressFrames (refreshUniverse t u) = expressFrames t ++ [refreshFrame t u start count] := by
          rw [hstep]
          exact congrArg Queue.frames (filedIn_same t .rackExpress _)
        have hfiled := filedUniverses_filed us hof hroom
        constructor <;> rw [hfiled]
        · rw [hframes, hexpress, List.filterMap_cons_some hof, List.append_assoc]
          rfl
        · intro i
          obtain ⟨hcleared, hkept⟩ := hslots i
          refine ⟨fun ⟨hi, hcov⟩ => ?_, fun hnone => ?_⟩
          · rcases List.mem_cons.mp hi with hi | hi
            · rw [hkept fun hc => hnot (filedUniverses_sublist _ _ _ _ (hi ▸ hc.1)), hstep]
              exact (hslot i).1 ⟨hi, hcov⟩
            · exact hcleared ⟨hi, hcov⟩
          · rw [hkept fun hc => hnone ⟨List.mem_cons_of_mem _ hc.1, hc.2⟩, hstep]
            exact (hslot i).2 fun hc => hnone ⟨by rw [hc.1]; exact List.mem_cons_self, hc.2⟩
        · rw [refusedFrames_filed hnot]
          rw [hlatch, hlog] at hquiet
          exact hquiet
        · rw [refusedFrames_filed hnot]
          rw [hlatch, hlog] at hreport
          exact hreport
      · have hstep := refreshUniverse_refused hspan (Nat.not_le.mp hroom)
        have hframesSame : expressFrames (refreshUniverse t u) = expressFrames t := by
          rw [hstep]
          exact overflowed_frames (by decide) _ t
        have hstream : (refreshUniverse t u).stream = t.stream := by
          rw [hstep]
          exact overflowed_stream _ _ _
        have htables : (refreshUniverse t u).tables = t.tables := by
          rw [hstep]
          exact overflowed_tables _ _ _
        have hfree := freeBytes_of_frames hframesSame htables
        obtain ⟨hframes, hslots, hquiet, hreport⟩ := ih (t := refreshUniverse t u)
          (h.tail (refreshUniverse_touches u t) fun i _ => by rw [hstream])
        rw [hfree] at hframes hslots hquiet hreport
        have hfiled := filedUniverses_refused us hof hroom
        have hskip : refusedFrames (refreshOf s m)
            (filedUniverses (refreshOf s m) (freeBytes t.tables t.links .rackExpress) us) (u :: us)
            = refreshFrame t u start count :: refusedFrames (refreshOf s m)
              (filedUniverses (refreshOf s m) (freeBytes t.tables t.links .rackExpress) us) us := by
          rw [refusedFrames_cons fun hmem => hnot (filedUniverses_sublist _ _ _ _ hmem), hof]
          rfl
        constructor <;> rw [hfiled]
        · rw [hframes, hframesSame]
        · rw [hstream] at hslots
          exact hslots
        · rw [hskip]
          rintro (hlatched | hempty)
          · have hsame : refreshUniverse t u = t := hstep.trans (overflowed_of_latched _ hlatched)
            rw [hsame] at hquiet ⊢
            exact hquiet (.inl hlatched)
          · exact nomatch hempty
        · rw [hskip]
          intro f hopen hf
          obtain rfl := Option.some.inj hf
          obtain ⟨-, hlatched, -, hlog⟩ := overflowed_open_effect (s := t) (q := .rackExpress)
            (refreshFrame t u start count) (Bool.eq_false_iff.mpr hopen)
          rw [← hstep] at hlatched hlog
          obtain ⟨hlogSame, hstays⟩ := hquiet (.inl hlatched)
          obtain ⟨-, hspec⟩ := refreshSpanCoversMarks (universeSlots m u)
          have hshort := length_refreshFrame_le t u start (hspec start count hspan').2.1
          have hclock : houseClock t = houseClock s := by
            rw [houseClock, houseClock, show t.now = s.now from h.touches .now (by decide)]
          refine ⟨hstays.mpr hlatched, ?_⟩
          rw [hlogSame, hlog, hclock, Nat.min_eq_right hshort]
          rfl

/-! ### The level step -/

theorem carried_eq (s : State) (x : Slot) : carriedLevel s x = (match x.cls with
    | .pass => x.shadow
    | .house h => s.levels.channels[h].output
    | .guard g => if s.effects.set.stageSafe then s.tables.guards[g].safe else x.shadow) := by
  unfold carriedLevel guardLevel
  cases x.cls <;> rfl

theorem levelStepRefreshes : Parts.LevelStepRefreshes := by
  intro s
  refine ⟨_, exec_levelStep s, (resolveAll s).stream.slots, ?_⟩
  have hreaches : RefreshReaches (resolveAll s) (resolveAll s).stream.slots [0, 1, 2, 3] (resolveAll s) :=
    ⟨onlyTouches_refl _ _, fun _ _ => rfl, by decide, by decide⟩
  obtain ⟨hframes, hslots, hquiet, hreport⟩ := refreshes [0, 1, 2, 3] hreaches
  rw [show [0, 1, 2, 3].foldl refreshUniverse (resolveAll s) = refreshAll (resolveAll s) from rfl]
    at hframes hslots hquiet hreport
  have hlevels : (refreshAll (resolveAll s)).levels = (resolveAll s).levels := (refreshAll_touches _) .levels (by decide)
  intro changed carried frameOf covered old queue filed refused cleared
  have hframeOf : frameOf = refreshOf (resolveAll s) (resolveAll s).stream.slots := by
    funext u
    cases hspan : refreshSpan (universeSlots (resolveAll s).stream.slots u) with
    | none => simp only [frameOf, refreshOf, hspan, Option.map_none]
    | some span =>
      obtain ⟨-, hspec⟩ := refreshSpanCoversMarks (universeSlots (resolveAll s).stream.slots u)
      have hend := (hspec span.1 span.2 hspan).2.2.1
      have hcarried : carried = carriedLevel (resolveAll s) := by
        funext x
        rw [carried_eq, ← hlevels] <;> rfl
      simp only [frameOf, refreshOf, hspan, Option.map_some, hcarried, levelsBody, List.length_map, List.length_take,
        List.length_drop]
      rw [Nat.min_eq_left (by omega)]
      rfl
  have hfiled : filed = filedUniverses (refreshOf (resolveAll s) (resolveAll s).stream.slots)
      (freeBytes (resolveAll s).tables (resolveAll s).links .rackExpress) [0, 1, 2, 3] := by
    rw [← hframeOf]
    rfl
  have hrefused : refused = refusedFrames (refreshOf (resolveAll s) (resolveAll s).stream.slots) filed [0, 1, 2, 3] := by
    rw [← hframeOf]
    rfl
  rw [← hfiled] at hframes hslots hquiet hreport
  rw [← hrefused] at hquiet hreport
  rw [← hframeOf] at hframes
  refine ⟨fun i => ?marks, hframes, hslots, fun hcase => ?quiet, fun f hopen hf => ?report⟩
  case marks =>
    obtain ⟨hslot, hdirty⟩ := markChanged_marks s.tables s.levels.channels (tabulate 96 (stepChannel s)) i
      (List.finRange 96) s.stream.slots
    have hslotsEq : (resolveAll s).stream.slots
        = markChanged s.tables s.levels.channels (tabulate 96 (stepChannel s)) s.stream.slots := rfl
    rw [← markChanged_eq, ← hslotsEq] at hslot hdirty
    refine ⟨hslot, hdirty.trans (or_congr Iff.rfl ?_)⟩
    have hnew (h : ChannelId) : (refreshAll (resolveAll s)).levels.channels[h]
        = (tabulate 96 (stepChannel s))[h] := by rw [levels_levelStep]
    simp only [List.mem_finRange, true_and, ChangedAt, ← hnew]
    exact Iff.rfl
  case quiet =>
    obtain ⟨hlog, hlatch⟩ := hquiet hcase
    exact ⟨hlog, Bool.eq_iff_iff.mpr hlatch⟩
  case report =>
    obtain ⟨hlatch, hlog⟩ := hreport f (Bool.eq_false_iff.mp hopen) hf
    exact ⟨hlatch, hlog⟩

/-- Settles O19, by the slots' marks, the first and last marked slot of a universe, and the universes taken in order. -/
theorem refreshMarksAndSpans : Obligations.RefreshMarksAndSpans :=
  ⟨periodicRefreshMarks, refreshSpanCoversMarks, levelStepRefreshes⟩

end Sys2Proof.Machine
end


section
/-! The LEVELS frames of the console (R54, R58 to R62). -/

namespace Sys2Proof.Machine

/-! ### What a frame is judged to be -/

/-- A LEVELS body that is well formed (R59). -/
abbrev GoodLevels (body : List Byte) : Prop :=
  3 ≤ body.length ∧ 1 ≤ (byteAt body 2).toNat ∧ (byteAt body 2).toNat ≤ 64
    ∧ (byteAt body 1).toNat + (byteAt body 2).toNat ≤ 256 ∧ body.length = 3 + (byteAt body 2).toNat

/-- The index of a LEVELS frame's first slot. -/
abbrev firstSlot (body : List Byte) : Nat := 256 * (byteAt body 0).toNat + (byteAt body 1).toNat

theorem wellFormedLevels_iff (body : List Byte) : wellFormedLevels body = true ↔ GoodLevels body := by
  simp only [wellFormedLevels, Bool.and_eq_true, decide_eq_true_iff, GoodLevels, and_assoc]

section
variable {s : State} {f : Frame} {rest : List Frame}

theorem exec_takeLevels (hidle : s.restart = .idle) (hhead : AtHead s .consoleRx f rest) (hkind : frameKind f = 0x10) :
    exec .takeLevels s = .next (takeLevelsFrame f (dropHead .consoleRx s)) := by
  have hexec : exec .takeLevels s = execTakeLevels s := rfl
  rw [hexec, execTakeLevels, consoleHead_of_atHead hidle hhead]
  exact if_pos hkind

theorem takeLevelsFrame_foreign (hbody : frameBody f ≠ []) (hforeign : 3 < (byteAt (frameBody f) 0).toNat) :
    takeLevelsFrame f s = offer .rackPass f s := by
  have hfull : (frameBody f).isEmpty = false := List.isEmpty_eq_false_iff.mpr hbody
  rw [takeLevelsFrame]
  rw [hfull, if_neg Bool.false_ne_true, if_pos hforeign]

theorem takeLevelsFrame_malformed
    (h : frameBody f = [] ∨ ((byteAt (frameBody f) 0).toNat ≤ 3 ∧ ¬GoodLevels (frameBody f))) :
    takeLevelsFrame f s = malformedLevels (frameBody f) s := by
  rw [takeLevelsFrame]
  rcases h with hempty | ⟨hours, hbad⟩
  · rw [hempty]
    rfl
  · rw [if_neg (Nat.not_lt.mpr hours), if_neg fun hgood => hbad ((wellFormedLevels_iff _).mp hgood), ite_self]

theorem takeLevelsFrame_good (hours : (byteAt (frameBody f) 0).toNat ≤ 3) (hgood : GoodLevels (frameBody f)) :
    takeLevelsFrame f s = takeWellFormed f s := by
  have hfull : (frameBody f).isEmpty = false := List.isEmpty_eq_false_iff.mpr fun hempty => by
    have hlength := hgood.1
    rw [hempty] at hlength
    exact absurd hlength (by decide)
  rw [takeLevelsFrame]
  rw [hfull, if_neg Bool.false_ne_true, if_neg (Nat.not_lt.mpr hours), if_pos ((wellFormedLevels_iff _).mpr hgood)]

end

/-! ### The run of levels taken -/

/-- The levels of a frame worked into the slots it covers (R60). -/
def slotTaken (s : State) (body : List Byte) (i : Fin 1024) : Slot :=
  if firstSlot body ≤ i.val ∧ i.val < firstSlot body + (byteAt body 2).toNat
  then takeLevel s.effects.set.stageSafe s.stream.slots[i] (byteAt body (3 + (i.val - firstSlot body)))
  else s.stream.slots[i]

/-- The slots a frame covers, each with its level. -/
def runOf (s : State) (body : List Byte) : List (Slot × Byte) :=
  ((s.stream.slots.toList.drop (firstSlot body)).take (body.drop 3).length).zip (body.drop 3)

/-- The state as a well-formed frame's levels have been taken, before it is passed on (R54, R60). -/
structure LevelsTaken (s : State) (body : List Byte) (t : State) : Prop where
  touches : OnlyTouches [.stream, .levels, .links, .log] s t
  freshness : t.stream.freshness = .fresh
  holdTimer : t.stream.holdTimer = none
  consoleTimer : t.stream.consoleTimer = some (s.now + s.tables.stream.timeout.toNat * 100)
  slots : ∀ i : Fin 1024, t.stream.slots[i] = slotTaken s body i
  levels : t.levels = { s.levels with channels := (runOf s body).foldl takeRequest s.levels.channels }

/-- The state as the stream has become FRESH (R54). -/
def streamFreshened (body : List Byte) (s : State) : State :=
  refreshConsole (s.withStream { s.stream with
    malformed := putAt (putAt s.stream.malformed (latchOf body) false) 4 false })

section
variable {s : State} {body : List Byte} {f : Frame}

theorem setFreshness_touches (x : Freshness) (s : State) : OnlyTouches [.stream, .links, .log] s (setFreshness x s) :=
  onlyTouches_trans (onlyTouches_mono (by simp) (onlyTouches_withStream s _))
    (onlyTouches_mono (by simp) (writeRecord_onlyTouches _ _ _ _ _))

theorem refreshConsole_effect (s : State) : OnlyTouches [.stream, .links, .log] s (refreshConsole s)
    ∧ (refreshConsole s).stream.freshness = .fresh ∧ (refreshConsole s).stream.holdTimer = none
    ∧ (refreshConsole s).stream.consoleTimer = some (s.now + s.tables.stream.timeout.toNat * 100)
    ∧ (refreshConsole s).stream.slots = s.stream.slots := by
  have hstart := onlyTouches_withStream s { s.stream with
    consoleTimer := afterMs s s.tables.stream.timeout.toNat, holdTimer := none }
  unfold refreshConsole
  dsimp only
  split
  next hfresh => exact ⟨onlyTouches_mono (by simp) hstart, hfresh, rfl, rfl, rfl⟩
  next => exact ⟨onlyTouches_trans (onlyTouches_mono (by simp) hstart) (setFreshness_touches .fresh _), rfl, rfl, rfl, rfl⟩

theorem refreshConsole_fresh (h : s.stream.freshness = .fresh) : (refreshConsole s).links = s.links := by
  unfold refreshConsole
  exact (congrArg State.links (if_pos h)).trans rfl

theorem takeWellFormed_eq (f : Frame) (s : State) : takeWellFormed f s
    = passRewritten (rewritten f (firstSlot (frameBody f)) ((frameBody f).drop 3).length
        (takeRun (firstSlot (frameBody f)) ((frameBody f).drop 3) (streamFreshened (frameBody f) s)))
      (firstSlot (frameBody f)) ((frameBody f).drop 3).length
      (takeRun (firstSlot (frameBody f)) ((frameBody f).drop 3) (streamFreshened (frameBody f) s)) := rfl

theorem length_levels (hgood : GoodLevels body) : (body.drop 3).length = (byteAt body 2).toNat := by
  obtain ⟨-, -, -, -, hlength⟩ := hgood
  rw [List.length_drop, hlength]
  omega

theorem level_at (body : List Byte) (k : Nat) : (body.drop 3).getD k 0 = byteAt body (3 + k) := by
  simp [byteAt, List.getD_eq_getElem?_getD, List.getElem?_drop]

theorem levelsTaken (hgood : GoodLevels body) :
    LevelsTaken s body (takeRun (firstSlot body) (body.drop 3) (streamFreshened body s)) := by
  obtain ⟨htouch, hfresh, hhold, hconsole, hslots⟩ := refreshConsole_effect (s.withStream { s.stream with
    malformed := putAt (putAt s.stream.malformed (latchOf body) false) 4 false })
  have hstart : OnlyTouches [.stream, .levels, .links, .log] s (streamFreshened body s) :=
    onlyTouches_trans (onlyTouches_mono (by simp) (onlyTouches_withStream s _)) (onlyTouches_mono (by simp) htouch)
  have hlevels : (streamFreshened body s).levels = s.levels := htouch .levels (by decide)
  have heffects : (streamFreshened body s).effects = s.effects := htouch .effects (by decide)
  have hslots' : (streamFreshened body s).stream.slots = s.stream.slots := hslots
  refine ⟨onlyTouches_trans hstart (onlyTouches_trans (onlyTouches_mono (by simp) (onlyTouches_withStream _ _))
    (onlyTouches_mono (by simp) (onlyTouches_withLevels _ _))), hfresh, hhold, hconsole, fun i => ?_, ?_⟩
  · have hget := zipRangeVec_get (takeLevel (streamFreshened body s).effects.set.stageSafe) 0 (firstSlot body)
      (body.drop 3) (streamFreshened body s).stream.slots i
    rw [heffects, hslots', length_levels hgood, level_at] at hget
    rw [slotTaken, ← hget, ← hslots', ← heffects]
    rfl
  · rw [takeRun]
    dsimp only
    rw [withLevels_levels, hlevels, hslots', runOf]

/-! ### The requests of the HOUSE slots -/

theorem takeRequest_output (v : Vector Channel 96) (p : Slot × Byte) (h : ChannelId) :
    (takeRequest v p)[h].output = v[h].output := by
  unfold takeRequest
  split
  next k _ =>
    by_cases hk : h = k
    · rw [hk, modAt_same]
    · rw [modAt_other _ _ hk]
  · rfl
  · rfl

theorem takeRequest_house {v : Vector Channel 96} {p : Slot × Byte} {h : ChannelId} (hp : p.1.cls = .house h) :
    (takeRequest v p)[h].request = p.2 ∧ (takeRequest v p)[h].seen = true := by
  rw [takeRequest, hp]
  dsimp only
  rw [modAt_same]
  exact ⟨rfl, rfl⟩

theorem takeRequest_other {v : Vector Channel 96} {p : Slot × Byte} {h : ChannelId} (hp : p.1.cls ≠ .house h) :
    (takeRequest v p)[h] = v[h] := by
  unfold takeRequest
  split
  next k hk =>
    refine modAt_other _ _ fun hhk => hp ?_
    rw [hk, hhk]
  · rfl
  · rfl

theorem takeRequests_output (ps : List (Slot × Byte)) (v : Vector Channel 96) (h : ChannelId) :
    (ps.foldl takeRequest v)[h].output = v[h].output := by
  induction ps generalizing v with
  | nil => rfl
  | cons p ps ih => exact (ih _).trans (takeRequest_output v p h)

theorem takeRequests_other {ps : List (Slot × Byte)} {h : ChannelId} (hnone : ∀ p ∈ ps, p.1.cls ≠ .house h)
    (v : Vector Channel 96) : (ps.foldl takeRequest v)[h] = v[h] := by
  induction ps generalizing v with
  | nil => rfl
  | cons p ps ih =>
    exact (ih (fun q hq => hnone q (List.mem_cons_of_mem _ hq)) _).trans
      (takeRequest_other (hnone p List.mem_cons_self))

/-- A channel of which every slot in the run has the one level. -/
theorem takeRequests_house {ps : List (Slot × Byte)} {h : ChannelId} {y : Byte}
    (hlevel : ∀ p ∈ ps, p.1.cls = .house h → p.2 = y) (hsome : ∃ p ∈ ps, p.1.cls = .house h) (v : Vector Channel 96) :
    (ps.foldl takeRequest v)[h].request = y ∧ (ps.foldl takeRequest v)[h].seen = true := by
  induction ps generalizing v with
  | nil =>
    obtain ⟨p, hp, -⟩ := hsome
    cases hp
  | cons p ps ih =>
    rw [List.foldl_cons]
    by_cases hlater : ∃ q ∈ ps, q.1.cls = .house h
    · exact ih (fun q hq => hlevel q (List.mem_cons_of_mem _ hq)) hlater _
    · have hnone : ∀ q ∈ ps, q.1.cls ≠ .house h := fun q hq hcls => hlater ⟨q, hq, hcls⟩
      have hp : p.1.cls = .house h := by
        obtain ⟨q, hq, hcls⟩ := hsome
        rcases List.mem_cons.mp hq with rfl | hq
        · exact hcls
        · exact absurd hcls (hnone q hq)
      rw [takeRequests_other hnone, (takeRequest_house hp).1, (takeRequest_house hp).2]
      exact ⟨hlevel p List.mem_cons_self hp, rfl⟩

/-- The slots and levels of a frame's run, by their indices. -/
theorem mem_runOf (hgood : GoodLevels body) {p : Slot × Byte} : p ∈ runOf s body ↔ ∃ i : Fin 1024,
    firstSlot body ≤ i.val ∧ i.val < firstSlot body + (byteAt body 2).toNat
      ∧ p = (s.stream.slots[i], byteAt body (3 + (i.val - firstSlot body))) := by
  have hlength := length_levels hgood
  rw [List.mem_iff_getElem]
  constructor
  · rintro ⟨k, hk, rfl⟩
    have hk' := hk
    simp only [runOf, List.length_zip, List.length_take, hlength, List.length_drop, Vector.length_toList,
      lt_inf_iff] at hk'
    obtain ⟨⟨hcount, hinside⟩, -⟩ := hk'
    refine ⟨⟨firstSlot body + k, by omega⟩, Nat.le_add_right _ _, Nat.add_lt_add_left hcount _, ?_⟩
    have hlevel := level_at body k
    rw [List.getD_eq_getElem _ _ (by rw [hlength]; exact hcount)] at hlevel
    simp only [runOf, List.getElem_zip, List.getElem_take, hlevel, Nat.add_sub_cancel_left]
    rw [List.getElem_drop]
    rfl
  · rintro ⟨i, hlow, hhigh, rfl⟩
    have hk : i.val - firstSlot body < (runOf s body).length := by
      simp only [runOf, List.length_zip, List.length_take, hlength, List.length_drop, Vector.length_toList]
      omega
    refine ⟨i.val - firstSlot body, hk, ?_⟩
    have hlevel := level_at body (i.val - firstSlot body)
    rw [List.getD_eq_getElem _ _ (by rw [hlength]; omega)] at hlevel
    have hindex : firstSlot body + (i.val - firstSlot body) = i.val := by omega
    simp only [runOf, List.getElem_zip, List.getElem_take, hlevel, List.getElem_drop, hindex]
    rfl

/-! ### The frame passed on -/

/-- What the passing of a frame makes of the state: the marks of its run, all else of the stream as it was. -/
theorem passRewritten_effect (f : Frame) (first n : Nat) (s : State) :
    OnlyTouches [.stream, .links, .log] s (passRewritten f first n s)
      ∧ ∃ mark, (mark = clearHeld ∨ mark = markHeld)
        ∧ (passRewritten f first n s).stream = { s.stream with slots := mapRangeVec mark first n s.stream.slots } := by
  unfold passRewritten
  split
  · exact ⟨onlyTouches_trans (onlyTouches_mono (by simp) (onlyTouches_withLinks s _))
      (onlyTouches_mono (by simp) (onlyTouches_withStream _ _)), clearHeld, .inl rfl, rfl⟩
  next hnone =>
    refine ⟨onlyTouches_trans (onlyTouches_mono (by simp) (onlyTouches_withStream s _)) (onlyTouches_mono (by simp)
      (offer_of_none (s := withSlots s (mapRangeVec markHeld first n s.stream.slots)) hnone ▸ offer_onlyTouches _ _ _)),
      markHeld, .inr rfl, overflowed_stream _ _ _⟩

theorem mark_keeps {mark : Slot → Slot} (h : mark = clearHeld ∨ mark = markHeld) (x : Slot) :
    (mark x).shadow = x.shadow ∧ (mark x).seen = x.seen ∧ (mark x).cls = x.cls := by
  rcases h with rfl | rfl
  · unfold clearHeld
    split
    · exact ⟨rfl, rfl, rfl⟩
    · exact ⟨rfl, rfl, rfl⟩
  · unfold markHeld
    split
    · exact ⟨rfl, rfl, rfl⟩
    · exact ⟨rfl, rfl, rfl⟩

end

/-- Settles O15, by the three tests of R58 and R59, and by what the run of levels and its passing on make of each slot
and each channel. -/
theorem levelsFrameSorted : Obligations.LevelsFrameSorted := by
  intro s f rest hidle hhead hkind body n first good
  have hexec := exec_takeLevels hidle hhead hkind
  refine ⟨fun hbody hforeign => ?foreign, fun hbad => ?malformed, fun hours hgood => ?good⟩
  case foreign => rw [hexec, takeLevelsFrame_foreign hbody hforeign]
  case malformed =>
    rw [takeLevelsFrame_malformed hbad] at hexec
    refine ⟨fun hlatched => ?_, fun hopen => ?_⟩
    · rw [hexec]
      exact congrArg Host.Outcome.next (if_pos hlatched)
    · have hnot : ¬(dropHead .consoleRx s).stream.malformed[latchOf (frameBody f)] = true :=
        Bool.eq_false_iff.mp hopen
      rw [hexec, malformedLevels, if_neg hnot]
      by_cases hempty : body = []
      · rw [if_pos hempty, if_pos (List.isEmpty_iff.mpr hempty)]
        rfl
      · rw [if_neg hempty, if_neg fun h => hempty (List.isEmpty_iff.mp h)]
        rfl
  case good =>
    rw [takeLevelsFrame_good hours hgood, takeWellFormed_eq] at hexec
    have htaken : LevelsTaken (dropHead .consoleRx s) body
      (takeRun (firstSlot body) (body.drop 3) (streamFreshened body (dropHead .consoleRx s))) := levelsTaken hgood
    refine ⟨_, hexec, ?_⟩
    generalize hu : takeRun (firstSlot (frameBody f)) ((frameBody f).drop 3)
      (streamFreshened (frameBody f) (dropHead .consoleRx s)) = u
    rw [show takeRun (firstSlot body) (body.drop 3) (streamFreshened body (dropHead .consoleRx s)) = u from hu] at htaken
    obtain ⟨htouch, mark, hmark, hstream⟩ := passRewritten_effect
      (rewritten f (firstSlot body) (body.drop 3).length u) (firstSlot body) (body.drop 3).length u
    generalize hr : passRewritten (rewritten f (firstSlot (frameBody f)) ((frameBody f).drop 3).length u)
      (firstSlot (frameBody f)) ((frameBody f).drop 3).length u = r
    rw [show passRewritten (rewritten f (firstSlot body) (body.drop 3).length u) (firstSlot body) (body.drop 3).length u
      = r from hr] at htouch hstream
    have hlevels : r.levels = { s.levels with channels := (runOf s body).foldl takeRequest s.levels.channels } :=
      (htouch .levels (by decide)).trans htaken.levels
    have hslot (i : Fin 1024) : r.stream.slots[i]
        = if first ≤ i.val ∧ i.val < first + n then mark (slotTaken s body i) else slotTaken s body i := by
      rw [hstream]
      refine (mapRangeVec_get mark _ _ u.stream.slots i).trans ?_
      rw [length_levels hgood, htaken.slots i]
      rfl
    refine ⟨onlyTouches_trans (onlyTouches_mono (by simp) (dropHead_onlyTouches .consoleRx s))
        (onlyTouches_trans htaken.touches (onlyTouches_mono (by simp) htouch)),
      by rw [hstream]; exact htaken.freshness, by rw [hstream]; exact htaken.holdTimer,
      by rw [hstream]; exact htaken.consoleTimer, fun i => ?_, by rw [hlevels], by rw [hlevels], fun h => ?_,
      fun i h hlow hhigh hcls hunique => ?_, fun h hnone => ?_⟩
    · split
      next hin =>
        obtain ⟨hshadow, hseen, hsame⟩ := mark_keeps hmark (slotTaken s body i)
        have hslotTaken : slotTaken s body i = takeLevel s.effects.set.stageSafe s.stream.slots[i]
          (byteAt body (3 + (i.val - first))) := if_pos hin
        rw [hslot, if_pos hin, hshadow, hseen, hsame, hslotTaken]
        exact ⟨rfl, rfl, rfl⟩
      next hout =>
        rw [hslot, if_neg hout]
        exact if_neg hout
    · rw [hlevels]
      exact takeRequests_output _ _ h
    · rw [hlevels]
      refine takeRequests_house (fun p hp hhouse => ?_) ⟨_, (mem_runOf hgood).mpr ⟨i, hlow, hhigh, rfl⟩, hcls⟩ _
      obtain ⟨j, -, -, rfl⟩ := (mem_runOf hgood).mp hp
      rw [hunique j hhouse]
    · rw [hlevels]
      refine takeRequests_other (fun p hp hhouse => ?_) _
      obtain ⟨j, hjlow, hjhigh, rfl⟩ := (mem_runOf hgood).mp hp
      exact hnone j hjlow hjhigh hhouse

end Sys2Proof.Machine
end


section
/-! The LEVELS frame passed on (R61, R62). -/

namespace Sys2Proof.Machine

/-- What the rewritten frame carries in the slot `k` places behind its first (R61). -/
def carriedThrough (s : State) (body : List Byte) (k : Nat) : Byte :=
  match (slotAt s.stream.slots (firstSlot body + k)).cls with
  | .pass => byteAt body (3 + k)
  | .house h => s.levels.channels[h].output
  | .guard g => if s.effects.set.stageSafe then s.tables.guards[g].safe else byteAt body (3 + k)

/-- The frame as it is passed on (R61). -/
def passedFrame (s : State) (f : Frame) : Frame :=
  mkFrame 0x10 (frameStation f) (byteAt (frameBody f) 0 :: byteAt (frameBody f) 1 :: byteAt (frameBody f) 2
    :: (List.range (byteAt (frameBody f) 2).toNat).map (carriedThrough s (frameBody f)))

section
variable {s u : State} {f : Frame} {body : List Byte}

theorem slotAt_of_lt (v : Vector Slot 1024) {i : Nat} (hi : i < 1024) : slotAt v i = v[(⟨i, hi⟩ : Fin 1024)] := by
  rw [slotAt, Vector.getD, Array.getD, dif_pos (by simpa using hi)]
  rfl

theorem carriedLevel_taken (htaken : LevelsTaken s body u) {i : Fin 1024} {k : Nat} (hi : i.val = firstSlot body + k)
    (hk : k < (byteAt body 2).toNat) : carriedLevel u u.stream.slots[i] = carriedThrough s body k := by
  have hslot : u.stream.slots[i] = takeLevel s.effects.set.stageSafe s.stream.slots[i] (byteAt body (3 + k)) := by
    rw [htaken.slots, slotTaken, if_pos ⟨by omega, by omega⟩, show i.val - firstSlot body = k by omega]
  have hat : slotAt s.stream.slots (firstSlot body + k) = s.stream.slots[i] := by
    rw [← hi]
    exact slotAt_of_lt _ i.isLt
  have houtput (h : ChannelId) : u.levels.channels[h].output = s.levels.channels[h].output := by
    rw [htaken.levels]
    exact takeRequests_output _ _ h
  have heffects : u.effects = s.effects := htaken.touches .effects (by decide)
  have htables : u.tables = s.tables := htaken.touches .tables (by decide)
  have hcls : u.stream.slots[i].cls = s.stream.slots[i].cls := (congrArg Slot.cls hslot).trans rfl
  have hshadow : u.stream.slots[i].shadow = byteAt body (3 + k) := (congrArg Slot.shadow hslot).trans rfl
  unfold carriedLevel carriedThrough guardLevel
  rw [hat, hcls, hshadow, heffects, htables]
  cases s.stream.slots[i].cls with
  | pass => rfl
  | house h => exact houtput h
  | guard g => rfl

theorem firstSlot_run (hours : (byteAt body 0).toNat ≤ 3) (hgood : GoodLevels body) :
    firstSlot body + (byteAt body 2).toNat ≤ 1024 := by
  obtain ⟨-, -, -, hend, -⟩ := hgood
  rw [firstSlot]
  omega

/-- The levels of the rewritten frame are those it is to carry. -/
theorem carriedLevels_taken (htaken : LevelsTaken s body u) (hours : (byteAt body 0).toNat ≤ 3) (hgood : GoodLevels body) :
    ((u.stream.slots.toList.drop (firstSlot body)).take (byteAt body 2).toNat).map (carriedLevel u)
      = (List.range (byteAt body 2).toNat).map (carriedThrough s body) := by
  have hrun := firstSlot_run hours hgood
  refine List.ext_getElem ?_ fun k hk _ => ?_
  · rw [List.length_map, List.length_take, List.length_drop, Vector.length_toList, List.length_map, List.length_range]
    omega
  · rw [List.length_map, List.length_take] at hk
    have hin : k < (byteAt body 2).toNat := (lt_inf_iff.mp hk).1
    rw [List.getElem_map, List.getElem_map, List.getElem_range, List.getElem_take, List.getElem_drop,
      Vector.getElem_toList]
    exact carriedLevel_taken (i := ⟨firstSlot body + k, by omega⟩) htaken rfl hin

theorem rewritten_eq (hkind : frameKind f = 0x10) (htaken : LevelsTaken s (frameBody f) u)
    (hours : (byteAt (frameBody f) 0).toNat ≤ 3) (hgood : GoodLevels (frameBody f)) :
    rewritten f (firstSlot (frameBody f)) ((frameBody f).drop 3).length u = passedFrame s f := by
  have hlength : byteOf ((List.range (byteAt (frameBody f) 2).toNat).map (carriedThrough s (frameBody f))).length
      = byteAt (frameBody f) 2 := by
    rw [List.length_map, List.length_range, byteOf, BitVec.ofNat_toNat, BitVec.setWidth_eq]
  rw [rewritten]
  rw [length_levels hgood, carriedLevels_taken htaken hours hgood, hkind, levelsBody, hlength]
  rfl

theorem clearHeld_dirty {x : Slot} (h : x.cls ≠ .pass) : (clearHeld x).dirty = false := by
  rw [clearHeld, if_neg h]

theorem markHeld_dirty {x : Slot} (h : x.cls ≠ .pass) : (markHeld x).dirty = true := by
  rw [markHeld, if_neg h]

theorem passRewritten_filed {g : Frame} (hroom : g.length + 4 ≤ freeBytes u.tables u.links .rackPass) (first n : Nat) :
    (passRewritten g first n u).links.queues[QueueId.rackPass.ix]
        = { u.links.queues[QueueId.rackPass.ix] with frames := u.links.queues[QueueId.rackPass.ix].frames ++ [g] }
      ∧ (passRewritten g first n u).stream.slots = mapRangeVec clearHeld first n u.stream.slots := by
  rw [passRewritten, tryFile_of_room hroom]
  exact ⟨filedIn_same u .rackPass g, rfl⟩

theorem passRewritten_refused {g : Frame} (hfull : freeBytes u.tables u.links .rackPass < g.length + 4) (first n : Nat) :
    (passRewritten g first n u).links.queues[QueueId.rackPass.ix].frames
        = u.links.queues[QueueId.rackPass.ix].frames
      ∧ (passRewritten g first n u).stream.slots = mapRangeVec markHeld first n u.stream.slots := by
  rw [passRewritten, tryFile_of_full hfull]
  exact ⟨overflowed_frames (by decide) _ _, congrArg StreamState.slots (overflowed_stream _ _ _)⟩

end

/-- Settles O16, by the levels taken (O15), the frame built from them, and its two outcomes at RACK-PASS. -/
theorem levelsFrameRewritten : Obligations.LevelsFrameRewritten := by
  intro s f rest hidle hhead hkind body n first hours hlow hhigh hend hlength hfresh
  have hgood : GoodLevels (frameBody f) := ⟨by rw [show (frameBody f).length = _ from hlength]; omega, hlow, hhigh, hend,
    hlength⟩
  have hexec := exec_takeLevels hidle hhead hkind
  rw [takeLevelsFrame_good hours hgood, takeWellFormed_eq] at hexec
  have htaken : LevelsTaken (dropHead .consoleRx s) (frameBody f) (takeRun (firstSlot (frameBody f))
    ((frameBody f).drop 3) (streamFreshened (frameBody f) (dropHead .consoleRx s))) := levelsTaken hgood
  have hlinks : (takeRun (firstSlot (frameBody f)) ((frameBody f).drop 3)
      (streamFreshened (frameBody f) (dropHead .consoleRx s))).links = popFrame .consoleRx s.links :=
    refreshConsole_fresh hfresh
  generalize takeRun (firstSlot (frameBody f)) ((frameBody f).drop 3)
    (streamFreshened (frameBody f) (dropHead .consoleRx s)) = u at hexec htaken hlinks
  rw [rewritten_eq hkind htaken hours hgood, length_levels hgood] at hexec
  have hqueue : u.links.queues[QueueId.rackPass.ix] = s.links.queues[QueueId.rackPass.ix] := by
    rw [hlinks]
    exact popFrame_other (by decide) s.links
  have htables : u.tables = s.tables := htaken.touches .tables (by decide)
  have hfree : freeBytes u.tables u.links .rackPass = freeBytes s.tables s.links .rackPass := by
    rw [hlinks, htables]
    exact freeBytes_popFrame_other (by decide) _ _
  have hcls (i : Fin 1024) : u.stream.slots[i].cls = s.stream.slots[i].cls := by
    rw [htaken.slots, slotTaken]
    split
    · rfl
    · rfl
  refine ⟨_, hexec, fun hroom => ?filed, fun hfull => ?refused⟩
  case filed =>
    obtain ⟨hfiled, hslots⟩ := passRewritten_filed (g := passedFrame s f) (hfree.symm ▸ hroom) first n
    refine ⟨hfiled.trans (by rw [hqueue]; rfl), fun i hfrom hto hheld => ?_⟩
    have hmark := mapRangeVec_get clearHeld first n u.stream.slots i
    rw [if_pos ⟨hfrom, hto⟩, ← hslots] at hmark
    exact (congrArg Slot.dirty hmark).trans (clearHeld_dirty (hcls i ▸ hheld))
  case refused =>
    obtain ⟨hframes, hslots⟩ := passRewritten_refused (g := passedFrame s f) (hfree.symm ▸ hfull) first n
    refine ⟨hframes.trans (by rw [hqueue]), fun i hfrom hto hheld => ?_⟩
    have hmark := mapRangeVec_get markHeld first n u.stream.slots i
    rw [if_pos ⟨hfrom, hto⟩, ← hslots] at hmark
    exact (congrArg Slot.dirty hmark).trans (markHeld_dirty (hcls i ▸ hheld))

end Sys2Proof.Machine
end


section
/-! Tables taking force (R21, R22, R49, R67), and the values of the power-on sequence (R3, R29). -/

namespace Sys2Proof.Machine

/-! ### The slot map derived from the tables -/

theorem mapVec_get {α β : Type} {n : Nat} (f : α → β) (v : Vector α n) (i : Fin n) : (mapVec f v)[i] = f v[i] := by
  simp [mapVec]

theorem markSlot_same (c : SlotClass) (i : Fin 1024) (v : Vector Slot 1024) :
    (markSlot c i.val v)[i] = { v[i] with cls := c, dirty := true } := by
  rw [markSlot, dif_pos i.isLt]
  simp

theorem markSlot_other (c : SlotClass) {k : Nat} {i : Fin 1024} (hk : k ≠ i.val) (v : Vector Slot 1024) :
    (markSlot c k v)[i] = v[i] := by
  rw [markSlot]
  split
  next => simp [hk]
  next => rfl

/-- The slots of some entries marked, each entry in use at its place. -/
def markAll {α : Type} (used : α → Bool) (place : α → Nat) (kind : α → SlotClass) (l : List α) (v : Vector Slot 1024) :
    Vector Slot 1024 :=
  l.foldl (fun v a => if used a then markSlot (kind a) (place a) v else v) v

/-- A slot after some entries have been marked: the mark of one that stands there, or as it was. -/
theorem markAll_get {α : Type} (used : α → Bool) (place : α → Nat) (kind : α → SlotClass) (l : List α)
    (v : Vector Slot 1024) (i : Fin 1024) :
    (∃ a ∈ l, used a = true ∧ place a = i.val
        ∧ (markAll used place kind l v)[i] = { v[i] with cls := kind a, dirty := true })
      ∨ ((∀ a ∈ l, used a = true → place a ≠ i.val) ∧ (markAll used place kind l v)[i] = v[i]) := by
  induction l generalizing v with
  | nil => exact .inr ⟨fun a ha => absurd ha List.not_mem_nil, rfl⟩
  | cons a l ih =>
    by_cases hhere : used a = true ∧ place a = i.val
    · obtain ⟨hused, hplace⟩ := hhere
      have hmark := markSlot_same (kind a) i v
      have hstep : markAll used place kind (a :: l) v = markAll used place kind l (markSlot (kind a) i.val v) := by
        rw [markAll, List.foldl_cons, if_pos hused, hplace]
        rfl
      rw [hstep]
      rcases ih (markSlot (kind a) i.val v) with ⟨b, hb, hbused, hbplace, hget⟩ | ⟨-, hget⟩
      · exact .inl ⟨b, List.mem_cons_of_mem _ hb, hbused, hbplace, by rw [hget, hmark]⟩
      · exact .inl ⟨a, List.mem_cons_self, hused, hplace, by rw [hget, hmark]⟩
    · have hkept : (if used a then markSlot (kind a) (place a) v else v)[i] = v[i] := by
        split
        next hused => exact markSlot_other _ (fun hplace => hhere ⟨hused, hplace⟩) v
        next => rfl
      have hnot : used a = true → place a ≠ i.val := fun hused hplace => hhere ⟨hused, hplace⟩
      rcases ih (if used a then markSlot (kind a) (place a) v else v) with ⟨b, hb, hbused, hbplace, hget⟩ | ⟨hnone, hget⟩
      · exact .inl ⟨b, List.mem_cons_of_mem _ hb, hbused, hbplace, hget.trans (by rw [hkept])⟩
      · refine .inr ⟨fun b hb => ?_, hget.trans hkept⟩
        rcases List.mem_cons.mp hb with rfl | hb
        · exact hnot
        · exact hnone b hb

/-- A channel in use whose slot is the one of an index (R19). -/
abbrev ChannelAt (t : Tables) (h : ChannelId) (i : Fin 1024) : Prop :=
  t.channels[h].inUse = 1 ∧ 256 * t.channels[h].univ.toNat + t.channels[h].slot.toNat = i.val

/-- A guard in use whose slot is the one of an index (R20). -/
abbrev GuardAt (t : Tables) (g : Fin 32) (i : Fin 1024) : Prop :=
  t.guards[g].inUse = 1 ∧ 256 * t.guards[g].univ.toNat + t.guards[g].slot.toNat = i.val

/-- R21, R67: each slot of the derived map is a channel's, a guard's that no channel has, or neither's. -/
theorem deriveSlots_get (t : Tables) (v : Vector Slot 1024) (i : Fin 1024) :
    (∃ h, ChannelAt t h i ∧ (deriveSlots t v)[i] = { v[i] with cls := .house h, dirty := true })
      ∨ ((∀ h, ¬ChannelAt t h i)
        ∧ ((∃ g, GuardAt t g i ∧ (deriveSlots t v)[i] = { v[i] with cls := .guard g, dirty := true })
          ∨ ((∀ g, ¬GuardAt t g i) ∧ (deriveSlots t v)[i] = { v[i] with cls := .pass, dirty := false }))) := by
  let clear := mapVec (fun x : Slot => { x with dirty := false, cls := .pass }) v
  let guards := markAll (fun g : Fin 32 => guardInUse t.guards[g])
    (fun g => slotIndex t.guards[g].univ t.guards[g].slot) .guard (List.finRange 32) clear
  have hclear : clear[i] = { v[i] with cls := .pass, dirty := false } := mapVec_get _ v i
  have hderive : deriveSlots t v = markAll (fun h : ChannelId => channelInUse t.channels[h])
    (fun h => slotIndex t.channels[h].univ t.channels[h].slot) .house (List.finRange 96) guards := rfl
  rw [hderive]
  have hguards : (∃ g, GuardAt t g i ∧ guards[i] = { v[i] with cls := .guard g, dirty := true })
      ∨ ((∀ g, ¬GuardAt t g i) ∧ guards[i] = { v[i] with cls := .pass, dirty := false }) := by
    rcases markAll_get (fun g : Fin 32 => guardInUse t.guards[g])
      (fun g => slotIndex t.guards[g].univ t.guards[g].slot) .guard (List.finRange 32) clear i with
      ⟨g, -, hused, hplace, hget⟩ | ⟨hnone, hget⟩
    · exact .inl ⟨g, ⟨of_decide_eq_true hused, hplace⟩, hget.trans (by rw [hclear])⟩
    · exact .inr ⟨fun g hg => hnone g (List.mem_finRange g) (decide_eq_true hg.1) hg.2, hget.trans hclear⟩
  rcases markAll_get (fun h : ChannelId => channelInUse t.channels[h])
    (fun h => slotIndex t.channels[h].univ t.channels[h].slot) .house (List.finRange 96) guards i with
    ⟨h, -, hused, hplace, hget⟩ | ⟨hnone, hget⟩
  · refine .inl ⟨h, ⟨of_decide_eq_true hused, hplace⟩, hget.trans ?_⟩
    rcases hguards with ⟨g, -, hg⟩ | ⟨-, hg⟩
    · rw [hg]
    · rw [hg]
  · refine .inr ⟨fun h hh => hnone h (List.mem_finRange h) (decide_eq_true hh.1) hh.2, ?_⟩
    rw [hget]
    exact hguards

theorem deriveSlots_keeps (t : Tables) (v : Vector Slot 1024) (i : Fin 1024) : (deriveSlots t v)[i].shadow = v[i].shadow
    ∧ (deriveSlots t v)[i].seen = v[i].seen
    ∧ (deriveSlots t v)[i].dirty = decide ((deriveSlots t v)[i].cls ≠ .pass) := by
  rcases deriveSlots_get t v i with ⟨h, -, hget⟩ | ⟨-, ⟨g, -, hget⟩ | ⟨-, hget⟩⟩
  · rw [hget]
    exact ⟨rfl, rfl, rfl⟩
  · rw [hget]
    exact ⟨rfl, rfl, rfl⟩
  · rw [hget]
    exact ⟨rfl, rfl, rfl⟩

theorem deriveSlots_house {t : Tables} {v : Vector Slot 1024} {i : Fin 1024} {h : ChannelId}
    (hcls : (deriveSlots t v)[i].cls = .house h) : ChannelAt t h i := by
  rcases deriveSlots_get t v i with ⟨k, hk, hget⟩ | ⟨-, ⟨g, -, hget⟩ | ⟨-, hget⟩⟩
  · rw [hget] at hcls
    cases hcls
    exact hk
  · rw [hget] at hcls
    cases hcls
  · rw [hget] at hcls
    cases hcls

theorem deriveSlots_guard {t : Tables} {v : Vector Slot 1024} {i : Fin 1024} {g : Fin 32}
    (hcls : (deriveSlots t v)[i].cls = .guard g) : GuardAt t g i := by
  rcases deriveSlots_get t v i with ⟨k, -, hget⟩ | ⟨-, ⟨k, hk, hget⟩ | ⟨-, hget⟩⟩
  · rw [hget] at hcls
    cases hcls
  · rw [hget] at hcls
    cases hcls
    exact hk
  · rw [hget] at hcls
    cases hcls

theorem deriveSlots_pass {t : Tables} {v : Vector Slot 1024} {i : Fin 1024}
    (hcls : (deriveSlots t v)[i].cls = .pass) : (∀ h, ¬ChannelAt t h i) ∧ ∀ g, ¬GuardAt t g i := by
  rcases deriveSlots_get t v i with ⟨k, -, hget⟩ | ⟨hnone, ⟨k, -, hget⟩ | ⟨hno, -⟩⟩
  · rw [hget] at hcls
    cases hcls
  · rw [hget] at hcls
    cases hcls
  · exact ⟨hnone, hno⟩

theorem forcedChannel_unused {e : ChannelEntry} (he : e.inUse ≠ 1) (aud : Bool) (slots : Vector Slot 1024) :
    forcedChannel aud slots e = ⟨0, false, 0⟩ := if_neg fun h => he (of_decide_eq_true h)

theorem forcedChannel_used {e : ChannelEntry} (he : e.inUse = 1) (aud : Bool) (slots : Vector Slot 1024) :
    forcedChannel aud slots e = ⟨(slotAt slots (256 * e.univ.toNat + e.slot.toNat)).shadow,
      (slotAt slots (256 * e.univ.toNat + e.slot.toNat)).seen,
      byteOf (windowLevel aud e.floor.toNat e.ceiling.toNat e.loss.toNat)⟩ := if_pos (decide_eq_true he)

/-- A slot map on which nothing has been seen gives no request. -/
theorem slotAt_derived_blank (t : Tables) (i : Nat) :
    (slotAt (deriveSlots t (Vector.replicate 1024 blankSlot)) i).shadow = 0
      ∧ (slotAt (deriveSlots t (Vector.replicate 1024 blankSlot)) i).seen = false := by
  by_cases hi : i < 1024
  · obtain ⟨hshadow, hseen, -⟩ := deriveSlots_keeps t (Vector.replicate 1024 blankSlot) ⟨i, hi⟩
    rw [slotAt_of_lt _ hi, hshadow, hseen]
    simp [blankSlot]
  · rw [slotAt, Vector.getD, Array.getD, dif_neg (by simpa using hi)]
    exact ⟨rfl, rfl⟩

/-! ### The power-on sequence -/

theorem takeTravel_released {s : State} (hin : s.lines.limitIn = false) (hout : s.lines.limitOut = false)
    (hslow : s.lines.slowSw = false) : takeTravel s = s := by
  have hlimits : takeLimits s = s := by
    rw [takeLimits, hin, hout]
    rfl
  rw [takeTravel, hslow]
  exact (congrArg takeSlowSw hlimits).trans (by rw [takeSlowSw, hslow]; rfl)

theorem takeLines_released {s : State} (hin : s.lines.limitIn = false) (hout : s.lines.limitOut = false)
    (hslow : s.lines.slowSw = false) (hstage : s.lines.stageRelease = false) (hfire : s.lines.panelFire = false)
    (hdue : s.effects.noticeDue = false) (hfreed : s.calls.freed = false) : takeLines s = s := by
  rw [takeLines, hfire]
  rw [if_neg Bool.false_ne_true, takeTravel_released hin hout hslow, hstage]
  exact endAct_of_quiet hdue hfreed

/-- The Link Ports with nothing in them (R169). -/
def bareLinks : LinkState := ⟨Vector.replicate 7 ⟨[], false⟩, Vector.replicate 3 .free, Vector.replicate 3 false⟩

theorem bareLinks_queue (q : QueueId) : bareLinks.queues[q.ix] = ⟨[], false⟩ := by
  simp [bareLinks]

theorem length_eventFrame (t : Tables) (r : EventRecord) : (eventFrame t r).length = 17 := by
  rw [eventFrame, length_mkFrame]
  rfl

section
variable {t : Tables} (cause : ResetCause) (loaded : Bool)

theorem freshLinks_filed (hroom : 21 ≤ queueSize t .consoleTx) : freshLinks t cause loaded
    = startIfFree 0 .consoleTx (eventFrame t (resetRecord cause loaded))
      (pushFrame .consoleTx (eventFrame t (resetRecord cause loaded)) bareLinks) := by
  have hfits : hasRoom t bareLinks .consoleTx (eventFrame t (resetRecord cause loaded)) = true := by
    refine decide_eq_true ?_
    rw [storedSize, length_eventFrame, freeBytes, bareLinks_queue]
    exact hroom
  have hfile : tryFile t 0 .consoleTx (eventFrame t (resetRecord cause loaded)) bareLinks = some _ := if_pos hfits
  exact congrArg (Option.getD · bareLinks) hfile

theorem freshLinks_dropped (hfull : ¬21 ≤ queueSize t .consoleTx) : freshLinks t cause loaded = bareLinks := by
  have hfits : ¬hasRoom t bareLinks .consoleTx (eventFrame t (resetRecord cause loaded)) = true := by
    refine fun h => hfull ?_
    have hroom := of_decide_eq_true h
    rw [storedSize, length_eventFrame, freeBytes, bareLinks_queue] at hroom
    exact hroom
  have hfile : tryFile t 0 .consoleTx (eventFrame t (resetRecord cause loaded)) bareLinks = none := if_neg hfits
  exact congrArg (Option.getD · bareLinks) hfile

/-- The queues after reset: the EVENT frame of the RESET record waits where CONSOLE-TX has room for it (R187). -/
theorem freshLinks_queue (q : QueueId) : (freshLinks t cause loaded).queues[q.ix]
    = ⟨if q = .consoleTx ∧ 21 ≤ queueSize t .consoleTx then [eventFrame t (resetRecord cause loaded)] else [], false⟩ := by
  by_cases hroom : 21 ≤ queueSize t .consoleTx
  · rw [freshLinks_filed cause loaded hroom, startIfFree_queues]
    by_cases hq : q = .consoleTx
    · rw [hq, pushFrame_same, bareLinks_queue, if_pos ⟨rfl, hroom⟩]
      rfl
    · rw [pushFrame_other hq, bareLinks_queue, if_neg fun h => hq h.1]
  · rw [freshLinks_dropped cause loaded hroom, bareLinks_queue, if_neg fun h => hroom h.2]

theorem freshLinks_tx : (freshLinks t cause loaded).tx
    = if 21 ≤ queueSize t .consoleTx then bareLinks.tx.set Port.console.ix (.sending .consoleTx 17) else bareLinks.tx := by
  split
  next hroom =>
    rw [freshLinks_filed cause loaded hroom]
    have hstart : ∀ f : Frame, (startIfFree 0 .consoleTx f (pushFrame .consoleTx f bareLinks)).tx
        = bareLinks.tx.set Port.console.ix (.sending .consoleTx (0 + f.length)) := fun f => rfl
    rw [hstart, length_eventFrame]
  next hfull => rw [freshLinks_dropped cause loaded hfull]

theorem freshLinks_badLatch : (freshLinks t cause loaded).badLatch = Vector.replicate 3 false := by
  by_cases hroom : 21 ≤ queueSize t .consoleTx
  · rw [freshLinks_filed cause loaded hroom, startIfFree_badLatch]
    rfl
  · rw [freshLinks_dropped cause loaded hroom]
    rfl

end

/-- The part as the power-on sequence leaves it where no line of the governor or the panel is asserted. -/
theorem powerOnSequence_released {s : State} (hin : s.lines.limitIn = false) (hout : s.lines.limitOut = false)
    (hslow : s.lines.slowSw = false) (hstage : s.lines.stageRelease = false) (hfire : s.lines.panelFire = false)
    (cause : ResetCause) : powerOnSequence cause s
      = resetBlocks cause s.pending { s.lines with reset := false } (abandonWrite s.store) :=
  takeLines_released hin hout hslow hstage hfire rfl rfl

theorem freshSlots_get (t : Tables) (i : Fin 1024) : (freshStream t).slots[i].shadow = 0
    ∧ (freshStream t).slots[i].seen = false
    ∧ (freshStream t).slots[i].dirty = decide ((freshStream t).slots[i].cls ≠ .pass) := by
  obtain ⟨hshadow, hseen, hdirty⟩ := deriveSlots_keeps t (Vector.replicate 1024 blankSlot) i
  refine ⟨hshadow.trans ?_, hseen.trans ?_, hdirty⟩
  · simp [blankSlot]
  · simp [blankSlot]

theorem freshSlots_house {t : Tables} {i : Fin 1024} {h : ChannelId} (hcls : (freshStream t).slots[i].cls = .house h) :
    ChannelAt t h i := deriveSlots_house (v := Vector.replicate 1024 blankSlot) hcls

theorem freshSlots_guard {t : Tables} {i : Fin 1024} {g : Fin 32} (hcls : (freshStream t).slots[i].cls = .guard g) :
    GuardAt t g i := deriveSlots_guard (v := Vector.replicate 1024 blankSlot) hcls

theorem freshSlots_pass {t : Tables} {i : Fin 1024} (hcls : (freshStream t).slots[i].cls = .pass) :
    (∀ h, ¬ChannelAt t h i) ∧ ∀ g, ¬GuardAt t g i := deriveSlots_pass (v := Vector.replicate 1024 blankSlot) hcls

/-- R49, R50: a channel after the power-on sequence. -/
theorem freshChannel_get (t : Tables) (loaded : Bool) (h : ChannelId) :
    (freshLevels t (phaseAfterLoad loaded)).channels[h] = ⟨0, false, if t.channels[h].inUse = 1
      then byteOf (min t.channels[h].ceiling.toNat (if loaded then max t.channels[h].loss.toNat t.channels[h].floor.toNat
        else t.channels[h].loss.toNat)) else 0⟩ := by
  have hget : (freshLevels t (phaseAfterLoad loaded)).channels[h]
      = forcedChannel (audience (phaseAfterLoad loaded)) (freshStream t).slots t.channels[h] := mapVec_get _ _ h
  have haudience : audience (phaseAfterLoad loaded) = loaded := by
    cases loaded
    · rfl
    · rfl
  rw [hget, haudience]
  split
  next hused =>
    obtain ⟨hshadow, hseen⟩ := slotAt_derived_blank t (256 * t.channels[h].univ.toNat + t.channels[h].slot.toNat)
    rw [forcedChannel_used hused]
    exact congrArg₂ (fun x y => Channel.mk x y _) hshadow hseen
  next hunused => rw [forcedChannel_unused hunused]

theorem freshMaster_get (t : Tables) (loaded : Bool) (a : AreaId) :
    (freshLevels t (phaseAfterLoad loaded)).masters[a] = t.areas[a].master := mapVec_get _ _ a

/-- Settles O4, by the sequence without its line assertions, block by block: the slot map, the forced channels and the
queue of the RESET record's EVENT frame. -/
theorem powerOnValues : Obligations.PowerOnValues := by
  intro s hin hout hslow hstage hfire c hc hdue
  have hcause : ∃ cause : ResetCause, cause.code = c.2 ∧ exec c.1 s = .next (resetBlocks cause s.pending
      { s.lines with reset := false } (abandonWrite s.store)) := by
    have hreleased := powerOnSequence_released hin hout hslow hstage hfire
    rcases List.mem_cons.mp hc with rfl | hc
    · exact ⟨.powerOn, rfl, congrArg Host.Outcome.next (hreleased .powerOn)⟩
    · obtain rfl := List.mem_singleton.mp hc
      exact ⟨.restart, rfl, (if_pos (hdue rfl)).trans (congrArg Host.Outcome.next (hreleased .restart))⟩
  obtain ⟨cause, hcode, hexec⟩ := hcause
  generalize hstart : resetBlocks cause s.pending { s.lines with reset := false } (abandonWrite s.store) = t at hexec
  refine ⟨t, hexec, ?_⟩
  beta_reduce
  intro loaded r
  have hrecord : resetRecord cause loaded = r := by
    rw [resetRecord, hcode]
  have htables : t.tables = loadedTables (abandonWrite s.store).image := by rw [← hstart]; rfl
  have hstream : t.stream = freshStream t.tables := by rw [← hstart]; rfl
  have hlevels : t.levels = freshLevels t.tables (phaseAfterLoad loaded) := by rw [← hstart]; rfl
  have hlinks : t.links = freshLinks t.tables cause loaded := by rw [← hstart]; rfl
  have hcurtain : t.curtain = freshCurtain t.tables := by rw [← hstart]; rfl
  have hmonitor : t.monitor = freshZones t.tables := by rw [← hstart]; rfl
  have hlog : t.log = freshLog cause loaded := by rw [← hstart]; rfl
  have hphase : t.phase = freshPhase loaded := by rw [← hstart]; rfl
  refine ⟨?pending, ?now, ?lines, ?store, htables, ?working, hphase, ?fresh, ?console, ?hold, ?refresh, ?malformed,
    fun i => ?slot, fun h => ?channel, ?step, fun a => ?master, hcurtain, hmonitor, ?effects, ?calls, ?log, fun q => ?queue,
    ?txConsole, ?txRack, ?txPanel, ?bad, ?restart⟩
  case pending | now | lines | store | working | effects | calls | restart =>
    rw [← hstart]
    rfl
  case fresh | console | hold | refresh | malformed =>
    rw [hstream]
    rfl
  case slot =>
    intro x
    have hx : x = (freshStream t.tables).slots[i] := by rw [← hstream]
    obtain ⟨hshadow, hseen, hdirty⟩ := freshSlots_get t.tables i
    rw [hx]
    refine ⟨hshadow, hseen, hdirty, fun h hcls => freshSlots_house hcls, fun g hcls => freshSlots_guard hcls,
      fun hpass => ?_⟩
    obtain ⟨hhouse, hguard⟩ := freshSlots_pass hpass
    exact ⟨fun h hused hplace => hhouse h ⟨hused, hplace⟩, fun g hused hplace => hguard g ⟨hused, hplace⟩⟩
  case channel =>
    rw [hlevels]
    exact freshChannel_get t.tables loaded h
  case step =>
    rw [hlevels]
    rfl
  case master =>
    rw [hlevels]
    exact freshMaster_get t.tables loaded a
  case log =>
    rw [hlog, freshLog, hrecord]
    rfl
  case queue =>
    rw [hlinks, freshLinks_queue, hrecord]
  case txConsole =>
    rw [hlinks, freshLinks_tx]
    split
    · rfl
    · rfl
  case txRack =>
    rw [hlinks, freshLinks_tx]
    split
    · rfl
    · rfl
  case txPanel =>
    rw [hlinks, freshLinks_tx]
    split
    · rfl
    · rfl
  case bad =>
    rw [hlinks]
    exact freshLinks_badLatch cause loaded

end Sys2Proof.Machine
end


section
/-! FIRE reports (R108, R109, R110, R113, R119): the confirm decision, and what a fire makes of its zone by its state. -/

namespace Sys2Proof.Machine

section
variable {s t u : State} {z : ZoneId} {r c : Zone} {n : Byte} {starters : List Byte}

/-! ### The confirm decision after a calm act -/

/-- A calm act moves no zone into ALARM or out of it, and so does not move the stage to EVACUATE or from it. -/
theorem Settled.evacuate_iff (h : Settled s u z c) (hlaw : AlarmLaw s) :
    u.effects.stage = .evacuate ↔ s.effects.stage = .evacuate := by
  have halarms (y : ZoneId) : (zoneAt u y).state = .alarm ↔ (zoneAt s y).state = .alarm := by
    by_cases hy : y = z
    · rw [hy, h.zone, h.alarm]
    · rw [h.others y hy]
  rw [h.law.2, hlaw.2, stageOf_eq_evacuate_iff, stageOf_eq_evacuate_iff]
  exact exists_congr halarms

theorem Settled.row (h : Settled s u z c) (y : ZoneId) : rowOf u y = rowOf s y := by
  rw [rowOf, rowOf, h.tables]

theorem Settled.delay (h : Settled s u z c) (hlaw : AlarmLaw s) : DelayGranted u z ↔ DelayGranted s z := by
  rw [DelayGranted, DelayGranted, h.phase, h.link, h.row, Ne, h.evacuate_iff hlaw]

theorem entered_keeps (c : Zone) (st : ZoneState) : (entered c st).state = st ∧ (entered c st).knock = c.knock
    ∧ (entered c st).devices = c.devices := by
  unfold entered
  split
  next hsame => exact ⟨hsame, rfl, rfl⟩
  next =>
    dsimp only
    split
    · exact ⟨rfl, rfl, rfl⟩
    · exact ⟨rfl, rfl, rfl⟩

theorem entered_same (h : c.state = .alarm) : entered c .alarm = c := if_pos h

section
variable (hz : z ≠ 64) (hwin : c.window = none)
include hz hwin

/-- A zone already in ALARM stays as it is while zones are sent to ALARM. -/
theorem toAlarm_holds (zs : List ZoneId) (halarm : c.state = .alarm) (h : zoneAt u z = c) :
    zoneAt (toAlarm handOver zs u) z = c := by
  refine foldl_keeps (P := fun t => zoneAt t z = c) (fun t y ht => ?_) zs u h
  by_cases hy : y = z
  · rw [hy, enterState_holds hz hwin ht, entered_same halarm]
  · exact enterState_holds_other hz hwin hy ht

/-- A zone sent to ALARM among others. -/
theorem toAlarm_enters {zs : List ZoneId} (hmem : z ∈ zs) (h : zoneAt u z = c) :
    zoneAt (toAlarm handOver zs u) z = entered c .alarm := by
  induction zs generalizing u with
  | nil => cases hmem
  | cons y zs ih =>
    by_cases hy : y = z
    · subst hy
      exact toAlarm_holds hz ((entered_window c .alarm).trans hwin) zs (entered_keeps c .alarm).1
        (enterState_holds hz hwin h)
    · exact ih ((List.mem_cons.mp hmem).resolve_left (Ne.symm hy)) (enterState_holds_other hz hwin hy h)

end

/-- R113: the record of a zone that begins an investigation. -/
def investigated (s : State) (z : ZoneId) (c : Zone) (starters : List Byte) : Zone :=
  { c with
    state := .investigating, knock := none, starters := starters, acked := false
    ackTimer := some (s.now + (rowOf s z).ackWindow.toNat * 100000)
    invTimer := some (s.now + (rowOf s z).invTime.toNat * 100000) }

/-- An investigation begins (R113). -/
theorem Settled.investigates (h : Settled s u z c) (halarm : c.state ≠ .alarm) (hinv : c.state ≠ .investigating) :
    Settled s (investigate handOver z starters (clearKnock z u)) z (investigated s z c starters) := by
  have hcleared := h.clearsKnock
  have hset := hcleared.still (r' := { investigated s z c starters with state := c.state }) (f := fun r => { r with
    starters := starters, acked := false
    ackTimer := afterS (clearKnock z u) (rowOf (clearKnock z u) z).ackWindow.toNat
    invTimer := afterS (clearKnock z u) (rowOf (clearKnock z u) z).invTime.toNat })
    (by simp only [investigated, afterS_eq, hcleared.now, hcleared.row]) rfl rfl
  have hentered := hset.enters (st := .investigating) halarm (by decide)
  rw [entered_early] at hentered
  · exact hentered
  · exact hinv
  · exact hinv

/-- R110: with the delay granted and no other investigation, the confirm decision is an investigation. -/
theorem Settled.confirm_alone (h : Settled s u z c) (hlaw : AlarmLaw s) (hinv : c.state ≠ .investigating)
    (hdelay : DelayGranted s z) (hnone : ∀ y : ZoneId, (zoneAt s y).state ≠ .investigating) :
    confirm handOver z starters u = investigate handOver z starters (clearKnock z u) := by
  have hempty (y : ZoneId) : y ∉ zonesIn u.monitor.zones .investigating := fun hmem => by
    have hst : (zoneAt u y).state = .investigating := mem_zonesIn.mp hmem
    by_cases hy : y = z
    · exact hinv (by rw [← h.zone, ← hy]; exact hst)
    · exact hnone y (h.others y hy ▸ hst)
  rw [confirm, (delayGranted_iff u z).mpr ((h.delay hlaw).mpr hdelay)]
  exact (if_neg (by decide)).trans (if_pos (List.all_eq_true.mpr fun y hy => absurd hy (hempty y)))

/-- R110: the confirm decision of a zone with no open window, after a calm act that set the report's entry. -/
theorem Settled.confirmed (h : Settled s u z c) (hlaw : AlarmLaw s) (hz : z ≠ 64) (hwin : c.window = none)
    (halarm : c.state ≠ .alarm) (hinv : c.state ≠ .investigating) (hold : (zoneAt s z).state ≠ .investigating)
    (hc : c = { r with devices := mapAfter r n (.fire false) }) :
    ConfirmedAs s (confirm handOver z starters u) z r n starters := by
  have hgranted : delayGranted u z = true ↔ DelayGranted s z := (delayGranted_iff u z).trans (h.delay hlaw)
  have hcleared : zoneAt (clearKnock z u) z = { c with knock := none } := h.clearsKnock.zone
  have hentered : ∀ t : State, zoneAt t z = entered { c with knock := none } .alarm → (zoneAt t z).state = .alarm
      ∧ (zoneAt t z).knock = none ∧ (zoneAt t z).devices = mapAfter r n (.fire false) := fun t ht => by
    obtain ⟨hstate, hknock, hdevices⟩ := entered_keeps { c with knock := none } .alarm
    rw [ht]
    exact ⟨hstate, hknock, hdevices.trans (congrArg Zone.devices hc)⟩
  refine ⟨fun hdelay hnone => ?alone, fun hdelay y hy => ?second, fun hno => ?refused⟩
  case alone =>
    rw [h.confirm_alone hlaw hinv hdelay hnone, (h.investigates halarm hinv).zone, hc]
    rfl
  case second =>
    have hyz : y ≠ z := fun he => hold (he ▸ hy)
    have hyu : (zoneAt u y).state = .investigating := (congrArg Zone.state (h.others y hyz)).trans hy
    have hnot : ¬((zonesIn u.monitor.zones .investigating).all fun x => decide (x = z)) = true := fun hall =>
      hyz (of_decide_eq_true (List.all_eq_true.mp hall y (mem_zonesIn.mpr hyu)))
    have hconfirm : confirm handOver z starters u = toAlarm handOver ((List.finRange 66).filter fun x =>
        decide (x = z) || decide ((zoneAt u x).state = .investigating)) (clearKnock z u) := by
      rw [confirm, hgranted.mpr hdelay]
      exact (if_neg (by decide)).trans (if_neg hnot)
    rw [hconfirm]
    have hmem (x : ZoneId) (hx : x = z ∨ (zoneAt u x).state = .investigating) : x ∈ (List.finRange 66).filter fun x =>
        decide (x = z) || decide ((zoneAt u x).state = .investigating) :=
      List.mem_filter.mpr ⟨List.mem_finRange x, by simpa using hx⟩
    exact ⟨hentered _ (toAlarm_enters (c := { c with knock := none }) hz hwin (hmem z (.inl rfl)) hcleared),
      toAlarm_inAlarm (hmem y (.inr hyu)) _⟩
  case refused =>
    have hconfirm : confirm handOver z starters u = enterState handOver z .alarm (clearKnock z u) := by
      rw [confirm, Bool.eq_false_iff.mpr fun hg => hno (hgranted.mp hg)]
      rfl
    rw [hconfirm]
    exact hentered _ (enterState_holds (r := { c with knock := none }) hz hwin hcleared)

/-! ### A fire acts -/

/-- What a FIRE report makes of a zone with no open window, whose record is `r` but for the report's entry (R109). -/
def FireTaken (s t : State) (z : ZoneId) (r : Zone) (n : Byte) : Prop :=
  (r.state ∈ [.quiet, .pre] → (rowOf s z).coincidence = 1 → zoneAt t z =
      { r with devices := mapAfter r n (.fire false), state := .firstKnock, knock := some n })
    ∧ (r.state ∈ [.quiet, .pre] → (rowOf s z).coincidence ≠ 1 → ConfirmedAs s t z r n [n])
    ∧ (r.state = .firstKnock → r.knock = some n → zoneAt t z = { r with devices := mapAfter r n (.fire false) })
    ∧ (r.state = .firstKnock → r.knock ≠ some n → ConfirmedAs s t z r n (r.knock.toList ++ [n]))
    ∧ (r.state = .investigating → n ∈ r.starters → zoneAt t z = { r with devices := mapAfter r n (.fire false) })
    ∧ (r.state = .investigating → n ∉ r.starters → (zoneAt t z).state = .alarm ∧ (zoneAt t z).starters = [])
    ∧ (r.state = .alarm → zoneAt t z = { r with devices := mapAfter r n (.fire false) })

theorem confirmedAs_congr (hmonitor : u.monitor = t.monitor) (h : ConfirmedAs s t z r n starters) :
    ConfirmedAs s u z r n starters := by
  unfold ConfirmedAs at h ⊢
  simp only [zoneAt_congr hmonitor]
  exact h

theorem fireTaken_congr (hmonitor : u.monitor = t.monitor) (h : FireTaken s t z r n) : FireTaken s u z r n := by
  obtain ⟨h1, h2, h3, h4, h5, h6, h7⟩ := h
  have hzone := zoneAt_congr hmonitor z
  exact ⟨fun hst hd => hzone.trans (h1 hst hd), fun hst hd => confirmedAs_congr hmonitor (h2 hst hd),
    fun hst hk => hzone.trans (h3 hst hk), fun hst hk => confirmedAs_congr hmonitor (h4 hst hk),
    fun hst hn => hzone.trans (h5 hst hn), fun hst hn => by rw [hzone]; exact h6 hst hn,
    fun hst => hzone.trans (h7 hst)⟩

/-- What a fire does in a zone that is QUIET or PRE. -/
theorem fireActs_early (h : (zoneAt u z).state ∈ [.quiet, .pre]) : fireActs handOver z n u
    = if (rowOf u z).coincidence = 1 then
        enterState handOver z .firstKnock (updZone z (fun r => { r with knock := some n }) u)
      else confirm handOver z [n] u := by
  unfold fireActs
  dsimp only
  rcases List.mem_cons.mp h with hst | hst
  · rw [hst]
  · rw [List.mem_singleton.mp hst]

theorem fireActs_knock (h : (zoneAt u z).state = .firstKnock) : fireActs handOver z n u
    = if (zoneAt u z).knock = some n then u else confirm handOver z ((zoneAt u z).knock.toList ++ [n]) u := by
  unfold fireActs
  dsimp only
  rw [h]

theorem fireActs_investigating (h : (zoneAt u z).state = .investigating) : fireActs handOver z n u
    = if (zoneAt u z).starters.contains n then u else enterState handOver z .alarm u := by
  unfold fireActs
  dsimp only
  rw [h]

theorem fireActs_alarm (h : (zoneAt u z).state = .alarm) : fireActs handOver z n u = u := by
  unfold fireActs
  dsimp only
  rw [h]

/-- R109: a fire begins the knock of a DOUBLE zone. -/
theorem Settled.knocks (h : Settled s u z c) (hst : c.state ∈ [.quiet, .pre]) (hdouble : (rowOf s z).coincidence = 1) :
    Settled s (fireActs handOver z n u) z { c with state := .firstKnock, knock := some n } := by
  have hearly : c.state ≠ .alarm ∧ c.state ≠ .investigating ∧ c.state ≠ .firstKnock := by
    rcases List.mem_cons.mp hst with hq | hq
    · simp [hq]
    · simp [List.mem_singleton.mp hq]
  rw [fireActs_early (by rwa [h.zone]), h.row, if_pos hdouble]
  have hset := h.still (f := fun r => { r with knock := some n }) rfl rfl rfl
  have hentered := hset.enters (st := .firstKnock) hearly.1 (by decide)
  rw [entered_early] at hentered
  · exact hentered
  · exact hearly.2.2
  · exact hearly.2.1

/-- R109: a fire acts by its zone's state and coincidence, its entry being set. -/
theorem Settled.fireActs (h : Settled s u z { r with devices := mapAfter r n (.fire false) }) (hlaw : AlarmLaw s)
    (hz : z ≠ 64) (hwin : r.window = none) (hold : r.state ≠ .investigating → (zoneAt s z).state ≠ .investigating) :
    FireTaken s (fireActs handOver z n u) z r n := by
  have hstate : (zoneAt u z).state = r.state := (congrArg Zone.state h.zone).trans rfl
  have hknock : (zoneAt u z).knock = r.knock := (congrArg Zone.knock h.zone).trans rfl
  have hstarters : (zoneAt u z).starters = r.starters := (congrArg Zone.starters h.zone).trans rfl
  have hconfirm (starters : List Byte) (halarm : r.state ≠ .alarm) (hinv : r.state ≠ .investigating) :
      ConfirmedAs s (confirm handOver z starters u) z r n starters :=
    h.confirmed hlaw hz hwin halarm hinv (hold hinv) rfl
  refine ⟨fun hst hdouble => (h.knocks hst hdouble).zone, fun hst hsingle => ?_, fun hst hk => ?_, fun hst hk => ?_,
    fun hst hn => ?_, fun hst hn => ?_, fun hst => ?_⟩
  · rw [fireActs_early (by rwa [hstate]), h.row, if_neg hsingle]
    rcases List.mem_cons.mp hst with hq | hq
    · exact hconfirm _ (by simp [hq]) (by simp [hq])
    · exact hconfirm _ (by simp [List.mem_singleton.mp hq]) (by simp [List.mem_singleton.mp hq])
  · rw [fireActs_knock (hstate.trans hst), hknock, if_pos hk]
    exact h.zone
  · rw [fireActs_knock (hstate.trans hst), hknock, if_neg hk]
    exact hconfirm _ (by simp [hst]) (by simp [hst])
  · rw [fireActs_investigating (hstate.trans hst), hstarters, if_pos (List.contains_iff_mem.mpr hn)]
    exact h.zone
  · rw [fireActs_investigating (hstate.trans hst), hstarters, if_neg fun hc => hn (List.contains_iff_mem.mp hc)]
    obtain ⟨⟨halarm, -, -, -, hleft⟩, -⟩ := alarm_from_investigating (hstate.trans hst)
    exact ⟨halarm, hleft⟩
  · rw [fireActs_alarm (hstate.trans hst)]
    exact h.zone

end

end Sys2Proof.Machine
end


section
/-! Isolation windows closed with the replay of their masked entries (R119, R120), and FIRE reports taken (R108, R109). -/

namespace Sys2Proof.Machine

/-! ### Masked entries of a device map -/

/-- A device map in strictly ascending device order (R102). -/
abbrev Ascending (ds : List Device) : Prop := ds.Pairwise fun a b => a.number.toNat < b.number.toNat

/-- The entry of a device is a masked FIRE (R108). -/
abbrev MaskedIn (ds : List Device) (n : Byte) : Prop := deviceIn ds n = some ⟨n, .fire true⟩

/-- A map as a masked entry is replayed (R120). -/
def unmask (ds : List Device) (n : Byte) : List Device :=
  if MaskedIn ds n then setDevice n (.fire false) ds else ds

section
variable {ds : List Device} {d : Device} {n : Byte}

theorem number_of_deviceIn (h : deviceIn ds n = some d) : d.number = n := by
  simpa using List.find?_some h

theorem mem_of_deviceIn (h : deviceIn ds n = some d) : d ∈ ds := List.mem_of_find?_eq_some h

/-- In an ascending map a device has one entry. -/
theorem deviceIn_of_mem (h : Ascending ds) (hd : d ∈ ds) : deviceIn ds d.number = some d := by
  induction ds with
  | nil => cases hd
  | cons a ds ih =>
    obtain ⟨hfirst, hrest⟩ := List.pairwise_cons.mp h
    rcases List.mem_cons.mp hd with rfl | hd
    · exact List.find?_cons_of_pos (by simp)
    · have hne : a.number ≠ d.number := fun he => Nat.lt_irrefl _ (he ▸ hfirst d hd)
      exact (List.find?_cons_of_neg (by simpa using hne)).trans (ih hrest hd)

theorem mem_setDevice {c : Condition} : d ∈ setDevice n c ds ↔ (d ∈ ds ∧ d.number ≠ n) ∨ d = ⟨n, c⟩ := by
  have hne : d.number ≠ n ↔ d.number.toNat < n.toNat ∨ n.toNat < d.number.toNat := by
    rw [← Nat.ne_iff_lt_or_gt, Ne, Ne, BitVec.toNat_inj]
  rw [setDevice, List.mem_append, List.mem_append, List.mem_filter, List.mem_filter, List.mem_singleton,
    decide_eq_true_iff, decide_eq_true_iff, hne]
  tauto

theorem unmask_ascending (h : Ascending ds) (n : Byte) : Ascending (unmask ds n) := by
  unfold unmask
  split
  · exact setDevice_sorted n _ h
  · exact h

/-- A masked entry left by a replay was masked before, and is another device's. -/
theorem masked_of_unmask (h : Ascending ds) (hd : d ∈ unmask ds n) (hmasked : d.condition = .fire true) :
    d ∈ ds ∧ d.number ≠ n := by
  by_cases hn : MaskedIn ds n
  · rw [unmask, if_pos hn] at hd
    refine (mem_setDevice.mp hd).resolve_right ?_
    rintro rfl
    cases hmasked
  · rw [unmask, if_neg hn] at hd
    refine ⟨hd, ?_⟩
    rintro rfl
    obtain ⟨number, condition⟩ := d
    subst hmasked
    exact hn (deviceIn_of_mem h hd)

theorem masked_of_unmasks (l : List Byte) (h : Ascending ds) (hd : d ∈ l.foldl unmask ds)
    (hmasked : d.condition = .fire true) : d ∈ ds ∧ d.number ∉ l := by
  induction l generalizing ds with
  | nil => exact ⟨hd, List.not_mem_nil⟩
  | cons n l ih =>
    obtain ⟨hmem, hnot⟩ := ih (unmask_ascending h n) hd
    obtain ⟨hold, hne⟩ := masked_of_unmask h hmem hmasked
    exact ⟨hold, List.not_mem_cons_of_ne_of_not_mem hne hnot⟩

/-- Replays of every device of a map leave no masked entry. -/
theorem unmasked_all (h : Ascending ds) : ∀ d ∈ (ds.map (·.number)).foldl unmask ds, d.condition ≠ .fire true := by
  intro d hd hmasked
  obtain ⟨hmem, hnot⟩ := masked_of_unmasks _ h hd hmasked
  exact hnot (List.mem_map_of_mem hmem)

theorem not_maskedIn (h : ∀ d ∈ ds, d.condition ≠ .fire true) (n : Byte) : ¬MaskedIn ds n := fun hn =>
  h _ (mem_of_deviceIn hn) rfl

/-- The devices of an ascending map whose entries are masked, in order. -/
theorem masked_numbers (h : Ascending ds) : (ds.map (·.number)).filter (fun n => decide (MaskedIn ds n))
    = (ds.filter fun d => decide (d.condition = .fire true)).map (·.number) := by
  rw [List.filter_map]
  refine congrArg _ (List.filter_congr fun d hd => decide_eq_decide.mpr ?_)
  have hentry := deviceIn_of_mem h hd
  obtain ⟨number, condition⟩ := d
  rw [MaskedIn, hentry]
  simp

end

/-! ### A zone's map through a replay -/

section
variable {s t u : State} {z : ZoneId} {r c : Zone} {n : Byte} {ds : List Device}

/-- A zone with no open window has a given map. -/
def MapIs (z : ZoneId) (ds : List Device) (s : State) : Prop := (zoneAt s z).devices = ds ∧ (zoneAt s z).window = none

section
variable (hz : z ≠ 64)
include hz

theorem enterState_mapIs (y : ZoneId) (st : ZoneState) (h : MapIs z ds u) : MapIs z ds (enterState handOver y st u) := by
  obtain ⟨hdevices, hwindow⟩ := h
  by_cases hy : y = z
  · subst hy
    rw [MapIs, enterState_holds hz hwindow rfl, entered_window]
    exact ⟨(entered_keeps _ st).2.2.trans hdevices, hwindow⟩
  · rw [MapIs, enterState_holds_other hz hwindow hy rfl]
    exact ⟨hdevices, hwindow⟩

omit hz in
theorem updZone_mapIs {f : Zone → Zone} (hdevices : (f (zoneAt u z)).devices = (zoneAt u z).devices)
    (hwindow : (f (zoneAt u z)).window = (zoneAt u z).window) (h : MapIs z ds u) : MapIs z ds (updZone z f u) := by
  rw [MapIs, zoneAt_updZone_same, hdevices, hwindow]
  exact h

theorem confirm_mapIs (starters : List Byte) (h : MapIs z ds u) : MapIs z ds (confirm handOver z starters u) := by
  have hcleared : MapIs z ds (clearKnock z u) := updZone_mapIs rfl rfl h
  exact ite_keeps (enterState_mapIs hz z _ hcleared)
    (ite_keeps (enterState_mapIs hz z _ (updZone_mapIs rfl rfl hcleared))
      (foldl_keeps (fun _ y hx => enterState_mapIs hz y _ hx) _ _ hcleared))

theorem fireActs_mapIs (n : Byte) (h : MapIs z ds u) : MapIs z ds (fireActs handOver z n u) := by
  have hearly : MapIs z ds (if (rowOf u z).coincidence = 1 then
      enterState handOver z .firstKnock (updZone z (fun r => { r with knock := some n }) u)
      else confirm handOver z [n] u) :=
    ite_keeps (enterState_mapIs hz z _ (updZone_mapIs rfl rfl h)) (confirm_mapIs hz _ h)
  unfold fireActs
  dsimp only
  split
  · exact hearly
  · exact hearly
  · exact ite_keeps h (confirm_mapIs hz _ h)
  · exact ite_keeps h (enterState_mapIs hz z _ h)
  · exact h

theorem putMap_mapIs (ds' : List Device) (h : MapIs z ds u) : MapIs z ds' (putMap handOver z ds' u) := by
  rw [MapIs, putMap_holds hz h.2 ds' rfl]
  exact ⟨rfl, h.2⟩

end

theorem replayDevice_masked (h : MaskedIn (zoneAt u z).devices n) : replayDevice handOver z u n
    = fireActs handOver z n (putMap handOver z (setDevice n (.fire false) (zoneAt u z).devices) u) := by
  unfold replayDevice
  rw [h]

theorem replayDevice_unmasked (h : ¬MaskedIn (zoneAt u z).devices n) : replayDevice handOver z u n = u := by
  unfold replayDevice
  split
  next number hentry =>
    have hnumber : number = n := number_of_deviceIn hentry
    exact absurd (hnumber ▸ hentry) h
  next => rfl

theorem replayDevice_mapIs (hz : z ≠ 64) (h : MapIs z ds u) (n : Byte) :
    MapIs z (unmask ds n) (replayDevice handOver z u n) := by
  obtain ⟨hdevices, hwindow⟩ := h
  by_cases hn : MaskedIn ds n
  · rw [replayDevice_masked (hdevices ▸ hn), unmask, if_pos hn, ← hdevices]
    exact fireActs_mapIs hz n (putMap_mapIs hz _ ⟨rfl, hwindow⟩)
  · rw [replayDevice_unmasked (hdevices ▸ hn), unmask, if_neg hn]
    exact ⟨hdevices, hwindow⟩

theorem replays_mapIs (hz : z ≠ 64) (l : List Byte) (h : MapIs z ds u) :
    MapIs z (l.foldl unmask ds) (l.foldl (replayDevice handOver z) u) := by
  induction l generalizing u ds with
  | nil => exact h
  | cons n l ih => exact ih (replayDevice_mapIs hz h n)

/-- Replays reach the masked entries alone. -/
theorem replays_of_masked (hz : z ≠ 64) (l : List Byte) (hnodup : l.Nodup) (h : MapIs z ds u) :
    l.foldl (replayDevice handOver z) u
      = (l.filter fun n => decide (MaskedIn ds n)).foldl (replayDevice handOver z) u := by
  induction l generalizing u ds with
  | nil => rfl
  | cons n l ih =>
    obtain ⟨hnot, hnodup⟩ := List.nodup_cons.mp hnodup
    have hrest := ih hnodup (replayDevice_mapIs hz h n)
    have hsame : (l.filter fun m => decide (MaskedIn (unmask ds n) m)) = l.filter fun m => decide (MaskedIn ds m) := by
      refine List.filter_congr fun m hm => decide_eq_decide.mpr ?_
      have hmn : m ≠ n := fun he => hnot (he ▸ hm)
      rw [unmask]
      split
      · rw [MaskedIn, deviceIn_setDevice_other _ _ hmn]
      · exact Iff.rfl
    rw [hsame] at hrest
    rw [List.foldl_cons, hrest, List.filter_cons]
    split
    next => rfl
    next hplain =>
      have hunmasked : ¬MaskedIn (zoneAt u z).devices n := by
        rw [h.1]
        exact fun hn => hplain (decide_eq_true hn)
      rw [replayDevice_unmasked hunmasked]

/-! ### A window closed -/

/-- A window closed, before the replays: its record alone (R119). -/
def windowShut (cause : CloseCause) (z : ZoneId) (s : State) : State :=
  writeRecord .isolationClosed (zoneByte z) cause.code 0 (updZone z (fun r => { r with window := none }) s)

theorem zoneAt_windowShut (cause : CloseCause) (s : State) :
    zoneAt (windowShut cause z s) z = { zoneAt s z with window := none } := by
  rw [windowShut, zoneAt_congr (writeRecord_monitor _ _ _ _ _), zoneAt_updZone_same]

theorem windowShut_mapIs (cause : CloseCause) (s : State) : MapIs z (zoneAt s z).devices (windowShut cause z s) := by
  rw [MapIs, zoneAt_windowShut]
  exact ⟨rfl, rfl⟩

theorem closeWindow_open (cause : CloseCause) (h : (zoneAt s z).window ≠ none) : closeWindow handOver cause s z
    = ((zoneAt s z).devices.map (·.number)).foldl (replayDevice handOver z) (windowShut cause z s) := by
  have hopen : ¬(zoneAt s z).window.isNone = true := fun hn => h (Option.isNone_iff_eq_none.mp hn)
  have hclose : closeWindow handOver cause s z = ((zoneAt (windowShut cause z s) z).devices.map (·.number)).foldl
    (replayDevice handOver z) (windowShut cause z s) := if_neg hopen
  rw [hclose, (windowShut_mapIs cause s).1]

theorem closeWindow_shutAlready (cause : CloseCause) (h : (zoneAt s z).window = none) :
    closeWindow handOver cause s z = s := if_pos (Option.isNone_iff_eq_none.mpr h)

/-- With no masked entry a closing leaves its record alone (R120). -/
theorem closeWindow_plain (cause : CloseCause) (h : (zoneAt s z).window ≠ none)
    (hplain : ∀ d ∈ (zoneAt s z).devices, d.condition ≠ .fire true) :
    closeWindow handOver cause s z = windowShut cause z s := by
  rw [closeWindow_open cause h]
  refine List.foldl_fixed' (fun n => replayDevice_unmasked ?_) _
  rw [(windowShut_mapIs cause s).1]
  exact not_maskedIn hplain n

/-- Closing a window leaves no masked entry (R120). -/
theorem closeWindow_unmasks (hz : z ≠ 64) (cause : CloseCause) (h : (zoneAt s z).window ≠ none) (hmap : MapLaw (zoneAt s z)) :
    ∃ ds, MapIs z ds (closeWindow handOver cause s z) ∧ ∀ d ∈ ds, d.condition ≠ .fire true := by
  rw [closeWindow_open cause h]
  exact ⟨_, replays_mapIs hz _ (windowShut_mapIs cause s), unmasked_all hmap.2⟩

theorem Settled.shuts (h : Settled s u z r) (cause : CloseCause) :
    Settled s (windowShut cause z u) z { r with window := none } :=
  (h.still (f := fun r => { r with window := none }) rfl rfl rfl).record _ _ _ _

/-! ### A FIRE report -/

/-- A FIRE report the map has room for, of a zone with no open window, or one without room (R109). -/
theorem fireReport_acts (h : Settled s u z r) (hfresh : deviceIn r.devices n ≠ some ⟨n, .fire false⟩)
    (hwin : r.window = none) : ∃ v, Settled s v z { r with devices := mapAfter r n (.fire false) }
      ∧ fireReport handOver z n u = fireActs handOver z n v
      ∧ (v = writeRecord .deviceOverflow (zoneByte z) n 2 u
        ∨ v = putMap handOver z (setDevice n (.fire false) r.devices) u) := by
  have hiff : overflows r.devices n = true ↔ deviceIn r.devices n = none ∧ 16 ≤ r.devices.length := by simp [overflows]
  unfold fireReport
  rw [h.zone, if_neg hfresh]
  by_cases hfull : overflows r.devices n = true
  · have hrecorded := h.record .deviceOverflow (zoneByte z) n ReportKind.fire.code
    refine ⟨_, ?_, (if_pos hfull).trans (congrArg (fireActs handOver z n)
      (closeWindow_shutAlready .overflow (by rw [hrecorded.zone, hwin]))), .inl rfl⟩
    rw [mapAfter, if_pos (hiff.mp hfull)]
    exact hrecorded
  · refine ⟨putMap handOver z (setDevice n (.fire false) r.devices) u, ?_, ?_, .inr rfl⟩
    · rw [mapAfter, if_neg fun hno => hfull (hiff.mpr hno)]
      exact h.put _
    · rw [if_neg hfull, hwin, openFire, h.zone]
      rfl

/-- A FIRE report masked by an open window (R108). -/
theorem Settled.masks (h : Settled s u z r) (hfresh : deviceIn r.devices n ≠ some ⟨n, .fire false⟩)
    (hroom : ¬(deviceIn r.devices n = none ∧ 16 ≤ r.devices.length)) (hwin : r.window ≠ none) :
    Settled s (fireReport handOver z n u) z { r with
      devices := setDevice n (.fire true) r.devices, state := if r.state = .quiet then .pre else r.state } := by
  have hiff : overflows r.devices n = true ↔ deviceIn r.devices n = none ∧ 16 ≤ r.devices.length := by simp [overflows]
  have hreport : fireReport handOver z n u = maskedFire handOver z n u := by
    unfold fireReport
    rw [h.zone, if_neg hfresh, if_neg fun hfull => hroom (hiff.mp hfull),
      if_pos (Option.isSome_iff_ne_none.mpr hwin)]
  have hput := (h.put (setDevice n (.fire true) r.devices)).record .isolatedFire (zoneByte z) n 0
  rw [hreport, maskedFire, h.zone, hput.zone]
  by_cases hquiet : r.state = .quiet
  · rw [if_pos hquiet, if_pos hquiet]
    have hentered := hput.enters (st := .pre) (by simp [hquiet]) (by decide)
    rw [entered_early] at hentered
    · exact hentered
    · simp [hquiet]
    · simp [hquiet]
  · rw [if_neg hquiet, if_neg hquiet]
    exact hput

/-- A FIRE report without room closes an open window, and then acts (R109, R119). -/
theorem fireReport_overflows (hzone : zoneAt u z = r) (hfull : deviceIn r.devices n = none ∧ 16 ≤ r.devices.length) :
    fireReport handOver z n u = fireActs handOver z n (closeWindow handOver .overflow
      (writeRecord .deviceOverflow (zoneByte z) n 2 u) z) := by
  have hover : overflows r.devices n = true := by simp [overflows, hfull]
  have hfresh : deviceIn r.devices n ≠ some ⟨n, .fire false⟩ := by simp [hfull.1]
  unfold fireReport
  rw [hzone, if_neg hfresh, if_pos hover]
  rfl

/-- A FIRE report without room closes a window that masks nothing, and acts as in a zone without one. -/
theorem Settled.overflowed (h : Settled s u z r) (hlaw : AlarmLaw s) (hz : z ≠ 64)
    (hfull : deviceIn r.devices n = none ∧ 16 ≤ r.devices.length) (hwin : r.window ≠ none)
    (hplain : ∀ d ∈ r.devices, d.condition ≠ .fire true)
    (hold : r.state ≠ .investigating → (zoneAt s z).state ≠ .investigating) :
    FireTaken s (fireReport handOver z n u) z { r with window := none } n := by
  have hrecorded := h.record .deviceOverflow (zoneByte z) n 2
  have hmap : ({ r with window := none, devices := mapAfter { r with window := none } n (.fire false) } : Zone)
      = { r with window := none } := by rw [mapAfter, if_pos hfull]
  rw [fireReport_overflows h.zone hfull, closeWindow_plain .overflow (by rw [hrecorded.zone]; exact hwin)
    (by rw [hrecorded.zone]; exact hplain)]
  exact Settled.fireActs (r := { r with window := none }) (by rw [hmap]; exact hrecorded.shuts .overflow) hlaw hz rfl hold

theorem fireReport_repeated (hzone : zoneAt u z = r) (hheld : deviceIn r.devices n = some ⟨n, .fire false⟩) :
    fireReport handOver z n u = u := by
  unfold fireReport
  rw [hzone, if_pos hheld]

end

theorem fireReportTaken : Parts.FireReportTaken := by
  intro s z n hlaw hrep r held room acts double
  have hz : z ≠ 64 := fun he => absurd hrep.2.1 (by rw [he]; decide)
  have hexec : exec .takeZoneReport s = .next (endAct (fireReport handOver z n (dropHead .panelRx s))) := exec_report hrep
  have htouches := applyReport_touches (s := s) (z := z) (n := n) .fire
  have hdropped : Settled s (dropHead .panelRx s) z r := settled_dropHead .panelRx z hlaw
  have hrecorded := hdropped.record .deviceOverflow (zoneByte z) n 2
  refine ⟨fun hheld => ?repeated, fun hfresh hroom hwin => ?masked, fun hfresh hwin => ?acts, fun hfull hwin => ?overflow,
    fun hfull hwin hplain hst hk => ?knocked⟩
  case repeated => rw [hexec, fireReport_repeated hdropped.zone hheld]
  case masked => exact ⟨_, hexec, htouches, (hdropped.masks hfresh hroom hwin).acted⟩
  case acts =>
    obtain ⟨v, hv, hacts, -⟩ := fireReport_acts hdropped hfresh hwin
    exact ⟨_, hexec, htouches, fireTaken_congr (endAct_monitor _) (hacts ▸ hv.fireActs hlaw hz hwin id)⟩
  case overflow =>
    have hfull : deviceIn r.devices n = none ∧ 16 ≤ r.devices.length := not_not.mp hfull
    refine ⟨_, hexec, htouches, ?_⟩
    have hreport := fireReport_overflows hdropped.zone hfull
    have hopen : (zoneAt (writeRecord .deviceOverflow (zoneByte z) n 2 (dropHead .panelRx s)) z).window ≠ none := by
      rw [hrecorded.zone]
      exact hwin
    have hzone := zoneAt_congr (endAct_monitor (fireReport handOver z n (dropHead .panelRx s))) z
    refine ⟨?_, fun hmap => ?_, fun hplain => ?_⟩
    · have hshut := closeWindow_shut (fun y => (zoneLaw_shut y).monitor) .overflow z
        (writeRecord .deviceOverflow (zoneByte z) n 2 (dropHead .panelRx s))
      rw [hzone, hreport]
      exact (zoneLaw_shut z).monitor.fireActs z n hshut
    · obtain ⟨ds, hds, hnone⟩ := closeWindow_unmasks hz .overflow hopen (hrecorded.zone.symm ▸ hmap)
      rw [hzone, hreport, (fireActs_mapIs hz n hds).1]
      exact hnone
    · obtain ⟨hknocks, hconfirms, -, hsecond, -⟩ := fireTaken_congr (endAct_monitor _)
        (hdropped.overflowed hlaw hz hfull hwin hplain id)
      rw [mapAfter, if_pos hfull] at hknocks
      exact ⟨hknocks, hconfirms, hsecond⟩
  case knocked =>
    have hfull : deviceIn r.devices n = none ∧ 16 ≤ r.devices.length := not_not.mp hfull
    have hshut := hrecorded.shuts .overflow
    rw [hexec, fireReport_overflows hdropped.zone hfull, closeWindow_plain .overflow (by rw [hrecorded.zone]; exact hwin)
      (by rw [hrecorded.zone]; exact hplain), fireActs_knock (by rw [hshut.zone]; exact hst), hshut.zone, if_pos hk]
    rfl

end Sys2Proof.Machine
end


section
/-! FIRE reports settled (O35's first part), and the requests and the expiry of an isolation window (R118, R119, R120). -/

namespace Sys2Proof.Machine

section
variable {s t u : State} {z : ZoneId} {r c : Zone} {n m tag b hi lo : Byte}

/-! ### ISOLATE-ZONE -/

theorem onlyTouches_withMonitor (s : State) (x : ZoneMonitor) : OnlyTouches [.monitor] s (s.withMonitor x) := by
  intro b hb
  cases b with
  | monitor => exact absurd (List.mem_singleton_self _) hb
  | _ => rfl

theorem exec_isolateZone {args : List Byte} (h : Requested s 13 tag args) : exec .isolateZone s
    = .next (replied tag 13 (isolateZoneOwner args (dropHead .consoleRx s)).2
      (isolateZoneOwner args (dropHead .consoleRx s)).1) :=
  congrArg Host.Outcome.next (handle_of_requested h _)

/-- R118: the row of a zone that may be isolated. -/
abbrev StageRow (s : State) (z : ZoneId) : Prop := (rowOf s z).cls = 1 ∧ (rowOf s z).isolation = 1

/-- R118: no alarm forbids the isolation of a zone. -/
abbrev CalmZone (s : State) (z : ZoneId) : Prop :=
  s.effects.stage ≠ .evacuate ∧ (zoneAt s z).state ≠ .investigating ∧ (zoneAt s z).state ≠ .alarm

/-- R118: a window would be the fifth. -/
abbrev WindowsFull (s : State) (z : ZoneId) : Prop := (zoneAt s z).window = none ∧ 4 ≤ openWindows s.monitor.zones

theorem permitsIsolation_iff (p : Phase) : permitsIsolation p = true ↔ p = .rehearsal ∨ p = .performance := by
  cases p <;> decide

theorem isolateTests_noPanelZone (h : 63 < b.toNat) : isolateTests s b = .error .badArgument := by
  unfold isolateTests
  split
  next => rfl
  next z hz =>
    have hb := zoneIdOf_eq_some hz
    have hlt : z.val < 256 := z.isLt.trans (by decide)
    have hval : 63 < z.val := by
      rw [hb, zoneByte, byteOf, BitVec.toNat_ofNat, Nat.mod_eq_of_lt hlt] at h
      exact h
    exact if_pos hval

/-- The tests of ISOLATE-ZONE on a panel zone, in order (R118). -/
theorem isolateTests_panelZone (hz : z.val < 64) : isolateTests s (zoneByte z)
    = if ¬StageRow s z then .error .badArgument
      else if ¬permitsIsolation s.phase.phase = true then .error .wrongPhase
      else if ¬CalmZone s z then .error .alarmActive
      else if WindowsFull s z then .error .limit
      else .ok z := by
  unfold isolateTests
  rw [zoneIdOf_zoneByte]
  dsimp only
  rw [if_neg (Nat.not_lt.mpr (Nat.le_of_lt_succ hz))]
  by_cases hrow : StageRow s z
  · rw [if_neg (by simp [hrow.1, hrow.2]), if_neg (not_not.mpr hrow)]
    by_cases hphase : permitsIsolation s.phase.phase = true
    · rw [if_neg (by simp [hphase]), if_neg (not_not.mpr hphase)]
      by_cases hstage : s.effects.stage = .evacuate
      · rw [if_pos hstage, if_pos fun hcalm : CalmZone s z => hcalm.1 hstage]
      · rw [if_neg hstage]
        by_cases hcalm : CalmZone s z
        · rw [if_neg (by simp [hcalm.2.1, hcalm.2.2]), if_neg (not_not.mpr hcalm)]
          simp only [Bool.and_eq_true, Option.isNone_iff_eq_none, decide_eq_true_iff]
        · have hengaged : (zoneAt s z).state = .investigating ∨ (zoneAt s z).state = .alarm := by
            by_contra hneither
            exact hcalm ⟨hstage, not_or.mp hneither⟩
          rw [if_pos (by simpa using hengaged), if_pos hcalm]
    · rw [if_pos (by simpa using hphase), if_pos hphase]
  · rw [if_pos (by simpa [imp_iff_not_or] using hrow), if_pos hrow]

theorem isolateZoneOwner_refused {why : Reason} (h : isolateTests s b = .error why) :
    isolateZoneOwner [b, hi, lo] s = (s, refuse why) := by
  have hbyte : byteAt [b, hi, lo] 0 = b := rfl
  rw [isolateZoneOwner, hbyte, h]

theorem isolateZoneOwner_opens (h : isolateTests s b = .ok z) :
    isolateZoneOwner [b, hi, lo] s = (openWindow z (max 10 (min 900 (hi.toNat * 256 + lo.toNat))) s, done) := by
  have hbyte : byteAt [b, hi, lo] 0 = b := rfl
  have hword : argWord [b, hi, lo] 1 = hi.toNat * 256 + lo.toNat := word16_toNat hi lo
  rw [isolateZoneOwner, hbyte, h, hword, clamp]

end

theorem isolateZoneTested : Parts.IsolateZoneTested := by
  intro s tag b hi lo hreq refused seconds
  have hexec := exec_isolateZone hreq
  have hrefused (why : Reason) (h : isolateTests (dropHead .consoleRx s) b = .error why) : refused why := by
    rwa [isolateZoneOwner_refused h] at hexec
  refine ⟨fun hb => hrefused _ (isolateTests_noPanelZone hb), ?_⟩
  rintro z hz rfl stageRow show_ calm full
  have htests := isolateTests_panelZone (s := dropHead .consoleRx s) hz
  have hshow : permitsIsolation (dropHead .consoleRx s).phase.phase = true ↔ show_ := by
    rw [dropHead_phase]
    exact permitsIsolation_iff _
  refine ⟨fun hrow => hrefused _ (htests.trans (if_pos hrow)), fun hrow hno => ?phase, fun hrow hphase hno => ?alarm,
    fun hrow hphase hcalm hfull => ?limit, fun hrow hphase hcalm hfull => ?opens⟩
  case phase =>
    exact hrefused _ (htests.trans ((if_neg (not_not.mpr hrow)).trans (if_pos fun h => hno (hshow.mp h))))
  case alarm =>
    exact hrefused _ (htests.trans ((if_neg (not_not.mpr hrow)).trans
      ((if_neg (not_not.mpr (hshow.mpr hphase))).trans (if_pos hno))))
  case limit =>
    exact hrefused _ (htests.trans ((if_neg (not_not.mpr hrow)).trans ((if_neg (not_not.mpr (hshow.mpr hphase))).trans
      ((if_neg (not_not.mpr hcalm)).trans (if_pos hfull)))))
  case opens =>
    rw [isolateZoneOwner_opens (htests.trans ((if_neg (not_not.mpr hrow)).trans
      ((if_neg (not_not.mpr (hshow.mpr hphase))).trans ((if_neg (not_not.mpr hcalm)).trans (if_neg hfull)))))] at hexec
    refine ⟨_, hexec, ?_, fun y hy => ?_, ?_, ?_⟩
    · rw [openWindow, zoneAt_congr (writeRecord_monitor _ _ _ _ _), zoneAt_updZone_same, afterS_eq, zoneAt_dropHead]
      rfl
    · rw [openWindow, zoneAt_congr (writeRecord_monitor _ _ _ _ _), zoneAt_updZone_other _ _ hy, zoneAt_dropHead]
    · exact onlyTouches_trans (onlyTouches_mono (by decide) (dropHead_onlyTouches .consoleRx s))
        (onlyTouches_trans (onlyTouches_mono (by decide) (onlyTouches_withMonitor _ _))
          (onlyTouches_mono (by decide) (writeRecord_onlyTouches _ _ _ _ _)))
    · exact writeRecord_log _ _ _ _ _

/-! ### A window's end -/

section
variable {s t u : State} {z : ZoneId} {r c : Zone} {n m tag b : Byte}

theorem exec_endIsolation {args : List Byte} (h : Requested s 14 tag args) : exec .endIsolation s
    = .next (replied tag 14 (endIsolationOwner args (dropHead .consoleRx s)).2
      (endIsolationOwner args (dropHead .consoleRx s)).1) :=
  congrArg Host.Outcome.next (handle_of_requested h _)

theorem endIsolationOwner_noPanelZone (h : 63 < b.toNat) : endIsolationOwner [b] s = (s, refuse .badArgument) := by
  have hbyte : byteAt [b] 0 = b := rfl
  unfold endIsolationOwner
  rw [hbyte]
  split
  next => rfl
  next z hz =>
    have hlt : z.val < 256 := z.isLt.trans (by decide)
    rw [zoneIdOf_eq_some hz, zoneByte, byteOf, BitVec.toNat_ofNat, Nat.mod_eq_of_lt hlt] at h
    exact if_pos h

theorem endIsolationOwner_closes (hz : z.val < 64) :
    endIsolationOwner [zoneByte z] s = (closeWindow handOver .byRequest s z, done) := by
  have hbyte : byteAt [zoneByte z] 0 = zoneByte z := rfl
  unfold endIsolationOwner
  rw [hbyte, zoneIdOf_zoneByte]
  exact if_neg (Nat.not_lt.mpr (Nat.le_of_lt_succ hz))

theorem endIsolation_done (hz : z.val < 64) (h : Requested s 14 tag [zoneByte z]) :
    DoneWith .endIsolation s 14 tag [] (closeWindow handOver .byRequest (dropHead .consoleRx s) z) := by
  have hexec := exec_endIsolation h
  rwa [endIsolationOwner_closes hz] at hexec

theorem exec_windowExpiry (h : (zoneAt s z).window ≠ none) :
    exec (.isolationWindowExpiry z) s = .next (endAct (closeWindow handOver .expiry s z)) := by
  have hexec : exec (.isolationWindowExpiry z) s = .next (windowOut z s) := rfl
  rw [hexec, windowOut, if_pos (Option.isSome_iff_ne_none.mpr h)]

/-- What a closing leaves: no window, no masked entry, and its record alone where there was none (R119, R120). -/
theorem closeWindow_clears (hz : z ≠ 64) (cause : CloseCause) (hopen : (zoneAt s z).window ≠ none)
    (hmap : MapLaw (zoneAt s z)) : (zoneAt (closeWindow handOver cause s z) z).window = none
      ∧ (¬∃ d ∈ (zoneAt (closeWindow handOver cause s z) z).devices, d.condition = .fire true)
      ∧ ((¬∃ d ∈ (zoneAt s z).devices, d.condition = .fire true) →
        closeWindow handOver cause s z = windowShut cause z s) := by
  obtain ⟨ds, ⟨hdevices, hwindow⟩, hnone⟩ := closeWindow_unmasks hz cause hopen hmap
  refine ⟨hwindow, ?_, fun hplain => closeWindow_plain cause hopen fun d hd hm => hplain ⟨d, hd, hm⟩⟩
  rw [hdevices]
  rintro ⟨d, hd, hm⟩
  exact hnone d hd hm

end

theorem windowsClose : Parts.WindowsClose := by
  intro s z hz hmap masked plain
  have hz64 : z ≠ 64 := fun he => absurd hz (by rw [he]; decide)
  have hdropped : zoneAt (dropHead .consoleRx s) z = zoneAt s z := zoneAt_dropHead .consoleRx s z
  refine ⟨fun tag b hreq => ⟨fun hb => ?refused, ?shut, ?closes⟩, fun hnone => ?stopped, fun hopen => ?expires⟩
  case refused =>
    have hexec := exec_endIsolation hreq
    rwa [endIsolationOwner_noPanelZone hb] at hexec
  case shut =>
    rintro rfl hnone
    have hdone := endIsolation_done hz hreq
    rwa [closeWindow_shutAlready .byRequest (hdropped.symm ▸ hnone)] at hdone
  case closes =>
    rintro rfl hopen
    obtain ⟨hwindow, hunmasked, hplain⟩ := closeWindow_clears hz64 .byRequest (s := dropHead .consoleRx s)
      (hdropped.symm ▸ hopen) (hdropped.symm ▸ hmap)
    rw [hdropped] at hplain
    exact ⟨_, endIsolation_done hz hreq, hwindow, hunmasked, hplain⟩
  case stopped =>
    have hexec : exec (.isolationWindowExpiry z) s = .next (windowOut z s) := rfl
    rw [hexec, windowOut, hnone]
    rfl
  case expires =>
    obtain ⟨hwindow, hunmasked, hplain⟩ := closeWindow_clears hz64 .expiry hopen hmap
    refine ⟨_, exec_windowExpiry hopen, onlyTouches_trans (closeWindow_keeps (alarmClosed_onlyTouches s).toZones
      (fun b _ h => handOver_keeps (alarmClosed_onlyTouches s) b h) _ z (onlyTouches_refl _ s)) (endAct_onlyTouches _), ?_⟩
    rw [zoneAt_congr (endAct_monitor _) z]
    exact ⟨hwindow, hunmasked, fun h => congrArg endAct (hplain h)⟩

/-! ### Masked entries replayed -/

section
variable {s t u : State} {z : ZoneId} {r c : Zone} {n m : Byte} {masked : List Byte}

theorem Settled.unmasks (h : Settled s u z c) (hn : MaskedIn c.devices n) :
    Settled s (putMap handOver z (setDevice n (.fire false) (zoneAt u z).devices) u) z
      { c with devices := mapAfter c n (.fire false) } := by
  have hmap : mapAfter c n (.fire false) = setDevice n (.fire false) c.devices := if_neg fun hno => by
    rw [hn] at hno
    exact absurd hno.1 (by simp)
  rw [h.zone, hmap]
  exact h.put _

/-- R120: one masked entry is replayed as a FIRE report that arrives then. -/
theorem Settled.replays (h : Settled s u z c) (hlaw : AlarmLaw s) (hz : z ≠ 64) (hwin : c.window = none)
    (hold : c.state ≠ .investigating → (zoneAt s z).state ≠ .investigating) (hn : MaskedIn c.devices n) :
    FireTaken s (replayDevice handOver z u n) z c n := by
  rw [replayDevice_masked (by rw [h.zone]; exact hn)]
  exact (h.unmasks hn).fireActs hlaw hz hwin hold

/-- The replays of a window's closing are those of its masked entries (R120). -/
theorem closeWindow_replays (hz : z ≠ 64) (cause : CloseCause) (hopen : (zoneAt s z).window ≠ none)
    (hmap : MapLaw (zoneAt s z)) {masked : List Byte}
    (hmasked : ((zoneAt s z).devices.filter fun d => decide (d.condition = .fire true)).map (·.number) = masked) :
    closeWindow handOver cause s z = masked.foldl (replayDevice handOver z) (windowShut cause z s) := by
  have hnodup : ((zoneAt s z).devices.map (·.number)).Nodup :=
    List.pairwise_map.mpr (hmap.2.imp fun {a b} hlt he => absurd hlt (by rw [he]; exact Nat.lt_irrefl _))
  rw [closeWindow_open cause hopen, replays_of_masked hz _ hnodup (windowShut_mapIs cause s), masked_numbers hmap.2,
    hmasked]

/-- The masked entries of a map. -/
theorem maskedIn_of_listed (hmap : MapLaw r)
    (hmasked : (r.devices.filter fun d => decide (d.condition = .fire true)).map (·.number) = masked) {x : Byte}
    (hx : x ∈ masked) : MaskedIn r.devices x := by
  rw [← hmasked, ← masked_numbers hmap.2] at hx
  exact of_decide_eq_true (List.mem_filter.mp hx).2

theorem nodup_masked (hmap : MapLaw r)
    (hmasked : (r.devices.filter fun d => decide (d.condition = .fire true)).map (·.number) = masked) :
    masked.Nodup := by
  rw [← hmasked]
  exact List.pairwise_map.mpr ((hmap.2.filter _).imp fun {a b} hlt he =>
    absurd hlt (by rw [he]; exact Nat.lt_irrefl _))

theorem mapAfter_of_masked (hn : MaskedIn c.devices n) : mapAfter c n (.fire false) = setDevice n (.fire false) c.devices :=
  if_neg fun hno => by
    rw [hn] at hno
    exact absurd hno.1 (by simp)

section
variable (h : Settled s u z r) (hlaw : AlarmLaw s) (hz : z ≠ 64) (hopen : r.window ≠ none) (hmap : MapLaw r)
  (hold : r.state ≠ .investigating → (zoneAt s z).state ≠ .investigating) (cause : CloseCause)
include h hlaw hz hopen hmap hold

/-- The only masked entry of a zone is replayed as its window closes (R120). -/
theorem Settled.closesOne
    (hmasked : (r.devices.filter fun d => decide (d.condition = .fire true)).map (·.number) = [n]) :
    FireTaken s (closeWindow handOver cause u z) z { r with window := none } n := by
  rw [closeWindow_replays hz cause (h.zone.symm ▸ hopen) (h.zone.symm ▸ hmap) (h.zone.symm ▸ hmasked)]
  exact (h.shuts cause).replays hlaw hz rfl hold (maskedIn_of_listed hmap hmasked (List.mem_singleton_self n))

/-- Of two masked entries of a DOUBLE zone the lower begins the knock and the other confirms it (R120). -/
theorem Settled.closesTwo
    (hmasked : (r.devices.filter fun d => decide (d.condition = .fire true)).map (·.number) = [m, n])
    (hst : r.state ∈ [.quiet, .pre]) (hdouble : (rowOf s z).coincidence = 1) :
    ConfirmedAs s (closeWindow handOver cause u z) z
      { r with window := none, devices := setDevice m (.fire false) r.devices } n [m, n] := by
  have hm := maskedIn_of_listed hmap hmasked (List.mem_cons_self (a := m))
  have hn := maskedIn_of_listed hmap hmasked (List.mem_cons_of_mem m (List.mem_singleton_self n))
  have hmn : m ≠ n := fun he => (List.nodup_cons.mp (nodup_masked hmap hmasked)).1 (he ▸ List.mem_singleton_self n)
  have hshut := h.shuts cause
  rw [closeWindow_replays hz cause (h.zone.symm ▸ hopen) (h.zone.symm ▸ hmap) (h.zone.symm ▸ hmasked), List.foldl_cons,
    List.foldl_cons, List.foldl_nil, replayDevice_masked (u := windowShut cause z u) (by rw [hshut.zone]; exact hm)]
  have hfirst := (hshut.unmasks hm).knocks (n := m) hst hdouble
  rw [mapAfter_of_masked (c := { r with window := none }) hm] at hfirst
  have hearly : (zoneAt s z).state ≠ .investigating := hold (by
    rcases List.mem_cons.mp hst with hq | hq
    · rw [hq]
      decide
    · rw [List.mem_singleton.mp hq]
      decide)
  have hsecond : MaskedIn (setDevice m (.fire false) r.devices) n := by
    rw [MaskedIn, deviceIn_setDevice_other _ _ (Ne.symm hmn)]
    exact hn
  obtain ⟨-, -, -, hconfirms, -⟩ := hfirst.replays hlaw hz rfl (fun _ => hearly) hsecond
  exact hconfirms rfl fun he => hmn (Option.some.inj he)

end

end

theorem maskedFiresReplayed : Parts.MaskedFiresReplayed := by
  intro s z n hlaw hz hmap hopen r c double entered closing
  have hz64 : z ≠ 64 := fun he => absurd hz (by rw [he]; decide)
  have hdropped : Settled s (dropHead .consoleRx s) z r := settled_dropHead .consoleRx z hlaw
  have hstands : Settled s s z r := settled_refl z hlaw
  have hclosing {masked : List Byte} {p : State → Prop} (hact : ∀ t : State, p t → p (endAct t))
      (hp : ∀ cause u, Settled s u z r → (r.devices.filter fun d => decide (d.condition = .fire true)).map (·.number)
        = masked → p (closeWindow handOver cause u z)) : closing masked p := by
    intro hmasked
    refine ⟨⟨_, exec_windowExpiry hopen, hact _ (hp _ s hstands hmasked)⟩, ?_⟩
    rintro tag b rfl hreq
    exact ⟨_, endIsolation_done hz hreq, hp _ _ hdropped hmasked⟩
  refine ⟨hclosing (fun t ht => ?_) fun cause u hu hmasked => ?one, fun m => hclosing (fun t ht => ?_)
    fun cause u hu hmasked hst hdouble => hu.closesTwo hlaw hz64 hopen hmap id cause hmasked hst hdouble⟩
  case one =>
    have hn := maskedIn_of_listed hmap hmasked (List.mem_singleton_self n)
    obtain ⟨hknocks, hconfirms, hsame, hsecond, -⟩ := hu.closesOne hlaw hz64 hopen hmap id cause hmasked
    rw [mapAfter_of_masked (c := { r with window := none }) hn] at hknocks hsame
    exact ⟨hknocks, hconfirms, hsame, hsecond⟩
  · have hzone := zoneAt_congr (endAct_monitor t) z
    obtain ⟨h1, h2, h3, h4⟩ := ht
    exact ⟨fun hst hd => hzone.trans (h1 hst hd), fun hst hd => confirmedAs_congr (endAct_monitor t) (h2 hst hd),
      fun hst hk => hzone.trans (h3 hst hk), fun hst hk => confirmedAs_congr (endAct_monitor t) (h4 hst hk)⟩
  · exact fun hst hd => confirmedAs_congr (endAct_monitor t) (ht hst hd)

/-- Settles O38, by the tests of ISOLATE-ZONE, and by the replays of a closing: a device's one entry in an ascending map
is replayed at most once, and nothing an alarm brings about touches a zone with no window. -/
theorem isolationWindows : Obligations.IsolationWindows :=
  ⟨isolateZoneTested, windowsClose, maskedFiresReplayed⟩

end Sys2Proof.Machine
end


section
/-! The calls of the Effect Unit: what a start does to the call it starts, and the staff call of an investigation (R134,
R158, R159). -/

namespace Sys2Proof.Machine

/-! ### A call through what becomes of the others -/

section
variable {s t : State} {d e l w : EntryId} {c : Call} {a : AreaId}

theorem callAt_sendToAreas (areas : AreaSet) (cmd x y : Byte) (s : State) (e : EntryId) :
    callAt (sendToAreas areas cmd x y s) e = callAt s e := callAt_congr (sendToAreas_calls _ _ _ _ s) e

/-- The steps of a call leave every other call as it is. -/
theorem callAt_runSteps_other (n : Nat) (s : State) (h : d ≠ e) : callAt (runSteps n e s) d = callAt s d := by
  induction n generalizing s with
  | zero => rfl
  | succ n ih =>
    unfold runSteps
    split
    · rfl
    · dsimp only
      split
      · exact (callAt_putCall_other _ _ h).trans (callAt_sendToAreas _ _ _ _ s d)
      · exact (callAt_putCall_other _ _ h).trans (callAt_sendToAreas _ _ _ _ s d)
      · exact callAt_putCall_other _ (setFlash _ _ s) h
      · exact callAt_putCall_other _ s h
      · exact (ih _).trans (callAt_putCall_other _ s h)
      · exact callAt_endCall_other _ s h

theorem callAt_stepEnds_other (s : State) (h : d ≠ e) : callAt (stepEnds e s) d = callAt s d := by
  unfold stepEnds
  split
  · rfl
  · exact (callAt_runSteps_other _ _ h).trans (callAt_putCall_other _ s h)

/-- The loss of an area by its holder leaves every other call as it is. -/
theorem callAt_areaLost_other (c : Call) (a : AreaId) (s : State) (h : d ≠ l) :
    callAt (areaLost l c a s) d = callAt s d := by
  have hlost : callAt (setFlash (oneArea a) .inactive
      (putCall l (some (loseArea s.tables a c)) (sendToArea cmdStop 0 0 s a))) d = callAt s d :=
    (callAt_putCall_other _ _ h).trans (callAt_congr (sendToArea_calls _ _ _ a s) d)
  exact ite_keeps (P := fun t => callAt t d = callAt s d) ((callAt_stepEnds_other _ h).trans hlost) hlost

/-- A call that seizes an area then holds it (R147). -/
theorem callAt_seizeArea (h : callAt s w = some c) :
    callAt (seizeArea w s a) w = some { c with held := c.held ||| oneArea a } := by
  have htakes {u : State} (hu : callAt u w = some c) :
      callAt (takeArea w a u) w = some { c with held := c.held ||| oneArea a } := by
    rw [takeArea_of_some hu]
    exact callAt_putCall_same _ _ _
  cases hholder : holderOf s.calls a with
  | none =>
    rw [seizeArea, preempt_of_free w true hholder]
    exact htakes h
  | some l =>
    by_cases hl : l = w
    · rw [seizeArea, preempt_of_self true (hl ▸ hholder)]
      exact htakes h
    · obtain ⟨x, hx, -, -⟩ := holderOf_some hholder
      have hlost : callAt (areaLost l x a s) w = some c := (callAt_areaLost_other x a s (Ne.symm hl)).trans h
      have htaken := htakes hlost
      have hpreempted : callAt (preempt w true s a) w = some { c with held := c.held ||| oneArea a } := by
        rw [preempt_of_holder true hholder hl hx]
        exact ite_keeps (P := fun t => callAt t w = some { c with held := c.held ||| oneArea a })
          ((callAt_endCall_other _ _ (Ne.symm hl)).trans htaken) htaken
      rw [seizeArea, takeArea_of_some hpreempted, callAt_putCall_same]
      dsimp only
      rw [or_self_area]

theorem callAt_seizeAreas (l : List AreaId) (h : callAt s w = some c) : callAt (l.foldl (seizeArea w) s) w
    = some { c with held := l.foldl (fun set a => set ||| oneArea a) c.held } := by
  induction l generalizing s c with
  | nil => exact h
  | cons a l ih => exact ih (callAt_seizeArea h)

theorem seizeArea_touches (w : EntryId) (a : AreaId) (s : State) : OnlyTouches [.calls, .links, .log] s (seizeArea w s a) :=
  seizeArea_keeps (callsClosed_onlyTouches s) w a (onlyTouches_refl _ s)

theorem seizeAreas_tables (l : List AreaId) (s : State) : (l.foldl (seizeArea w) s).tables = s.tables :=
  foldl_keeps (P := fun t => t.tables = s.tables)
    (fun t a ht => (seizeArea_touches w a t .tables (by decide)).trans ht) l s rfl

/-! ### The pending list of calls that start -/

/-- No call is waiting. -/
def NonePending (s : State) : Prop := s.calls.pendingList = []

theorem nonePending_shrinks (h : NonePending s) (hst : Shrinks s t) : NonePending t := by
  obtain ⟨_, hby⟩ := hst.calls
  rw [NonePending, hby.list, h]
  rfl

theorem nonePending_takeArea (h : NonePending s) : NonePending (takeArea w a s) := by
  unfold takeArea
  split
  · exact h
  · exact h

theorem nonePending_seizeArea (h : NonePending s) : NonePending (seizeArea w s a) :=
  seizeArea_rule (Q := NonePending) nonePending_shrinks nonePending_takeArea (fun _ => h) (fun _ => h)
    fun _ _ _ _ hc => nonePending_shrinks h (shrinks_areaLost a hc)

theorem nonePending_startRunning (e : EntryId) (h : NonePending s) : NonePending (startRunning e s) := by
  unfold startRunning
  split
  · exact h
  · have hseized (l : List AreaId) : NonePending (l.foldl (seizeArea e) s) :=
      foldl_keeps (fun _ _ ht => nonePending_seizeArea ht) l s h
    dsimp only
    split
    · exact hseized _
    · refine nonePending_shrinks ?_ ((shrinks_record _ _ _ _ _).trans (shrinks_runSteps _ _ _))
      exact hseized _

theorem nonePending_startAlarmCall (e : EntryId) (p : ProgramId) (o : Origin) (areas : AreaSet) (h : NonePending s) :
    NonePending (startAlarmCall e p o areas s) := nonePending_startRunning e (s := placeCall e p o areas s) h

/-! ### A call of the Effect Unit starts -/

/-- A call placed starts on all its areas, whoever held them, at a first step that is a WAIT (R143, R147, R158, R159). -/
theorem startAlarmCall_runs (e : EntryId) {p : ProgramId} (o : Origin) (areas : AreaSet)
    (hkind : s.tables.programs[p].steps[0].kind = 4) : RunsOn (startAlarmCall e p o areas s) e p o areas := by
  have hplaced := callAt_placeCall_same e p o areas s
  generalize hc : newCall (freeNumber s.calls 10 s.calls.nextNumber) p s.tables.programs[p].cls.toNat o areas = c
    at hplaced
  have hseized := callAt_seizeAreas (w := e) (areasOf c.requested) hplaced
  have hheld : (areasOf c.requested).foldl (fun set a => set ||| oneArea a) c.held = areas := by
    rw [← hc]
    exact joined_areasOf areas
  rw [hheld] at hseized
  have htables : ((areasOf c.requested).foldl (seizeArea e) (placeCall e p o areas s)).tables = s.tables :=
    seizeAreas_tables _ _
  simp only [startAlarmCall, startRunning, hplaced, hseized]
  rw [show jumpBound = 511 + 1 from rfl, runSteps_wait (c := { moveCursor { c with held := areas } 0 with running := true })
    511 (by rw [callAt, writeRecord_calls]; exact callAt_putCall_same _ _ _) ?step]
  case step =>
    have hput (x : Option Call) (u : State) : (putCall e x u).tables = u.tables := rfl
    rw [writeRecord_tables, hput, htables, ← hc]
    exact (congrArg StepBytes.kind (stepAt_of_index (i := 0) s.tables rfl)).trans hkind
  refine ⟨_, callAt_putCall_same _ _ _, ?_, ?_, rfl, ?_, rfl, rfl⟩
  · rw [← hc]
    rfl
  · rw [← hc]
    rfl
  · rw [← hc]
    rfl

/-- A call that runs goes on as its act ends with no call waiting. -/
theorem endAct_runsOn {p : ProgramId} {o : Origin} {areas : AreaSet} (hpending : NonePending t)
    (h : RunsOn t e p o areas) : RunsOn (endAct t) e p o areas := by
  obtain ⟨c, hc, hrest⟩ := h
  refine ⟨c, ?_, hrest⟩
  rw [callAt, endAct_calls, settle_of_noPending hpending]
  exact hc

end

end Sys2Proof.Machine
end


section
/-! The staff call of an investigation (R134, R159), and FIRE reports settled. -/

namespace Sys2Proof.Machine

section
variable {s t u x : State} {z : ZoneId} {r c : Zone} {n : Byte}

/-! ### The calls through a calm hand-over -/

/-- Under the law of the effect set and the stage, a hand-over after which the same zones are in ALARM does no more to the
calls than follow the investigations (R134). -/
theorem handOver_follows (b : Bool) (hlaw : AlarmLaw s) (htables : t.tables = s.tables)
    (hset : t.effects.set = s.effects.set) (hstage : t.effects.stage = s.effects.stage)
    (halarms : ∀ y : ZoneId, (zoneAt t y).state = .alarm ↔ (zoneAt s y).state = .alarm) :
    ∃ x, x.calls = t.calls ∧ x.tables = t.tables ∧ x.monitor = t.monitor ∧ handOver b t = followInvestigation b x := by
  obtain ⟨hold, hstood⟩ := hlaw
  have hsame : currentSet t = t.effects.set := by
    rw [hset, hold, currentSet, htables, effectSetOf_congr _ halarms]
  have hrise : stageOf t.monitor.zones t.monitor.link = .evacuate → t.effects.stage = .evacuate := fun hrise => by
    obtain ⟨y, hy⟩ := (stageOf_eq_evacuate_iff _ _).mp hrise
    rw [hstage, hstood]
    exact (stageOf_eq_evacuate_iff _ _).mpr ⟨y, (halarms y).mp hy⟩
  have hkept : (recomputeStage id (t.withEffects { t.effects with set := currentSet t })).calls = t.calls
      ∧ (recomputeStage id (t.withEffects { t.effects with set := currentSet t })).tables = t.tables
      ∧ (recomputeStage id (t.withEffects { t.effects with set := currentSet t })).monitor = t.monitor := by
    unfold recomputeStage
    dsimp only
    rw [id, ite_self]
    split
    · exact ⟨rfl, rfl, rfl⟩
    · exact ⟨writeRecord_calls _ _ _ _ _, writeRecord_tables _ _ _ _ _, writeRecord_monitor _ _ _ _ _⟩
  obtain ⟨hcalls, htables', hmonitor⟩ := hkept
  refine ⟨_, hcalls, htables', hmonitor, ?_⟩
  rw [handOver_eq_inDelivery b hsame hrise, handOverInDelivery, handOverWith]
  dsimp only
  rw [if_pos hsame]

theorem followInvestigation_none (h : ∀ y : ZoneId, (zoneAt x y).state ≠ .investigating) :
    followInvestigation false x = endCall .alertOver 1 x := by
  have hempty : (zonesIn x.monitor.zones .investigating).isEmpty = true :=
    List.isEmpty_iff.mpr (List.eq_nil_iff_forall_not_mem.mpr fun y hy => h y (mem_zonesIn.mp hy))
  exact if_pos hempty

theorem followInvestigation_begins (h : (zoneAt x z).state = .investigating) :
    followInvestigation true x = askStaff x := by
  have hmonitor : (askStaff x).monitor = x.monitor := 
    askStaff_keeps (callsClosed_onlyTouches x) (onlyTouches_refl _ x) .monitor (by decide)
  have hsome : ¬(zonesIn (askStaff x).monitor.zones .investigating).isEmpty = true := fun hempty => by
    have hmem : z ∈ zonesIn (askStaff x).monitor.zones .investigating := by
      rw [hmonitor]
      exact mem_zonesIn.mpr h
    rw [List.isEmpty_iff.mp hempty] at hmem
    cases hmem
  exact if_neg hsome

theorem followInvestigation_noCall (h : callAt x 1 = none) : followInvestigation false x = x := by
  have hended : followInvestigation false x
      = if (zonesIn x.monitor.zones .investigating).isEmpty then endCall .alertOver 1 x else x := rfl
  rw [hended, endCall_of_none _ h, ite_self]

/-- A map replaced moves no call where there is no staff call to end. -/
theorem putMap_calls (hlaw : AlarmLaw u) (hfree : callAt u 1 = none) (ds : List Device) :
    (putMap handOver z ds u).calls = u.calls := by
  unfold putMap
  dsimp only
  split
  · rfl
  · obtain ⟨x, hcalls, -, -, hfollows⟩ := handOver_follows (t := updZone z (fun r => { r with devices := ds }) u) false
      hlaw rfl rfl rfl fun y => by
        by_cases hy : y = z
        · rw [hy, zoneAt_updZone_same]
        · rw [zoneAt_updZone_other _ _ hy]
    rw [hfollows, followInvestigation_noCall ((callAt_congr hcalls 1).trans hfree), hcalls]
    rfl

/-! ### The staff call starts -/

/-- A zone that enters another state is handed over with its record changed (R103). -/
theorem enterState_new {st : ZoneState} (h : (zoneAt s z).state ≠ st) :
    ∃ f : Zone → Zone, (∀ r, (f r).state = st) ∧ enterState handOver z st s = handOver (decide (st = .investigating))
      (writeRecord .zoneState (zoneByte z) (zoneAt s z).state.code st.code (updZone z f s)) :=
  ⟨_, fun _ => rfl, if_neg h⟩

theorem askStaff_starts {p : ProgramId} (hp : x.tables.alarm.staffProgram.toNat = p.val) (hfree : callAt x 1 = none)
    (hareas : x.tables.alarm.staffAreas ≠ 0) :
    askStaff x = startAlarmCall 1 p .alarmStaff x.tables.alarm.staffAreas x := by
  rw [askStaff, programIdOf_of_val hp, hfree]
  exact if_pos (by simpa using hareas)

/-- An investigation that begins asks for the staff call (R134). -/
theorem investigate_asks (hlaw : AlarmLaw u) (halarm : (zoneAt u z).state ≠ .alarm)
    (hinv : (zoneAt u z).state ≠ .investigating) (starters : List Byte) :
    ∃ x, x.calls = u.calls ∧ x.tables = u.tables
      ∧ investigate handOver z starters (clearKnock z u) = askStaff x := by
  unfold investigate
  generalize hf : (fun r : Zone => ({ r with
    starters := starters, acked := false
    ackTimer := afterS (clearKnock z u) (rowOf (clearKnock z u) z).ackWindow.toNat
    invTimer := afterS (clearKnock z u) (rowOf (clearKnock z u) z).invTime.toNat } : Zone)) = f
  have hstate (r : Zone) : (f r).state = r.state := by rw [← hf]
  have hset : (zoneAt (updZone z f (clearKnock z u)) z).state = (zoneAt u z).state := by
    rw [zoneAt_updZone_same, hstate, clearKnock, zoneAt_updZone_same]
  obtain ⟨g, hg, henters⟩ := enterState_new (s := updZone z f (clearKnock z u)) (st := .investigating) (by rwa [hset])
  rw [henters]
  obtain ⟨x, hcalls, htables, hmonitor, hfollows⟩ := handOver_follows (s := u) (t := writeRecord .zoneState (zoneByte z)
    (zoneAt (updZone z f (clearKnock z u)) z).state.code ZoneState.investigating.code
    (updZone z g (updZone z f (clearKnock z u))))
    (decide (ZoneState.investigating = .investigating)) hlaw (writeRecord_tables _ _ _ _ _)
    (congrArg EffectState.set (writeRecord_effects _ _ _ _ _)) (congrArg EffectState.stage (writeRecord_effects _ _ _ _ _))
    fun y => by
      rw [zoneAt_congr (writeRecord_monitor _ _ _ _ _)]
      by_cases hy : y = z
      · rw [hy, zoneAt_updZone_same, hg]
        simp [halarm]
      · rw [zoneAt_updZone_other _ _ hy, zoneAt_updZone_other _ _ hy, clearKnock, zoneAt_updZone_other _ _ hy]
  refine ⟨x, hcalls.trans (writeRecord_calls _ _ _ _ _), htables.trans (writeRecord_tables _ _ _ _ _), ?_⟩
  rw [hfollows]
  refine followInvestigation_begins (z := z) ?_
  rw [zoneAt_congr hmonitor, zoneAt_congr (writeRecord_monitor _ _ _ _ _), zoneAt_updZone_same, hg]

theorem stageOf_eq_staffAlert {zones : Vector Zone 66} {link : PanelLink} (hno : ∀ y : ZoneId, zones[y].state ≠ .alarm)
    (hsome : ∃ y : ZoneId, zones[y].state = .investigating) : stageOf zones link = .staffAlert := by
  have hany (p : Zone → Bool) : anyZone zones p = true ↔ ∃ y : ZoneId, p zones[y] = true := by
    simp [anyZone, Vector.any_toList, Vector.any_eq_true, Fin.exists_iff]
  rw [stageOf, if_neg, if_pos]
  · exact (hany _).mpr (by simpa using hsome)
  · rw [hany]
    rintro ⟨y, hy⟩
    exact hno y (of_decide_eq_true hy)

/-- A calm act that leaves a zone INVESTIGATING makes the stage STAFF-ALERT. -/
theorem Settled.staffAlert (h : Settled s t z c) (hlaw : AlarmLaw s) (hcalm : s.effects.stage ≠ .evacuate)
    (hc : c.state = .investigating) : t.effects.stage = .staffAlert := by
  have hstage : t.effects.stage ≠ .evacuate := fun he => hcalm ((h.evacuate_iff hlaw).mp he)
  rw [h.law.2]
  refine stageOf_eq_staffAlert (fun y hy => hstage ?_) ⟨z, (congrArg Zone.state h.zone).trans hc⟩
  exact stage_of_inAlarm (z := y) h.law hy

/-- R134, R159: the staff call starts as a FIRE report brings its zone to INVESTIGATING. -/
theorem staffCall_starts {p : ProgramId} (hlaw : AlarmLaw s) (hrep : ReportAt s z .fire n) (hdelay : DelayGranted s z)
    (hsingle : (rowOf s z).coincidence ≠ 1) (hstate : (zoneAt s z).state ∈ [.quiet, .pre])
    (hwin : (zoneAt s z).window = none) (hfresh : deviceIn (zoneAt s z).devices n ≠ some ⟨n, .fire false⟩)
    (hnone : ∀ y : ZoneId, (zoneAt s y).state ≠ .investigating) (hfree : callAt s 1 = none)
    (hlist : s.calls.pendingList = []) (hareas : s.tables.alarm.staffAreas ≠ 0)
    (hp : s.tables.alarm.staffProgram.toNat = p.val) (hkind : s.tables.programs[p].steps[0].kind = 4) :
    Answers .takeZoneReport s fun t => t.effects.stage = .staffAlert
      ∧ RunsOn t 1 p .alarmStaff s.tables.alarm.staffAreas := by
  have hdropped : Settled s (dropHead .panelRx s) z (zoneAt s z) := settled_dropHead .panelRx z hlaw
  have hquiet : (zoneAt s z).state ≠ .alarm ∧ (zoneAt s z).state ≠ .investigating := by
    rcases List.mem_cons.mp hstate with hq | hq
    · simp [hq]
    · simp [List.mem_singleton.mp hq]
  obtain ⟨v, hv, hacts, hway⟩ := fireReport_acts hdropped hfresh hwin
  have hcalls : v.calls = s.calls := by
    rcases hway with rfl | rfl
    · rw [writeRecord_calls, dropHead_calls]
    · exact (putMap_calls hdropped.law ((callAt_congr (dropHead_calls _ _) 1).trans hfree) _).trans (dropHead_calls _ _)
  have hvstate : (zoneAt v z).state = (zoneAt s z).state := (congrArg Zone.state hv.zone).trans rfl
  obtain ⟨x, hx, hxtables, hasks⟩ := investigate_asks hv.law (by rw [hvstate]; exact hquiet.1)
    (by rw [hvstate]; exact hquiet.2) [n]
  have hinvestigates := hv.investigates (starters := [n]) hquiet.1 hquiet.2
  have hreport : fireReport handOver z n (dropHead .panelRx s) = investigate handOver z [n] (clearKnock z v) := by
    rw [hacts, fireActs_early (by rwa [hvstate]), hv.row, if_neg hsingle,
      hv.confirm_alone hlaw hquiet.2 hdelay hnone]
  have hexec : exec .takeZoneReport s = .next (endAct (fireReport handOver z n (dropHead .panelRx s))) := exec_report hrep
  rw [hreport] at hexec
  have htables : x.tables = s.tables := hxtables.trans hv.tables
  have hstarts := askStaff_starts (x := x) (p := p) (by rwa [htables])
    ((callAt_congr (hx.trans hcalls) 1).trans hfree) (by rwa [htables])
  refine ⟨_, hexec, ?_, ?_⟩
  · rw [endAct_effects]
    exact hinvestigates.staffAlert hlaw hdelay.2.2.2.2 rfl
  · rw [hasks, hstarts, htables]
    have hpending : NonePending x := by rw [NonePending, hx, hcalls, hlist]
    exact endAct_runsOn (nonePending_startAlarmCall _ _ _ _ hpending)
      (startAlarmCall_runs 1 .alarmStaff _ (by rwa [htables]))

/-! ### The staff call ends -/

theorem loggedIn_last (g : LogState) (r : EventRecord) : (loggedIn g r).ring.getLast? = some r := by
  have hk : ¬(g.ring ++ [r]).length ≤ g.ring.length + 1 - 256 := by
    rw [List.length_append, List.length_singleton]
    omega
  rw [loggedIn_ring, List.getLast?_drop, if_neg hk, List.getLast?_concat]

/-- A cancelled investigation, the only one, ends the staff call (R134, R159). -/
theorem cancelInvestigation_ends (hlaw : AlarmLaw s) (hone : OneInvestigates s) (hz : (zoneAt s z).state = .investigating) :
    ∃ x, x.calls = s.calls ∧ cancelInvestigation z s = endCall .alertOver 1 x := by
  unfold cancelInvestigation
  generalize hf : (fun r : Zone => ({ r with
    devices := r.devices.filter fun d => !(d.condition = .pre || d.condition.isFire), knock := none } : Zone)) = f
  have hstate (r : Zone) : (f r).state = r.state := by rw [← hf]
  have hset : (zoneAt (updZone z f s) z).state = .investigating := by rw [zoneAt_updZone_same, hstate, hz]
  obtain ⟨g, hquiet, henters⟩ := enterState_new (s := updZone z f s) (z := z) (st := .quiet) (by rw [hset]; decide)
  rw [henters, hset]
  obtain ⟨x, hcalls, -, hmonitor, hfollows⟩ := handOver_follows (s := s) (t := writeRecord .zoneState (zoneByte z)
    ZoneState.investigating.code ZoneState.quiet.code (updZone z g (updZone z f s)))
    (decide (ZoneState.quiet = .investigating)) hlaw (writeRecord_tables _ _ _ _ _)
    (congrArg EffectState.set (writeRecord_effects _ _ _ _ _)) (congrArg EffectState.stage (writeRecord_effects _ _ _ _ _))
    fun y => by
      rw [zoneAt_congr (writeRecord_monitor _ _ _ _ _)]
      by_cases hy : y = z
      · rw [hy, zoneAt_updZone_same, hquiet, hz]
        decide
      · rw [zoneAt_updZone_other _ _ hy, zoneAt_updZone_other _ _ hy]
  refine ⟨x, hcalls.trans (writeRecord_calls _ _ _ _ _), hfollows.trans (followInvestigation_none fun y => ?_)⟩
  rw [zoneAt_congr hmonitor, zoneAt_congr (writeRecord_monitor _ _ _ _ _)]
  by_cases hy : y = z
  · rw [hy, zoneAt_updZone_same, hquiet]
    decide
  · rw [zoneAt_updZone_other _ _ hy, zoneAt_updZone_other _ _ hy]
    exact fun hinv => hy (hone y z hinv hz)

end

theorem staffCallFollows : Parts.StaffCallFollows := by
  refine ⟨fun s z n p hlaw hrep hdelay hsingle hstate hwin hfresh hnone hfree hlist hareas hp hkind =>
    staffCall_starts hlaw hrep hdelay hsingle hstate hwin hfresh hnone hfree hlist hareas hp hkind, ?_⟩
  rintro s tag b z hlaw hone hreq rfl hz hacked
  have hexec := exec_alarmCancel_of_requested hreq
  have hzone : zoneAt (dropHead .consoleRx s) z = zoneAt s z := zoneAt_dropHead _ _ _
  rw [alarmCancelOwner_ok (investigatingZone_ok (by rw [hzone]; exact hz)), if_pos (by rw [hzone]; exact hacked)] at hexec
  have hdone : DoneWith .alarmCancel s 11 tag [] (cancelInvestigation z (dropHead .consoleRx s)) := hexec
  obtain ⟨x, hcalls, hcancel⟩ := cancelInvestigation_ends (s := dropHead .consoleRx s) (z := z) hlaw hone
    (by rw [hzone]; exact hz)
  refine ⟨_, hdone, ?_, fun c hc => ?_⟩
  · rw [hcancel]
    exact callAt_endCall_same _ _ _
  · have hx : callAt x 1 = some c := (callAt_congr (hcalls.trans (dropHead_calls _ _)) 1).trans hc
    obtain ⟨t, hend, -⟩ := endCall_of_some .alertOver hx
    rw [hcancel, hend, writeRecord_log]
    exact ⟨_, loggedIn_last _ _, rfl, rfl, rfl, rfl⟩

/-- Settles O35: a FIRE report acts by its zone's state after a calm act that set its entry; a zone that begins to
investigate asks for the staff call, which takes all its areas, and the last investigation's end ends it. -/
theorem fireReports : Obligations.FireReports := ⟨fireReportTaken, staffCallFollows⟩

end Sys2Proof.Machine
end


section
/-! The moves that say nothing to the alarm panel: all that an alarm, the governor and the calls are made of offers to
RACK-EXPRESS and to CONSOLE-TX alone (R151, R187), and a change of the curtain state or of the stage leaves the mark that a
notice is due (R137). What these moves keep is kept by every operation inside an act; the notice itself is the act's end. -/

namespace Sys2Proof.Machine

/-- A property kept by every move inside an act: it may speak of the queues other than RACK-EXPRESS and CONSOLE-TX, of the
curtain state and the stage, whose changes come with the mark of a notice due, and of the phase. -/
structure PanelSilent (P : State → Prop) : Prop where
  record : ∀ {s} k a b c, P s → P (writeRecord k a b c s)
  express : ∀ {s} f, P s → P (offer .rackExpress f s)
  calls : ∀ {s} x, P s → P (s.withCalls x)
  stream : ∀ {s} x, P s → P (s.withStream x)
  monitor : ∀ {s} x, P s → P (s.withMonitor x)
  curtain : ∀ {s} x, x.state = s.curtain.state → P s → P (s.withCurtain x)
  curtainState : ∀ {s} x, P s → P (noticeIsDue (updCurtain (fun c => { c with state := x }) s))
  testValid : ∀ {s} b, P s → P (s.withPhase { s.phase with testValid := b })
  set : ∀ {s} x, P s → P (s.withEffects { s.effects with set := x })
  stage : ∀ {s} x, P s → P (noticeIsDue (s.withEffects { s.effects with stage := x }))

namespace PanelSilent

variable {P : State → Prop} (hP : PanelSilent P) {s : State}
include hP

/-! ### The Call Sequencer's operations -/

theorem putCall (e : EntryId) (c : Option Call) (h : P s) : P (putCall e c s) := hP.calls _ h

theorem setFlash (a : AreaSet) (f : FlashState) (h : P s) : P (setFlash a f s) := hP.calls _ h

theorem sendToArea (cmd x y : Byte) (a : AreaId) (h : P s) : P (sendToArea cmd x y s a) := by
  unfold Machine.sendToArea sendCommand
  split
  · exact hP.express _ h
  · exact h

theorem sendToAreas (areas : AreaSet) (cmd x y : Byte) (h : P s) : P (sendToAreas areas cmd x y s) :=
  foldl_keeps (fun _ a hs => hP.sendToArea cmd x y a hs) _ _ h

theorem endCall (o : CallOutcome) (e : EntryId) (h : P s) : P (endCall o e s) := by
  unfold Machine.endCall
  split
  · exact h
  · refine hP.record _ _ _ _ (hP.setFlash _ _ (hP.calls _ ?_))
    split
    · exact hP.sendToAreas _ _ _ _ h
    · exact h

theorem runSteps (n : Nat) (e : EntryId) : ∀ {s}, P s → P (runSteps n e s) := by
  induction n with
  | zero => exact fun h => h
  | succ n ih =>
    intro s h
    unfold Machine.runSteps
    split
    · exact h
    · dsimp only
      split
      · exact hP.putCall _ _ (hP.sendToAreas _ _ _ _ h)
      · exact hP.putCall _ _ (hP.sendToAreas _ _ _ _ h)
      · exact hP.putCall _ _ (hP.setFlash _ _ h)
      · exact hP.putCall _ _ h
      · exact ih (hP.putCall _ _ h)
      · exact hP.endCall _ _ h

theorem stepEnds (e : EntryId) (h : P s) : P (stepEnds e s) := by
  unfold Machine.stepEnds
  split
  · exact h
  · exact hP.runSteps _ _ (hP.putCall _ _ h)

theorem takeArea (w : EntryId) (a : AreaId) (h : P s) : P (takeArea w a s) := by
  unfold Machine.takeArea
  split
  · exact h
  · exact hP.putCall _ _ h

theorem preempt (w : EntryId) (takes : Bool) (a : AreaId) (h : P s) : P (preempt w takes s a) := by
  unfold Machine.preempt
  split
  · exact h
  · split
    · exact h
    · split
      · exact h
      · have hlost (l : EntryId) (c : Call) := hP.setFlash (oneArea a) .inactive
          (hP.putCall l (some (loseArea s.tables a c)) (hP.sendToArea cmdStop 0 0 a h))
        have hgoes (l : EntryId) (c : Call) (b : Bool) := ite_keeps (c := b) (hP.stepEnds l (hlost l c)) (hlost l c)
        have htaken {b : Bool} {t : State} (ht : P t) : P (if b = true then Machine.takeArea w a t else markFreed t) :=
          ite_keeps (hP.takeArea _ _ ht) (hP.calls _ ht)
        exact ite_keeps (hP.endCall _ _ (htaken (hgoes _ _ _))) (htaken (hgoes _ _ _))

theorem seizeArea (w : EntryId) (a : AreaId) (h : P s) : P (seizeArea w s a) := hP.takeArea _ _ (hP.preempt _ _ _ h)

theorem startRunning (e : EntryId) (h : P s) : P (startRunning e s) := by
  unfold Machine.startRunning
  split
  · exact h
  · have hseized (l : List AreaId) : P (l.foldl (Machine.seizeArea e) s) :=
      foldl_keeps (fun _ a hs => hP.seizeArea _ a hs) l _ h
    dsimp only
    split
    · exact hseized _
    · exact hP.runSteps _ _ (hP.record _ _ _ _ (hP.putCall _ _ (hseized _)))

theorem examineCall (e : EntryId) (h : P s) : P (examineCall s e) := by
  unfold Machine.examineCall
  split
  · exact h
  · split
    · exact h
    · split
      · exact h
      · exact hP.startRunning _ (hP.calls _ (hP.putCall _ _ h))

theorem settleFor (n : Nat) : ∀ {s}, P s → P (settleFor n s) := by
  induction n with
  | zero => exact fun h => h
  | succ n ih =>
    intro s h
    unfold Machine.settleFor
    split
    · exact ih (foldl_keeps (fun _ e hs => hP.examineCall e hs) _ _ (hP.calls _ h))
    · exact h

theorem settle (h : P s) : P (settle s) := hP.calls _ (hP.settleFor _ h)

theorem suppressOrdinary (h : P s) : P (suppressOrdinary s) := by
  refine foldl_keeps (fun x e hx => ?_) _ _ (foldl_keeps (fun _ _ hx => hP.endCall _ _ hx) _ _ h)
  split
  · exact hP.endCall _ _ hx
  · exact hx

theorem startAlarmCall (e : EntryId) (p : ProgramId) (o : Origin) (areas : AreaSet) (h : P s) :
    P (startAlarmCall e p o areas s) := hP.startRunning _ (hP.calls _ h)

theorem growArea (a : AreaId) (h : P s) : P (growArea s a) := by
  unfold Machine.growArea
  split
  · exact h
  · split
    · exact h
    · exact hP.seizeArea _ _ (hP.putCall _ _ h)

theorem askEvacuation (h : P s) : P (askEvacuation s) := by
  unfold Machine.askEvacuation
  dsimp only
  split
  · exact h
  · split
    · exact h
    · split
      · exact hP.startAlarmCall _ _ _ _ h
      · exact foldl_keeps (fun _ a hs => hP.growArea a hs) _ _ h

theorem askStaff (h : P s) : P (askStaff s) := by
  unfold Machine.askStaff
  split
  · exact h
  · split
    · exact hP.startAlarmCall _ _ _ _ h
    · exact h

/-! ### The Zone Monitor's operations, under a hand-over that keeps the property -/

section
variable {ho : HandOver} (hh : ∀ b {s}, P s → P (ho b s))

theorem updZone (z : ZoneId) (f : Zone → Zone) (h : P s) : P (updZone z f s) := hP.monitor _ h

include hh

theorem enterStateWith (z : ZoneId) (st : ZoneState) (h : P s) : P (enterState ho z st s) :=
  ite_keeps h (hh _ (hP.record _ _ _ _ (hP.monitor _ h)))

theorem putMap (z : ZoneId) (ds : List Device) (h : P s) : P (putMap ho z ds s) :=
  ite_keeps (hP.monitor _ h) (hh _ (hP.monitor _ h))

theorem noteReport (z : ZoneId) (n : Byte) (k : ReportKind) (c : Condition) (h : P s) :
    P (noteReport ho z n k c s) := ite_keeps (hP.record _ _ _ _ h) (hP.putMap hh _ _ h)

theorem settlePre (z : ZoneId) (h : P s) : P (settlePre ho z s) := ite_keeps (hP.enterStateWith hh _ _ h) h

theorem endKnock (z : ZoneId) (h : P s) : P (endKnock ho z s) := hP.enterStateWith hh _ _ (hP.monitor _ h)

theorem normalReport (z : ZoneId) (n : Byte) (h : P s) : P (normalReport ho z n s) := by
  have hput := hP.putMap hh z (removeDevice n (zoneAt s z).devices) h
  exact ite_keeps (hP.endKnock hh _ hput) (hP.settlePre hh _ hput)

theorem preReport (z : ZoneId) (n : Byte) (h : P s) : P (preReport ho z n s) := by
  have hnoted := hP.noteReport hh z n .pre .pre h
  exact ite_keeps (hP.enterStateWith hh _ _ hnoted)
    (ite_keeps (hP.enterStateWith hh _ _ (hP.updZone _ _ hnoted)) hnoted)

theorem faultReport (z : ZoneId) (n : Byte) (h : P s) : P (faultReport ho z n s) := by
  have hnoted := hP.noteReport hh z n .fault .fault h
  exact ite_keeps (hP.endKnock hh _ hnoted) (hP.settlePre hh _ hnoted)

theorem manualReport (z : ZoneId) (n : Byte) (h : P s) : P (manualReport ho z n s) :=
  hP.enterStateWith hh _ _ (hP.noteReport hh _ _ _ _ h)

theorem toAlarm (zs : List ZoneId) (h : P s) : P (toAlarm ho zs s) :=
  foldl_keeps (fun _ _ hx => hP.enterStateWith hh _ _ hx) _ _ h

theorem confirm (z : ZoneId) (starters : List Byte) (h : P s) : P (confirm ho z starters s) := by
  have hcleared := hP.updZone z (fun r => { r with knock := none }) h
  exact ite_keeps (hP.enterStateWith hh _ _ hcleared)
    (ite_keeps (hP.enterStateWith hh _ _ (hP.updZone _ _ hcleared)) (hP.toAlarm hh _ hcleared))

theorem fireActs (z : ZoneId) (n : Byte) (h : P s) : P (fireActs ho z n s) := by
  have hearly : P (if (rowOf s z).coincidence = 1 then
      enterState ho z .firstKnock (Machine.updZone z (fun r => { r with knock := some n }) s)
      else Machine.confirm ho z [n] s) :=
    ite_keeps (hP.enterStateWith hh _ _ (hP.monitor _ h)) (hP.confirm hh _ _ h)
  unfold Machine.fireActs
  dsimp only
  split
  · exact hearly
  · exact hearly
  · exact ite_keeps h (hP.confirm hh _ _ h)
  · exact ite_keeps h (hP.enterStateWith hh _ _ h)
  · exact h

theorem replayDevice (z : ZoneId) (n : Byte) (h : P s) : P (replayDevice ho z s n) := by
  unfold Machine.replayDevice
  split
  · exact hP.fireActs hh _ _ (hP.putMap hh _ _ h)
  · exact h

theorem closeWindowWith (cause : CloseCause) (z : ZoneId) (h : P s) : P (closeWindow ho cause s z) :=
  ite_keeps h (foldl_keeps (fun _ _ hx => hP.replayDevice hh _ _ hx) _ _ (hP.record _ _ _ _ (hP.monitor _ h)))

theorem closeWindowsWith (cause : CloseCause) (h : P s) : P (closeWindows ho cause s) :=
  foldl_keeps (fun _ _ hx => hP.closeWindowWith hh _ _ hx) _ _ h

theorem fireReport (z : ZoneId) (n : Byte) (h : P s) : P (fireReport ho z n s) := by
  have hmasked := hP.record .isolatedFire (zoneByte z) n 0
    (hP.putMap hh z (setDevice n (.fire true) (zoneAt s z).devices) h)
  exact ite_keeps h (ite_keeps (hP.fireActs hh _ _ (hP.closeWindowWith hh _ _ (hP.record _ _ _ _ h)))
    (ite_keeps (ite_keeps (hP.enterStateWith hh _ _ hmasked) hmasked) (hP.fireActs hh _ _ (hP.putMap hh _ _ h))))

theorem takeReport (body : List Byte) (h : P s) : P (takeReport ho body s) := by
  unfold Machine.takeReport
  split
  · exact hP.record _ _ _ _ h
  next z k n _ =>
    cases k with
    | normal => exact hP.normalReport hh _ _ h
    | pre => exact hP.preReport hh _ _ h
    | fire => exact hP.fireReport hh _ _ h
    | manual => exact hP.manualReport hh _ _ h
    | fault => exact hP.faultReport hh _ _ h

theorem report64 (r : CurtainReport) (h : P s) : P (report64 ho r s) := by
  unfold Machine.report64
  split
  · exact hP.enterStateWith hh _ _ h
  · exact hP.enterStateWith hh _ _ h
  · exact hP.enterStateWith hh _ _ h
  · exact h
  · exact h

end

/-! ### The governor's operations, under a reporter that keeps the property -/

theorem toState (st : CurtainState) (h : P s) : P (toState st s) := ite_keeps h (hP.record _ _ _ _ (hP.curtainState _ h))

theorem closeTest (pass : Bool) (total : Option Nat) (h : P s) : P (closeTest pass total s) := by
  unfold Machine.closeTest
  split
  · exact hP.record _ _ _ _ (hP.testValid _ (hP.curtain _ rfl h))
  · exact h
  · exact h

theorem updTest (f : TestRecord → TestRecord) (h : P s) : P (updTest f s) := by
  unfold Machine.updTest
  split
  · exact hP.curtain _ rfl h
  · exact h
  · exact h

theorem fallBegins (h : P s) : P (fallBegins s) := hP.curtain _ rfl h

theorem becomeSlowing (h : P s) : P (becomeSlowing s) := hP.toState _ (hP.curtain _ rfl h)

theorem enterSlowing (h : P s) : P (enterSlowing s) := ite_keeps (hP.becomeSlowing h) h

theorem takeReference (h : P s) : P (takeReference s) := hP.curtain _ rfl h

section
variable {rep : Reporter} (hr : ∀ r {s}, P s → P (rep r s))
include hr

theorem recordFault (f : CurtainFault) (h : P s) : P (recordFault rep f s) :=
  ite_keeps h (hr _ (hP.record _ _ _ _ (hP.curtain _ rfl h)))

theorem referenceAt (p : Nat) (h : P s) : P (referenceAt rep p s) :=
  hP.curtain _ rfl (ite_keeps (hP.recordFault hr _ h) h)

theorem arriveIn (h : P s) : P (arriveIn rep s) :=
  hr _ (hP.toState _ (hP.closeTest _ _ (hP.curtain _ rfl (hP.referenceAt hr _ h))))

theorem arriveOut (h : P s) : P (arriveOut rep s) :=
  hr _ (hP.toState _ (hP.curtain _ rfl (hP.referenceAt hr _ h)))

theorem compareSwitch (asserts : Bool) (h : P s) : P (compareSwitch rep asserts s) := ite_keeps (hP.recordFault hr _ h) h

theorem slowZoneTest (asserts : Bool) (h : P s) : P (slowZoneTest rep asserts s) :=
  hP.enterSlowing (hP.compareSwitch hr _ h)

theorem enterDescending (h : P s) : P (enterDescending rep s) :=
  hP.enterSlowing (hP.toState _ (hP.compareSwitch hr _ h))

theorem releaseFromOut (h : P s) : P (releaseFromOut rep s) :=
  hP.enterDescending hr (hP.fallBegins (hP.curtain _ rfl h))

theorem abortRaise (h : P s) : P (abortRaise rep s) :=
  ite_keeps (hP.arriveIn hr (hP.curtain _ rfl h)) (hP.enterDescending hr (hP.fallBegins (hP.curtain _ rfl h)))

theorem demandTaken (h : P s) : P (demandTaken rep s) := by
  unfold Machine.demandTaken
  split
  · exact hP.releaseFromOut hr h
  · exact hP.abortRaise hr h
  all_goals exact h

theorem addDemand (d : Demand) (h : P s) : P (addDemand rep d s) :=
  ite_keeps (hP.curtain _ rfl h) (hP.demandTaken hr (hP.curtain _ rfl h))

theorem addAlarm (h : P s) : P (addAlarm rep s) := by
  have hjoined := hP.addDemand hr .alarm (hP.closeTest false none h)
  exact ite_keeps h (ite_keeps (hr _ hjoined) hjoined)

theorem limitsConflict (h : P s) : P (limitsConflict rep s) := hP.toState _ (hP.curtain _ rfl (hP.recordFault hr _ h))

theorem raiseFails (h : P s) : P (raiseFails rep s) := hP.abortRaise hr (hP.curtain _ rfl (hP.recordFault hr _ h))

theorem limitInTaken (h : P s) : P (limitInTaken rep s) := ite_keeps (hP.referenceAt hr _ h) (hP.arriveIn hr h)

theorem limitOutTaken (h : P s) : P (limitOutTaken rep s) := by
  have hthrough : P (releaseThroughOut rep s) := hP.releaseFromOut hr (hP.toState _ (hP.referenceAt hr _ h))
  have hwindow : P (Machine.updCurtain (fun c => { c with window := freshWindow })
      (Machine.referenceAt rep s.tables.curtain.travel.toNat s)) := hP.curtain _ rfl (hP.referenceAt hr _ h)
  unfold Machine.limitOutTaken
  split
  next => exact hP.arriveOut hr h
  next => exact hP.referenceAt hr _ h
  next => exact hwindow
  next => exact hwindow
  next => exact hwindow
  next => exact hthrough
  next => exact hthrough

theorem judgeMain (v : Nat) (h : P s) : P (judgeMain rep v s) := by
  have hnoted (f g : TestRecord → TestRecord) := hP.updTest g (hP.updTest f h)
  have hover (f g : TestRecord → TestRecord) :=
    ite_keeps (c := s.tables.curtain.vmax.toNat < v) (hP.recordFault hr .overspeed (hnoted f g)) (hnoted f g)
  exact ite_keeps (hP.updTest _ h) (ite_keeps (hP.recordFault hr _ (hover _ _)) (hover _ _))

theorem judgeSlow (v : Nat) (h : P s) : P (judgeSlow rep v s) := by
  unfold Machine.judgeSlow
  split
  · exact h
  · exact ite_keeps (ite_keeps (hP.recordFault hr _ (hP.updTest _ h)) (hP.updTest _ h)) h

theorem countWindow (h : P s) : P (countWindow rep s) := by
  unfold Machine.countWindow
  split
  · exact hP.takeReference h
  · exact ite_keeps (hP.curtain _ rfl h)
      (ite_keeps (hP.judgeSlow hr _ (hP.curtain _ rfl h)) (hP.judgeMain hr _ (hP.curtain _ rfl h)))

theorem driftTest (h : P s) : P (driftTest rep s) := ite_keeps (hP.recordFault hr _ h) h

theorem leaveStalled (h : P s) : P (leaveStalled rep s) := by
  have hcompared := hP.compareSwitch hr false h
  exact ite_keeps (hP.toState _ hcompared) (ite_keeps (hP.becomeSlowing hcompared) (hP.toState _ hcompared))

theorem downCount (h : P s) : P (downCount rep s) := by
  have hdown := hP.curtain { s.curtain with position := s.curtain.position - 1 } rfl h
  have hmoving := hP.curtain { { s.curtain with position := s.curtain.position - 1 } with startTimer := none } rfl hdown
  refine ite_keeps hdown ?_
  split
  · exact hP.enterDescending hr (hP.takeReference (hP.curtain _ rfl hdown))
  · exact hP.slowZoneTest hr _ (hP.countWindow hr (hP.updTest _ hmoving))
  · exact hP.slowZoneTest hr _ (hP.countWindow hr (hP.updTest _ hmoving))
  · exact hP.leaveStalled hr (hP.takeReference (hP.updTest _ hmoving))
  · exact hP.driftTest hr hdown
  · exact hdown
  · exact hdown

theorem upCount (h : P s) : P (upCount rep s) := by
  have hup := hP.curtain { s.curtain with position := if s.curtain.position < s.tables.curtain.travel.toNat
    then s.curtain.position + 1 else s.curtain.position } rfl h
  refine ite_keeps hup ?_
  split
  · exact hP.curtain _ rfl hup
  · exact hP.curtain _ rfl hup
  · exact hP.curtain _ rfl hup
  · exact hP.curtain _ rfl hup
  · exact hP.driftTest hr hup
  · exact hup
  · exact hup

theorem illegalCount (h : P s) : P (illegalCount rep s) := hP.recordFault hr _ (hP.curtain _ rfl h)

end

/-! ### The hand-over -/

theorem deliver {curtain : State → State} (hc : ∀ {s}, P s → P (curtain s)) (old : EffectSet) (h : P s) :
    P (deliver curtain old s) := by
  have hcurtain : P (if s.effects.set.curtain then curtain s else s) := ite_keeps (hc h) h
  exact hP.askEvacuation (ite_keeps (hP.stream _ hcurtain) hcurtain)

theorem recomputeStage {rise : State → State} (hr : ∀ {s}, P s → P (rise s)) (h : P s) :
    P (recomputeStage rise s) := by
  have hset (st : Stage) : P (setStage st s) := hP.record _ _ _ _ (hP.stage _ h)
  exact ite_keeps h (ite_keeps (hr (hset _)) (hset _))

theorem followInvestigation (entered : Bool) (h : P s) : P (followInvestigation entered s) := by
  have hasked : P (if entered then Machine.askStaff s else s) := ite_keeps (hP.askStaff h) h
  exact ite_keeps (hP.endCall _ _ hasked) hasked

theorem handOverWith {rise curtain : State → State} (hr : ∀ {s}, P s → P (rise s)) (hc : ∀ {s}, P s → P (curtain s))
    (entered : Bool) (h : P s) : P (handOverWith rise curtain entered s) := by
  have hstaged := hP.recomputeStage hr (hP.set (currentSet s) h)
  exact hP.followInvestigation _ (ite_keeps hstaged (hP.deliver hc _ hstaged))

theorem deliverCurtain (h : P s) : P (deliverCurtain s) :=
  hP.addAlarm (fun r _ h => hP.report64 (fun b _ h => hP.handOverWith (fun h => h) (fun h => h) b h) r h) h

theorem handOverInRise (b : Bool) (h : P s) : P (handOverInRise b s) :=
  hP.handOverWith (fun h => h) (fun h => hP.deliverCurtain h) b h

theorem riseToEvacuate (h : P s) : P (riseToEvacuate s) :=
  hP.closeWindowsWith (fun b _ h => hP.handOverInRise b h) _ (hP.suppressOrdinary (hP.endCall _ _ h))

theorem handOver (b : Bool) (h : P s) : P (handOver b s) :=
  hP.handOverWith (fun h => hP.riseToEvacuate h) (fun h => hP.deliverCurtain h) b h

theorem reportCurtain (r : CurtainReport) (h : P s) : P (reportCurtain r s) :=
  hP.report64 (fun b _ h => hP.handOver b h) r h

theorem enterState (z : ZoneId) (st : ZoneState) (h : P s) : P (enterState Machine.handOver z st s) :=
  hP.enterStateWith (fun b _ h => hP.handOver b h) z st h

theorem closeWindow (cause : CloseCause) (z : ZoneId) (h : P s) : P (closeWindow Machine.handOver cause s z) :=
  hP.closeWindowWith (fun b _ h => hP.handOver b h) cause z h

theorem endInvestigation (h : P s) : P (endInvestigation Machine.handOver s) :=
  hP.toAlarm (fun b _ h => hP.handOver b h) _ h

end PanelSilent

end Sys2Proof.Machine
end


section
/-! The commands of the governor, of the Zone Monitor and of the phase, over the moves that say nothing to the alarm
panel. -/

namespace Sys2Proof.Machine.PanelSilent

variable {P : State → Prop} (hP : PanelSilent P) {s : State}
include hP

/-! ### The governor's commands -/

/-- The governor's reports to zone 64, for every state. -/
theorem reports : ∀ r {s}, P s → P (Machine.reportCurtain r s) := fun r _ h => hP.reportCurtain r h

theorem startWindowOut (h : P s) : P (startWindowOut s) := by
  have hstopped : P (Machine.updCurtain (fun c => { c with startTimer := none }) s) := hP.curtain _ rfl h
  have hstalled := hP.toState .stalled (hP.recordFault hP.reports .startFail hstopped)
  unfold Machine.startWindowOut
  split
  · exact hP.raiseFails hP.reports hstopped
  · exact hstalled
  · exact hstalled
  · exact hstalled
  all_goals exact hstopped

theorem stallOut (h : P s) : P (stallOut s) := by
  have hstalled : P (Machine.toState .stalled (Machine.updCurtain (fun c => { c with window := freshWindow, stallTimer := none })
      (Machine.recordFault Machine.reportCurtain .stall s))) :=
    hP.toState _ (hP.curtain _ rfl (hP.recordFault hP.reports _ h))
  unfold Machine.stallOut
  split
  · exact hstalled
  · exact hstalled
  all_goals exact hP.curtain _ rfl h

theorem raiseOut (h : P s) : P (raiseOut s) := by
  have hstopped : P (Machine.updCurtain (fun c => { c with raiseTimer := none }) s) := hP.curtain _ rfl h
  exact ite_keeps (hP.raiseFails hP.reports hstopped) hstopped

theorem curtainReleaseOwner (args : List Byte) (h : P s) : P (curtainReleaseOwner args s).1 := by
  unfold Machine.curtainReleaseOwner
  split
  · exact hP.addDemand hP.reports _ h
  · exact hP.addDemand hP.reports _ h
  all_goals exact h

theorem curtainTestOwner (args : List Byte) (h : P s) : P (curtainTestOwner args s).1 := by
  have hopened : P (openTest (Machine.addDemand Machine.reportCurtain .test s)) :=
    hP.curtain _ rfl (hP.addDemand hP.reports _ h)
  unfold Machine.curtainTestOwner
  split
  · exact h
  · split
    · exact h
    · exact hopened

theorem takeLimits (h : P s) : P (takeLimits s) := by
  exact ite_keeps (hP.limitsConflict hP.reports h) (ite_keeps (hP.limitInTaken hP.reports h) (ite_keeps (hP.limitOutTaken hP.reports h) h))

section
variable (hl : ∀ {s} x, P s → P (s.withLines x))
include hl

theorem encoderSample (a b : Bool) (h : P s) : P (encoderSample a b s) := by
  have hlines := hl { s.lines with encA := a, encB := b } h
  exact ite_keeps (hP.illegalCount hP.reports hlines)
    (ite_keeps (ite_keeps (hP.downCount hP.reports hlines) (hP.upCount hP.reports hlines)) hlines)

theorem limitInAsserts (h : P s) : P (limitInAsserts s) := by
  have hlines := hl { s.lines with limitIn := true } h
  exact ite_keeps (hP.limitsConflict hP.reports hlines)
    (hP.limitInTaken hP.reports hlines)

theorem limitOutAsserts (h : P s) : P (limitOutAsserts s) := by
  have hlines := hl { s.lines with limitOut := true } h
  exact ite_keeps (hP.limitsConflict hP.reports hlines)
    (hP.limitOutTaken hP.reports hlines)

theorem limitReleases (l : Limit) (h : P s) : P (limitReleases l s) := by
  have hdrop {s : State} (h : P s) : P (dropConflict s) := hP.curtain _ rfl h
  cases l
  · exact ite_keeps (hP.limitOutTaken hP.reports (hdrop (hl _ h))) (hl _ h)
  · exact ite_keeps (hP.limitInTaken hP.reports (hdrop (hl _ h))) (hl _ h)

theorem slowSwAsserts (h : P s) : P (slowSwAsserts s) := by
  have hlines := hl { s.lines with slowSw := true } h
  have htested := hP.slowZoneTest hP.reports true hlines
  unfold Machine.slowSwAsserts
  split
  · exact htested
  · exact htested
  all_goals exact hlines

theorem stageReleaseAsserts (h : P s) : P (stageReleaseAsserts s) := by
  have hlines := hl { s.lines with stageRelease := true } h
  exact ite_keeps hlines (hP.addDemand hP.reports _ hlines)

theorem toOps : GovernorOps P where
  encoderSample a b h := hP.encoderSample hl a b h
  limitInAsserts h := hP.limitInAsserts hl h
  limitOutAsserts h := hP.limitOutAsserts hl h
  limitReleases l h := hP.limitReleases hl l h
  slowSwAsserts h := hP.slowSwAsserts hl h
  stageReleaseAsserts h := hP.stageReleaseAsserts hl h
  takeLimits h := hP.takeLimits h
  captureWraps h := hP.curtain _ rfl h
  startWindowOut h := hP.startWindowOut h
  stallOut h := hP.stallOut h
  dropOut h := hP.closeTest _ _ (hP.recordFault hP.reports _ (hP.curtain _ rfl h))
  raiseOut h := hP.raiseOut h
  curtainReleaseOwner args h := hP.curtainReleaseOwner args h
  curtainTestOwner args h := hP.curtainTestOwner args h

/-- The lines taken as the tables take force, before the end of the act (R70, R123). -/
theorem takeLines : ∀ {s}, P s → ∃ u, P u ∧ takeLines s = endAct u := by
  intro s h
  have hslow {s : State} (h : P s) : P (takeSlowSw s) := ite_keeps (hP.slowSwAsserts hl h) h
  have htravel {s : State} (h : P s) : P (takeTravel s) :=
    ite_keeps (hP.takeLimits (hslow h)) (hslow (hP.takeLimits h))
  have hfire : P (if s.lines.panelFire then panelFire Machine.handOver s else s) := ite_keeps (hP.enterState _ _ h) h
  exact ⟨_, ite_keeps (hP.stageReleaseAsserts hl (htravel hfire)) (htravel hfire), rfl⟩

end

theorem beginRaise (h : P s) : P (beginRaise s) := hP.toState _ (hP.curtain _ rfl h)

/-! ### The Zone Monitor's commands -/

theorem setLink (l : PanelLink) (h : P s) : P (setLink l s) := hP.handOver _ (hP.record _ _ _ _ (hP.monitor _ h))

theorem alarmAckOwner (args : List Byte) (h : P s) : P (alarmAckOwner args s).1 := by
  unfold Machine.alarmAckOwner
  split
  · exact h
  · exact hP.monitor _ h

theorem alarmCancelOwner (args : List Byte) (h : P s) : P (alarmCancelOwner args s).1 := by
  unfold Machine.alarmCancelOwner
  split
  · exact h
  · split
    · exact hP.enterState _ _ (hP.monitor _ h)
    · exact h

theorem isolateZoneOwner (args : List Byte) (h : P s) : P (isolateZoneOwner args s).1 := by
  unfold Machine.isolateZoneOwner
  split
  · exact h
  · exact hP.record _ _ _ _ (hP.monitor _ h)

theorem alarmConfirmOwner (args : List Byte) (h : P s) : P (alarmConfirmOwner args s).1 := by
  unfold Machine.alarmConfirmOwner
  split
  · exact h
  · exact hP.enterState _ _ h

theorem endIsolationOwner (args : List Byte) (h : P s) : P (endIsolationOwner args s).1 := by
  unfold Machine.endIsolationOwner
  split
  · exact h
  · split
    · exact h
    · exact hP.closeWindow _ _ h

theorem toMonitorOps : MonitorOps P where
  takeReport body h := hP.takeReport (fun b _ h => hP.handOver b h) body h
  panelBeat h := ite_keeps (hP.monitor _ h) (hP.setLink _ (hP.monitor _ h))
  heartbeatLost h := hP.endInvestigation (hP.setLink _ (hP.monitor _ h))
  panelFire h := hP.enterState _ _ h
  investigationFails z _ h := hP.enterState z _ h
  windowCloses z cause h := hP.closeWindow cause z h
  alarmAckOwner args h := hP.alarmAckOwner args h
  alarmCancelOwner args h := hP.alarmCancelOwner args h
  isolateZoneOwner args h := hP.isolateZoneOwner args h

theorem quietZone (z : ZoneId) (h : P s) : P (quietZone s z) := ite_keeps h (hP.record _ _ _ _ (hP.monitor _ h))

theorem deliverEmpty (old : EffectSet) (h : P s) : P (deliverEmpty old s) := by
  have hcleared : P (updCurtain (fun c => { c with demands := { c.demands with alarm := false } }) s) :=
    hP.curtain _ rfl h
  exact hP.endCall _ _ (ite_keeps (hP.stream _ hcleared) hcleared)

theorem alarmReset (h : P s) : P (alarmReset s) :=
  hP.record _ _ _ _ (hP.recomputeStage (fun h => h) (hP.endCall _ _ (hP.deliverEmpty _ (hP.set _
    (foldl_keeps (fun _ z hx => hP.quietZone z hx) _ _ h)))))

/-! ### The phase -/

theorem changeStaff (hstaff : ∀ {s} b, P s → P (s.withPhase { s.phase with staff := b })) (on : Bool) (h : P s) :
    P (changeStaff on s) := by
  have hset := hP.record .staffPresence 0 (boolByte on) 0 (hstaff on h)
  exact ite_keeps hset (hP.endInvestigation hset)

theorem changePhase (hphase : ∀ {s} x, P s → P (noticeIsDue (s.withPhase x))) (target : Phase) (h : P s) :
    P (changePhase target s) :=
  ite_keeps (hP.record _ _ _ _ (hP.record _ _ _ _ (hphase _ h))) (hP.record _ _ _ _ (hphase _ h))

theorem zoneTakesTables (z : ZoneId) (h : P s) : P (zoneTakesTables s z) := by
  have hquiet := hP.updZone z (fun r => { leaveInvestigation r with state := .quiet, devices := [], knock := none }) h
  have hhanded := hP.handOver false
    (hP.record .zoneState (zoneByte z) (zoneAt s z).state.code ZoneState.quiet.code hquiet)
  exact ite_keeps h (ite_keeps (hP.handOver _ (ite_keeps hquiet hhanded)) (ite_keeps hquiet hhanded))

theorem zonesFollowPhase (target : Phase) (h : P s) : P (zonesFollowPhase target s) := by
  have hended : P (if permitsDelay target then s else Machine.endInvestigation Machine.handOver s) :=
    ite_keeps h (hP.endInvestigation h)
  exact ite_keeps hended (hP.closeWindowsWith (fun b _ h => hP.handOver b h) _ hended)

theorem startInterval (length : Nat) (h : P s) : P (startInterval length s) := by
  refine foldl_keeps (fun x i hx => ?_) _ _ (hP.calls _ h)
  unfold startEntry
  dsimp only
  split
  · exact hP.calls _ hx
  · split
    · exact hP.record _ _ _ _ (hP.calls _ hx)
    · exact hP.calls _ hx

theorem callsFollowPhase (old target : Phase) (length : Nat) (h : P s) : P (callsFollowPhase old target length s) := by
  have hsuppressed : P (if permitsCalls target then s else Machine.suppressOrdinary s) :=
    ite_keeps h (hP.suppressOrdinary h)
  have hstopped : P (if old = .interval then stopInterval (if permitsCalls target then s else Machine.suppressOrdinary s)
      else if permitsCalls target then s else Machine.suppressOrdinary s) := ite_keeps (hP.calls _ hsuppressed) hsuppressed
  exact ite_keeps (hP.startInterval _ hstopped) hstopped

/-- A transition that is no commit (R4, R15). -/
theorem carryOut (hphase : ∀ {s} x, P s → P (noticeIsDue (s.withPhase x))) (hworking : ∀ {s} x, P s → P (s.withWorking x))
    (target : Phase) (length : Nat) (hm : s.phase.phase ≠ .maintenance) (h : P s) : P (carryOut target length s) := by
  have hchanged := hP.changePhase hphase target h
  unfold Machine.carryOut
  simp only [if_neg hm]
  exact hP.callsFollowPhase _ _ _ (hP.zonesFollowPhase _ (ite_keeps (hworking _ hchanged) hchanged))

end Sys2Proof.Machine.PanelSilent
end


section
/-! The notices to the alarm panel (R137): what the governor, the Zone Monitor and the phase do inside an act puts nothing
on PANEL-TX and leaves the mark of the change; the end of the act files the one notice. -/

namespace Sys2Proof.Machine

/-! ### Inside an act -/

/-- A queue that is neither the one offered to nor CONSOLE-TX keeps its frames (R170, R187). -/
theorem offer_frames_other {q r : QueueId} (hq : r ≠ q) (hr : r ≠ .consoleTx) (f : Frame) (s : State) :
    (offer q f s).links.queues[r.ix].frames = s.links.queues[r.ix].frames := by
  rcases Nat.lt_or_ge (freeBytes s.tables s.links q) (f.length + 4) with hfull | hroom
  · rw [offer_of_full hfull]
    cases hlatch : s.links.queues[q.ix].latched with
    | true => rw [overflowed_of_latched f hlatch]
    | false => rw [overflowed_of_open f hlatch, withLinks_links, closeLatch_other hq, writeRecord_queue_other hr]
  · rw [offer_of_room hroom, withLinks_links, filedIn_other s f hq]

/-- The phase, the stage and the curtain state are those of a state. -/
def SameNotice (s t : State) : Prop :=
  t.phase.phase = s.phase.phase ∧ t.effects.stage = s.effects.stage ∧ t.curtain.state = s.curtain.state

theorem SameNotice.trans_touches {bs : List Block} (hphase : .phase ∉ bs) (heffects : .effects ∉ bs)
    (hcurtain : .curtain ∉ bs) {s t u : State} (hst : SameNotice s t) (h : OnlyTouches bs t u) : SameNotice s u := by
  obtain ⟨hp, he, hc⟩ := hst
  exact ⟨(congrArg PhaseState.phase (h .phase hphase)).trans hp,
    (congrArg EffectState.stage (h .effects heffects)).trans he, (congrArg Curtain.state (h .curtain hcurtain)).trans hc⟩

/-- What an act has done to a state so far: nothing was put on PANEL-TX, and any change of the three things the panel is
told of is marked. -/
structure Untold (s t : State) : Prop where
  tables : t.tables = s.tables
  frames : t.links.queues[QueueId.panelTx.ix].frames = s.links.queues[QueueId.panelTx.ix].frames
  unmarked : t.effects.noticeDue = false → SameNotice s t

theorem untold_refl (s : State) : Untold s s := ⟨rfl, rfl, fun _ => ⟨rfl, rfl, rfl⟩⟩

/-- The links and the log may change, but not PANEL-TX. -/
theorem Untold.touches {s t u : State} (h : OnlyTouches [.links, .log] t u)
    (hframes : u.links.queues[QueueId.panelTx.ix].frames = t.links.queues[QueueId.panelTx.ix].frames)
    (hst : Untold s t) : Untold s u where
  tables := (h .tables (by decide)).trans hst.tables
  frames := hframes.trans hst.frames
  unmarked hdue := (hst.unmarked ((congrArg EffectState.noticeDue (h .effects (by decide))).symm.trans hdue)).trans_touches
    (by decide) (by decide) (by decide) h

theorem panelSilent_untold (s : State) : PanelSilent (Untold s) where
  record k a b c h := Untold.touches (writeRecord_onlyTouches k a b c _)
    (congrArg Queue.frames (writeRecord_queue_other (by decide) _ _ _ _ _)) h
  express f h := Untold.touches (offer_onlyTouches .rackExpress f _) (offer_frames_other (by decide) (by decide) f _) h
  calls _ := fun ⟨ht, hf, hu⟩ => ⟨ht, hf, hu⟩
  stream _ := fun ⟨ht, hf, hu⟩ => ⟨ht, hf, hu⟩
  monitor _ := fun ⟨ht, hf, hu⟩ => ⟨ht, hf, hu⟩
  curtain _ hstate := fun ⟨ht, hf, hu⟩ => ⟨ht, hf, fun hdue => by
    obtain ⟨hphase, hstage, hcurtain⟩ := hu hdue
    exact ⟨hphase, hstage, hstate.trans hcurtain⟩⟩
  curtainState _ := fun ⟨ht, hf, _⟩ => ⟨ht, hf, nofun⟩
  testValid _ := fun ⟨ht, hf, hu⟩ => ⟨ht, hf, hu⟩
  set _ := fun ⟨ht, hf, hu⟩ => ⟨ht, hf, hu⟩
  stage _ := fun ⟨ht, hf, _⟩ => ⟨ht, hf, nofun⟩

namespace Untold

variable {s t : State}

theorem lines (x : Lines) (h : Untold s t) : Untold s (t.withLines x) := ⟨h.tables, h.frames, h.unmarked⟩

theorem working (x : Tables) (h : Untold s t) : Untold s (t.withWorking x) := ⟨h.tables, h.frames, h.unmarked⟩

theorem staff (b : Bool) (h : Untold s t) : Untold s (t.withPhase { t.phase with staff := b }) :=
  ⟨h.tables, h.frames, h.unmarked⟩

theorem phase (x : PhaseState) (h : Untold s t) : Untold s (noticeIsDue (t.withPhase x)) := ⟨h.tables, h.frames, nofun⟩

theorem dropHead {q : QueueId} (hq : QueueId.panelTx ≠ q) (h : Untold s t) : Untold s (dropHead q t) :=
  ⟨h.tables, (congrArg Queue.frames (popFrame_other hq t.links)).trans h.frames, h.unmarked⟩

/-- The room of PANEL-TX is that of the act's beginning. -/
theorem freeBytes (h : Untold s t) : freeBytes t.tables t.links .panelTx = freeBytes s.tables s.links .panelTx := by
  rw [Machine.freeBytes, Machine.freeBytes, occupied, occupied, h.frames, h.tables]

end Untold

/-! ### The end of the act -/

/-- The notice of a state: kind PANEL-NOTICE, with the phase, the stage and the curtain state (R137). -/
def noticeOf (T : Tables) (t : State) : Frame :=
  mkFrame 0x32 T.link.station [t.phase.phase.code, t.effects.stage.code, t.curtain.state.code]

theorem length_noticeOf (T : Tables) (t : State) : (noticeOf T t).length = 8 := length_mkFrame _ _ _

/-- What PANEL-TX holds after an act that moved one of the three: one notice more where there was room. -/
def Noticed (s t : State) : Prop :=
  ¬ SameNotice s t →
    (12 ≤ freeBytes s.tables s.links .panelTx → t.links.queues[QueueId.panelTx.ix].frames
        = s.links.queues[QueueId.panelTx.ix].frames ++ [noticeOf s.tables t])
      ∧ (freeBytes s.tables s.links .panelTx < 12 → t.links.queues[QueueId.panelTx.ix].frames
        = s.links.queues[QueueId.panelTx.ix].frames)

theorem noticed_of_sameNotice {s t : State} (h : SameNotice s t) : Noticed s t := fun hmoved => absurd h hmoved

theorem noticed_refl (s : State) : Noticed s s := noticed_of_sameNotice ⟨rfl, rfl, rfl⟩

/-- The notice offered. -/
theorem offer_notice_frames (s : State) :
    (12 ≤ freeBytes s.tables s.links .panelTx → (offer .panelTx (panelNotice s) s).links.queues[QueueId.panelTx.ix].frames
        = s.links.queues[QueueId.panelTx.ix].frames ++ [noticeOf s.tables s])
      ∧ (freeBytes s.tables s.links .panelTx < 12 →
        (offer .panelTx (panelNotice s) s).links.queues[QueueId.panelTx.ix].frames
          = s.links.queues[QueueId.panelTx.ix].frames) := by
  have hlength : (panelNotice s).length = 8 := length_noticeOf s.tables s
  refine ⟨fun hroom => ?_, fun hfull => ?_⟩
  · rw [offer_of_room (by omega), withLinks_links, filedIn_same]
    rfl
  · rw [offer_of_full (by omega), overflowed_frames (by decide)]

/-- The end of the act files the notice of what the act has changed (R137 item 2). -/
theorem Untold.endAct {s u : State} (h : Untold s u) : Noticed s (endAct u) := by
  have hsettled := (panelSilent_untold s).settle h
  have hsent : Machine.endAct u = sendNotice (settle u) := rfl
  intro hmoved
  cases hdue : (settle u).effects.noticeDue with
  | false =>
    rw [hsent, sendNotice_of_quiet hdue] at hmoved
    exact absurd (hsettled.unmarked hdue) hmoved
  | true =>
    generalize settle u = v at hsettled hsent hdue
    obtain ⟨hfiled, hdropped⟩ := offer_notice_frames (v.withEffects { v.effects with noticeDue := false })
    have hnotice : noticeOf s.tables (Machine.endAct u)
        = noticeOf v.tables (v.withEffects { v.effects with noticeDue := false }) := by
      rw [hsent, hsettled.tables, noticeOf, sendNotice_phase, sendNotice_effects, sendNotice_curtain]
      rfl
    have hoffered : Machine.endAct u = offer .panelTx (panelNotice (v.withEffects { v.effects with noticeDue := false }))
        (v.withEffects { v.effects with noticeDue := false }) := hsent.trans (if_pos hdue)
    have hroom := hsettled.freeBytes
    have hframes := hsettled.frames
    refine ⟨fun hfits => ?_, fun hfull => ?_⟩
    · rw [hnotice, hoffered, ← hframes]
      exact hfiled (hroom.symm ▸ hfits)
    · rw [hoffered, ← hframes]
      exact hdropped (hroom.symm ▸ hfull)

/-- A reply leaves what the panel is told. -/
theorem Noticed.sendReply {s t : State} (tag code : Byte) (r : Reply) (h : Noticed s t) :
    Noticed s (sendReply tag code r t) := by
  have hsent : Machine.sendReply tag code r t = offer .consoleTx (replyFrame t tag code r) t := rfl
  rw [hsent]
  generalize replyFrame t tag code r = f
  have htouch := offer_onlyTouches .consoleTx f t
  rw [Noticed, SameNotice, noticeOf, htouch .effects (by decide), htouch .phase (by decide), htouch .curtain (by decide),
    offer_frames_other (by decide) (by decide)]
  exact h

/-- A request whose owner puts nothing on PANEL-TX. -/
theorem noticed_handle (code : Byte) {owner : List Byte → State → State × Reply} {s : State}
    (howner : ∀ args, Untold s (owner args (dropHead .consoleRx s)).1) : Noticed s (handle code owner s) := by
  unfold handle
  split
  · exact noticed_refl s
  · exact (howner _).endAct.sendReply _ _ _

/-! ### The commands that move none of the three -/

theorem callsClosed_sameNotice (s : State) : CallsClosed (SameNotice s) where
  record k a b c h := h.trans_touches (by decide) (by decide) (by decide) (writeRecord_onlyTouches k a b c _)
  offer q f h := h.trans_touches (by decide) (by decide) (by decide) (offer_onlyTouches q f _)
  calls _ h := h

theorem plainClosed_sameNotice (s : State) : PlainClosed (SameNotice s) where
  toRecordClosed := (callsClosed_sameNotice s).toRecordClosed

theorem sameNotice_endAct {s t : State} (h : SameNotice s t) : SameNotice s (endAct t) := by
  rw [SameNotice, endAct_phase, endAct_effects, endAct_curtain]
  exact h

end Sys2Proof.Machine
end


section
/-! Every command that moves the phase, the stage or the curtain state leaves one notice of them on PANEL-TX (R137). -/

namespace Sys2Proof.Machine

/-! ### The requests -/

section
variable {s t : State}

theorem Untold.writeTableOwner (args : List Byte) (h : Untold s t) : Untold s (writeTableOwner args t).1 := by
  unfold Machine.writeTableOwner
  split
  · exact h
  · split
    · exact h
    · dsimp only
      split_ifs
      exacts [h, h, h, h.working _]

theorem Untold.setMasterOwner (args : List Byte) (h : Untold s t) : Untold s (setMasterOwner args t).1 := by
  unfold Machine.setMasterOwner
  split
  · exact h
  · split
    · exact ⟨h.tables, h.frames, h.unmarked⟩
    · exact h

theorem Untold.curtainRaiseOwner (args : List Byte) (h : Untold s t) : Untold s (curtainRaiseOwner args t).1 := by
  unfold Machine.curtainRaiseOwner
  split
  · exact h
  · exact (panelSilent_untold s).beginRaise h

theorem Untold.alarmResetOwner (args : List Byte) (h : Untold s t) : Untold s (alarmResetOwner args t).1 := by
  unfold Machine.alarmResetOwner
  split
  · exact h
  · exact (panelSilent_untold s).alarmReset h

theorem Untold.staffPresentOwner (args : List Byte) (h : Untold s t) : Untold s (staffPresentOwner args t).1 := by
  unfold Machine.staffPresentOwner
  split_ifs
  exacts [h, h, h, (panelSilent_untold s).changeStaff (fun b h => h.staff b) _ h]

theorem Untold.setPhaseOwner (args : List Byte) (hm : t.phase.phase ≠ .maintenance) (h : Untold s t) :
    Untold s (setPhaseOwner args t).1 := by
  unfold Machine.setPhaseOwner
  split
  · exact h
  · split
    · exact h
    · split
      · exact h
      · exact (panelSilent_untold s).carryOut (fun x h => h.phase x) (fun x h => h.working x) _ _ hm h

end

/-! ### The commands -/

/-- The commands stated apart: a power-on sequence and a commit empty PANEL-TX (R25, R29). -/
def clearsNotices (c : Instr) (s : State) : Prop :=
  c = .powerOn ∨ c = .restartPowerOnSequence ∨ (c = .setPhase ∧ s.phase.phase = .maintenance)

theorem answers_noticed {c : Instr} {s : State} (hc : ¬ clearsNotices c s) : Answers c s (Noticed s) := by
  have h₀ := untold_refl s
  have hsilent := panelSilent_untold s
  have hgovernor : GovernorOps (Untold s) := hsilent.toOps fun x h => h.lines x
  have hmonitor : MonitorOps (Untold s) := hsilent.toMonitorOps
  have hplain := plainClosed_sameNotice s
  have hcalls := callsClosed_toOps (callsClosed_sameNotice s)
  have hidle : Noticed s s := noticed_refl s
  have hsame : SameNotice s s := ⟨rfl, rfl, rfl⟩
  have hhead : Untold s (dropHead .consoleRx s) := h₀.dropHead (by decide)
  have hasked (code : Byte) {owner : List Byte → State → State × Reply}
      (ho : ∀ args {t}, SameNotice s t → SameNotice s (owner args t).1) : Noticed s (handle code owner s) :=
    noticed_of_sameNotice (hplain.handle (fun h => sameNotice_endAct h) code ho hsame)
  cases c with
  | powerOn => exact absurd (.inl rfl) hc
  | restartPowerOnSequence => exact absurd (.inr (.inl rfl)) hc
  | setPhase =>
    exact ⟨_, rfl, noticed_handle 3 fun args =>
      hhead.setPhaseOwner args fun hm => hc (.inr (.inr ⟨rfl, hm⟩))⟩
  | resetAsserted => exact ⟨_, rfl, noticed_of_sameNotice hsame⟩
  | storeWriteEnd back =>
    obtain ⟨t, ht, hq⟩ := answers_storeWriteEnd hplain.toRecordClosed (fun _ h => h) back hsame
    exact ⟨t, ht, noticed_of_sameNotice hq⟩
  | writeTable => exact ⟨_, rfl, noticed_handle 2 fun args => hhead.writeTableOwner args⟩
  | setMaster => exact ⟨_, rfl, noticed_handle 5 fun args => hhead.setMasterOwner args⟩
  | staffPresent => exact ⟨_, rfl, noticed_handle 4 fun args => hhead.staffPresentOwner args⟩
  | alarmReset => exact ⟨_, rfl, noticed_handle 12 fun args => hhead.alarmResetOwner args⟩
  | curtainRaise => exact ⟨_, rfl, noticed_handle 16 fun args => hhead.curtainRaiseOwner args⟩
  | encoderTransition a b => exact ⟨_, rfl, (hgovernor.encoderSample a b h₀).endAct⟩
  | captureTimerWrap => exact ⟨_, rfl, noticed_of_sameNotice hsame⟩
  | limitInAsserted => exact answers_ite hidle (hgovernor.limitInAsserts h₀).endAct
  | limitOutAsserted => exact answers_ite hidle (hgovernor.limitOutAsserts h₀).endAct
  | limitReleased l => exact ⟨_, rfl, (hgovernor.limitReleases l h₀).endAct⟩
  | slowSwAsserted => exact answers_ite hidle (hgovernor.slowSwAsserts h₀).endAct
  | stageReleaseAsserted => exact answers_ite hidle (hgovernor.stageReleaseAsserts h₀).endAct
  | panelFireAsserted => exact answers_ite hidle (hmonitor.panelFire (h₀.lines _)).endAct
  | frameArrival p bytes => exact answers_ite hidle (noticed_of_sameNotice (hplain.receive p bytes hsame))
  | takeLevels =>
    simp only [Answers, exec, execTakeLevels]
    split
    · exact answers_ite (noticed_of_sameNotice (hplain.takeLevelsFrame _ (hplain.dropHead _ hsame))) hidle
    · exact ⟨_, rfl, hidle⟩
  | takeConsolePass =>
    simp only [Answers, exec, execTakeConsolePass]
    split
    · exact answers_ite hidle (noticed_of_sameNotice (hplain.offer _ _ (hplain.dropHead _ hsame)))
    · exact ⟨_, rfl, hidle⟩
  | takeCallDone =>
    simp only [Answers, exec, execTakeCallDone]
    split
    · exact answers_ite (noticed_of_sameNotice (hcalls.takeCallDone _ (hplain.dropHead _ hsame))) hidle
    · exact ⟨_, rfl, hidle⟩
  | takeRackReturn =>
    simp only [Answers, exec, execTakeRackReturn]
    split
    · exact answers_ite hidle (noticed_of_sameNotice (hplain.offer _ _ (hplain.dropHead _ hsame)))
    · exact ⟨_, rfl, hidle⟩
  | takeZoneReport =>
    simp only [Answers, exec, execTakeZoneReport]
    split
    · exact answers_ite (hmonitor.takeReport _ (h₀.dropHead (by decide))).endAct hidle
    · exact ⟨_, rfl, hidle⟩
  | takePanelBeat =>
    simp only [Answers, exec, execTakePanelBeat]
    split
    · exact answers_ite (hmonitor.panelBeat (h₀.dropHead (by decide))).endAct hidle
    · exact ⟨_, rfl, hidle⟩
  | takePanelOther =>
    simp only [Answers, exec, execTakePanelOther]
    split
    · exact answers_ite hidle (noticed_of_sameNotice (hplain.dropHead _ hsame))
    · exact ⟨_, rfl, hidle⟩
  | unknownRequest =>
    simp only [Answers, exec, execUnknownRequest]
    split
    · exact ⟨_, rfl, noticed_of_sameNotice (hplain.sendReply _ _ _ (hplain.dropHead _ hsame))⟩
    · exact ⟨_, rfl, hidle⟩
    · exact ⟨_, rfl, hidle⟩
  | readTable => exact ⟨_, rfl, hasked 1 fun args t h => (readTableOwner_state args t).symm ▸ h⟩
  | startCall => exact ⟨_, rfl, hasked 6 fun _ _ h => hcalls.startCallOwner _ h⟩
  | cancelCall => exact ⟨_, rfl, hasked 7 fun _ _ h => hcalls.cancelCallOwner _ h⟩
  | extendInterval => exact ⟨_, rfl, hasked 8 fun _ _ h => hcalls.extendIntervalOwner _ h⟩
  | alarmAck => exact ⟨_, rfl, noticed_handle 9 fun args => hmonitor.alarmAckOwner args hhead⟩
  | alarmConfirm => exact ⟨_, rfl, noticed_handle 10 fun args => hsilent.alarmConfirmOwner args hhead⟩
  | alarmCancel => exact ⟨_, rfl, noticed_handle 11 fun args => hmonitor.alarmCancelOwner args hhead⟩
  | isolateZone => exact ⟨_, rfl, noticed_handle 13 fun args => hmonitor.isolateZoneOwner args hhead⟩
  | endIsolation => exact ⟨_, rfl, noticed_handle 14 fun args => hsilent.endIsolationOwner args hhead⟩
  | curtainRelease => exact ⟨_, rfl, noticed_handle 15 fun args => hgovernor.curtainReleaseOwner args hhead⟩
  | curtainTest => exact ⟨_, rfl, noticed_handle 17 fun args => hgovernor.curtainTestOwner args hhead⟩
  | readStatus => exact ⟨_, rfl, hasked 18 fun _ _ h => h⟩
  | readZone => exact ⟨_, rfl, hasked 19 fun args t h => (readZoneOwner_state args t).symm ▸ h⟩
  | readCalls => exact ⟨_, rfl, hasked 20 fun _ _ h => h⟩
  | readEvents => exact ⟨_, rfl, hasked 21 fun _ _ h => h⟩
  | restart =>
    simp only [Answers, exec, execRestart]
    split
    · exact ⟨_, rfl, noticed_of_sameNotice (hplain.restartRequest _ (hplain.dropHead _ hsame))⟩
    · exact ⟨_, rfl, hidle⟩
  | levelStep => exact ⟨_, rfl, noticed_of_sameNotice (hplain.levelStep hsame)⟩
  | periodicRefresh => exact ⟨_, rfl, noticed_of_sameNotice (hplain.stream _ hsame)⟩
  | consoleTimerExpiry => exact answers_ite (noticed_of_sameNotice (hplain.consoleTimerOut hsame)) hidle
  | holdTimerExpiry =>
    exact answers_ite (noticed_of_sameNotice (hplain.setFreshness _ (hplain.stream _ hsame))) hidle
  | heartbeatTimerExpiry => exact answers_ite (hmonitor.heartbeatLost h₀).endAct hidle
  | noticeTimerExpiry => exact ⟨_, rfl, noticed_of_sameNotice (hplain.offer _ _ (hplain.noticeTimer _ hsame))⟩
  | statusTimerExpiry => exact ⟨_, rfl, noticed_of_sameNotice (hplain.offer _ _ (hplain.statusTimer _ hsame))⟩
  | startWindowExpiry => exact answers_ite (hgovernor.startWindowOut h₀).endAct hidle
  | stallTimerExpiry => exact answers_ite (hgovernor.stallOut h₀).endAct hidle
  | dropTimerExpiry => exact answers_ite (hgovernor.dropOut h₀).endAct hidle
  | raiseTimerExpiry => exact answers_ite (hgovernor.raiseOut h₀).endAct hidle
  | ackTimerExpiry z => exact ⟨_, rfl, ite_keeps (hsilent.enterState z _ h₀).endAct hidle⟩
  | investigationTimerExpiry z => exact ⟨_, rfl, ite_keeps (hsilent.enterState z _ h₀).endAct hidle⟩
  | isolationWindowExpiry z => exact ⟨_, rfl, ite_keeps (hsilent.closeWindow _ z h₀).endAct hidle⟩
  | chimeStepExpiry e => exact ⟨_, rfl, noticed_of_sameNotice (hcalls.timedStepEnds _ e hsame)⟩
  | waitStepExpiry e => exact ⟨_, rfl, noticed_of_sameNotice (hcalls.timedStepEnds _ e hsame)⟩
  | messageLimitExpiry e => exact ⟨_, rfl, noticed_of_sameNotice (hcalls.messageLimit e hsame)⟩
  | flashTimerExpiry e => exact ⟨_, rfl, noticed_of_sameNotice (hcalls.flashTurn e hsame)⟩
  | deadlineTimerExpiry e => exact ⟨_, rfl, noticed_of_sameNotice (hcalls.deadlineOut e hsame)⟩
  | intervalClockTick => exact answers_ite (noticed_of_sameNotice (hcalls.clockTick hsame)) hidle
  | frameSent p => exact ⟨_, rfl, noticed_of_sameNotice (hplain.frameSent p hsame)⟩
  | transmitterFree p => exact ⟨_, rfl, noticed_of_sameNotice (hplain.transmitterFree p hsame)⟩
  | panelFireReleased => exact ⟨_, rfl, hidle⟩
  | slowSwReleased => exact ⟨_, rfl, hidle⟩
  | stageReleaseReleased => exact ⟨_, rfl, hidle⟩

theorem actNotice : Parts.ActNotice := by
  intro c s t hexec _ hpower hcommit hmoved
  have hc : ¬ clearsNotices c s := fun h => by
    rcases h with rfl | rfl | h
    · exact hpower (by decide)
    · exact hpower (by decide)
    · exact hcommit h
  obtain ⟨u, hu, hnoticed⟩ := answers_noticed hc
  obtain rfl : u = t := Host.Outcome.next.inj (hu.symm.trans hexec)
  refine hnoticed fun ⟨hphase, hstage, hcurtain⟩ => ?_
  rcases hmoved with h | h | h
  exacts [h hphase, h hstage, h hcurtain]

/-! ### The periodic frames, and the end of an act -/

theorem periodicNotice_sent : Parts.PeriodicNotice := fun _ => rfl

theorem statusSent : Parts.StatusSent := fun s => by
  rw [← statusBody_eq_statusFields]
  rfl

theorem actEnds : Parts.ActEnds := fun s hfreed => ⟨fun hdue => endAct_of_quiet hdue hfreed, fun hdue => by
  rw [endAct, settle_of_quiet hfreed, sendNotice, if_pos hdue]
  rfl⟩

/-- Settles O57: the periodic frames as they are built, the end of an act, and for every command the one notice its act
leaves, since inside an act nothing is put on PANEL-TX and every change is marked. -/
theorem noticeAndStatus : Obligations.NoticeAndStatus := ⟨periodicNotice_sent, statusSent, actEnds, actNotice⟩

end Sys2Proof.Machine
end


section
/-! A commit (R25): valid tables give each slot to one channel or one guard at most (R18, R20), so the slot map is the
tables' own; and the zones take the new tables without the alarm, the governor or the levels hearing of it (R125). -/

namespace Sys2Proof.Machine

/-! ### The slots of valid tables -/

section
variable {t : Tables} (hvalid : validate t = none)
include hvalid

theorem valid_channel (h : ChannelId) : ∀ c ∈ channelChecks t h, c.2 = true :=
  (validate_eq_none t).mp hvalid (1, h.val, channelChecks t h) (by
    simp only [entryChecks, List.mem_append, List.mem_map]
    exact .inl (.inl (.inl (.inl (.inl (.inl (.inr ⟨h, List.mem_finRange h, rfl⟩)))))))

theorem valid_guard (g : Fin 32) : ∀ c ∈ guardChecks t g, c.2 = true :=
  (validate_eq_none t).mp hvalid (2, g.val, guardChecks t g) (by
    simp only [entryChecks, List.mem_append, List.mem_map]
    exact .inl (.inl (.inl (.inl (.inl (.inr ⟨g, List.mem_finRange g, rfl⟩))))))

theorem valid_link : ∀ c ∈ linkChecks t, c.2 = true :=
  (validate_eq_none t).mp hvalid (9, 0, linkChecks t) (by simp [entryChecks])

/-- R169: every queue has room for a frame. -/
theorem valid_queueSize (q : QueueId) : 256 ≤ queueSize t q := by
  have hmem : (3, decide (256 ≤ t.link.plan[q.ix].size.toNat)) ∈ linkChecks t := by
    simp only [linkChecks, List.mem_append, List.mem_flatMap]
    refine .inl (.inr ⟨t.link.plan[q.ix], ?_, List.mem_cons_self⟩)
    simp
  exact of_decide_eq_true (valid_link hvalid _ hmem)

omit hvalid in
/-- Two slots of one index are one slot. -/
theorem slot_eq_of_index {u v x y : Byte} {n : Nat} (h : 256 * u.toNat + x.toNat = n) (k : 256 * v.toNat + y.toNat = n) :
    u = v ∧ x = y := by
  have hx := x.isLt
  have hy := y.isLt
  exact ⟨BitVec.eq_of_toNat_eq (by omega), BitVec.eq_of_toNat_eq (by omega)⟩

/-- R18 check 9: of two channels in use at one slot neither stands before the other. -/
theorem channel_not_before {h k : ChannelId} {i : Fin 1024} (hh : ChannelAt t h i) (hk : ChannelAt t k i) :
    ¬ k.val < h.val := by
  intro hlt
  obtain ⟨huniv, hslot⟩ := slot_eq_of_index hh.2 hk.2
  have hmem : (9, (List.finRange 96).all fun j => !(j.val < h.val && channelInUse t.channels[j]
      && t.channels[j].univ = t.channels[h].univ && t.channels[j].slot = t.channels[h].slot)) ∈ channelChecks t h := by
    simp [-Fin.getElem_fin, channelChecks, channelInUse, hh.1]
  have hcheck := List.all_eq_true.mp (valid_channel hvalid h _ hmem) k (List.mem_finRange k)
  simp [-Fin.getElem_fin, channelInUse, hlt, hk.1, huniv, hslot] at hcheck

theorem channel_unique {h k : ChannelId} {i : Fin 1024} (hh : ChannelAt t h i) (hk : ChannelAt t k i) : h = k :=
  Fin.ext (Nat.le_antisymm (Nat.not_lt.mp (channel_not_before hvalid hh hk)) (Nat.not_lt.mp (channel_not_before hvalid hk hh)))

/-- R20 check 3: no guard stands at a channel's slot. -/
theorem guard_not_channel {h : ChannelId} {g : Fin 32} {i : Fin 1024} (hh : ChannelAt t h i) : ¬ GuardAt t g i := by
  intro hg
  obtain ⟨huniv, hslot⟩ := slot_eq_of_index hh.2 hg.2
  have hmem : (3, (List.finRange 96).all fun j => !(channelInUse t.channels[j]
      && t.channels[j].univ = t.guards[g].univ && t.channels[j].slot = t.guards[g].slot)) ∈ guardChecks t g := by
    simp [-Fin.getElem_fin, guardChecks, guardInUse, hg.1]
  have hcheck := List.all_eq_true.mp (valid_guard hvalid g _ hmem) h (List.mem_finRange h)
  simp [-Fin.getElem_fin, channelInUse, hh.1, huniv, hslot] at hcheck

/-- R20 check 4: of two guards in use at one slot neither stands before the other. -/
theorem guard_not_before {g k : Fin 32} {i : Fin 1024} (hg : GuardAt t g i) (hk : GuardAt t k i) : ¬ k.val < g.val := by
  intro hlt
  obtain ⟨huniv, hslot⟩ := slot_eq_of_index hg.2 hk.2
  have hmem : (4, (List.finRange 32).all fun j => !(j.val < g.val && guardInUse t.guards[j]
      && t.guards[j].univ = t.guards[g].univ && t.guards[j].slot = t.guards[g].slot)) ∈ guardChecks t g := by
    simp [-Fin.getElem_fin, guardChecks, guardInUse, hg.1]
  have hcheck := List.all_eq_true.mp (valid_guard hvalid g _ hmem) k (List.mem_finRange k)
  simp [-Fin.getElem_fin, guardInUse, hlt, hk.1, huniv, hslot] at hcheck

theorem guard_unique {g k : Fin 32} {i : Fin 1024} (hg : GuardAt t g i) (hk : GuardAt t k i) : g = k :=
  Fin.ext (Nat.le_antisymm (Nat.not_lt.mp (guard_not_before hvalid hg hk)) (Nat.not_lt.mp (guard_not_before hvalid hk hg)))

/-- R21: the slot map of valid tables. -/
theorem deriveSlots_house_iff (v : Vector Slot 1024) (i : Fin 1024) (h : ChannelId) :
    (deriveSlots t v)[i].cls = .house h ↔ ChannelAt t h i := by
  refine ⟨deriveSlots_house, fun hh => ?_⟩
  rcases deriveSlots_get t v i with ⟨k, hk, hget⟩ | ⟨hnone, -⟩
  · rw [hget, channel_unique hvalid hh hk]
  · exact absurd hh (hnone h)

theorem deriveSlots_guard_iff (v : Vector Slot 1024) (i : Fin 1024) (g : Fin 32) :
    (deriveSlots t v)[i].cls = .guard g ↔ GuardAt t g i := by
  refine ⟨deriveSlots_guard, fun hg => ?_⟩
  rcases deriveSlots_get t v i with ⟨k, hk, -⟩ | ⟨-, ⟨k, hk, hget⟩ | ⟨hno, -⟩⟩
  · exact absurd hg (guard_not_channel hvalid hk)
  · rw [hget, guard_unique hvalid hg hk]
  · exact absurd hg (hno g)

end

/-! ### The zones under the new tables -/

/-- No zone is in ALARM or INVESTIGATING and no window is open: what a commit finds (R12, R25). -/
def Peaceful (s : State) : Prop :=
  ∀ z : ZoneId, (zoneAt s z).state ≠ .alarm ∧ (zoneAt s z).state ≠ .investigating ∧ (zoneAt s z).window = none

/-- The parts the zones reach as they take new tables. -/
abbrev peaceReach : List Block := [.monitor, .calls, .effects, .links, .log]

/-- Where no zone is in ALARM, a hand-over raises nothing and delivers nothing (R128, R130). -/
theorem handOver_peaceful (b : Bool) {s : State} (hset : s.effects.set = emptyEffects)
    (hnone : ∀ z : ZoneId, (zoneAt s z).state ≠ .alarm) :
    OnlyTouches peaceReach s (handOver b s) ∧ (handOver b s).monitor = s.monitor := by
  have hcurrent : currentSet s = s.effects.set := (effectSetOf_of_noAlarm hnone).trans hset.symm
  have hstage : stageOf s.monitor.zones s.monitor.link ≠ .evacuate := fun hrise => by
    obtain ⟨z, hz⟩ := (stageOf_eq_evacuate_iff _ _).mp hrise
    exact hnone z hz
  have hcalls : CallsClosed (OnlyTouches peaceReach s) :=
    { record := fun k a c d h => onlyTouches_trans h (onlyTouches_mono (by simp) (writeRecord_onlyTouches k a c d _))
      offer := fun q f h => onlyTouches_trans h (onlyTouches_mono (by simp) (offer_onlyTouches q f _))
      calls := fun x h => onlyTouches_trans h (onlyTouches_mono (by simp) (onlyTouches_withCalls _ x)) }
  have heffects {u : State} (x : EffectState) (h : OnlyTouches peaceReach s u) : OnlyTouches peaceReach s (u.withEffects x) :=
    onlyTouches_trans h (onlyTouches_mono (by simp) (onlyTouches_withEffects _ x))
  have hstaged : OnlyTouches peaceReach s (recomputeStage id (s.withEffects { s.effects with set := currentSet s })) := by
    have hset : OnlyTouches peaceReach s (s.withEffects { s.effects with set := currentSet s }) :=
      heffects _ (onlyTouches_refl _ s)
    have hmoved (st : Stage) : OnlyTouches peaceReach s
        (setStage st (s.withEffects { s.effects with set := currentSet s })) :=
      hcalls.record _ _ _ _ (heffects _ (heffects _ hset))
    exact ite_keeps hset (ite_keeps (hmoved _) (hmoved _))
  rw [handOver_eq_inDelivery b hcurrent (fun hrise => absurd hrise hstage)]
  refine ⟨?_, (handOverInDelivery_kept b s).1⟩
  unfold handOverInDelivery handOverWith
  simp only [hcurrent, if_true]
  rw [hcurrent] at hstaged
  have hasked : OnlyTouches peaceReach s (if b then
      askStaff (recomputeStage id (s.withEffects { s.effects with set := s.effects.set }))
      else recomputeStage id (s.withEffects { s.effects with set := s.effects.set })) :=
    ite_keeps (askStaff_keeps hcalls hstaged) hstaged
  exact ite_keeps (endCall_keeps hcalls _ _ hasked) hasked

end Sys2Proof.Machine
end


section
/-! What a commit leaves (R25, R125): the working copy in force, the queues emptied, and after the zones have taken the
tables the one notice of the act. -/

namespace Sys2Proof.Machine

/-! ### The zones, one by one -/

/-- Reached from a state through the zones' own parts, with no alarm and an empty effect set. -/
structure Hollow (v t : State) : Prop where
  touches : OnlyTouches peaceReach v t
  set : t.effects.set = emptyEffects
  peace : Peaceful t

namespace Hollow

variable {v t : State}

theorem handOver (b : Bool) (h : Hollow v t) : Hollow v (handOver b t) := by
  obtain ⟨htouches, hmonitor⟩ := handOver_peaceful b h.set fun z => (h.peace z).1
  have hpeace : Peaceful (Machine.handOver b t) := fun z => by
    rw [zoneAt_congr hmonitor]
    exact h.peace z
  exact ⟨onlyTouches_trans h.touches htouches,
    (handOver_alarmLaw b t).1.trans (effectSetOf_of_noAlarm fun z => (hpeace z).1), hpeace⟩

theorem record (k : EventKind) (a b c : Byte) (h : Hollow v t) : Hollow v (writeRecord k a b c t) where
  touches := onlyTouches_trans h.touches (onlyTouches_mono (by simp) (writeRecord_onlyTouches k a b c t))
  set := (congrArg EffectState.set (writeRecord_effects k a b c t)).trans h.set
  peace z := by
    rw [zoneAt_congr (writeRecord_monitor k a b c t)]
    exact h.peace z

theorem quiets (z : ZoneId) (h : Hollow v t) : Hollow v
    (updZone z (fun r => { leaveInvestigation r with state := .quiet, devices := [], knock := none }) t) where
  touches := onlyTouches_trans h.touches (onlyTouches_mono (by simp) (onlyTouches_withMonitor _ _))
  set := h.set
  peace y := by
    by_cases hy : y = z
    · rw [hy, zoneAt_updZone_same]
      exact ⟨nofun, nofun, (h.peace z).2.2⟩
    · rw [zoneAt_updZone_other _ _ hy]
      exact h.peace y

theorem zoneTakesTables (z : ZoneId) (h : Hollow v t) : Hollow v (zoneTakesTables t z) := by
  have hquiet := h.quiets z
  have hhanded := (hquiet.record .zoneState (zoneByte z) (zoneAt t z).state.code ZoneState.quiet.code).handOver false
  exact ite_keeps h (ite_keeps (Hollow.handOver _ (ite_keeps hquiet hhanded)) (ite_keeps hquiet hhanded))

end Hollow

/-! ### The commit -/

theorem changePhase_touches (target : Phase) (s : State) :
    OnlyTouches [.phase, .effects, .links, .log] s (changePhase target s) := by
  have hphase (x : PhaseState) : OnlyTouches [.phase, .effects, .links, .log] s (noticeIsDue (s.withPhase x)) :=
    fun b hb => by cases b <;> simp_all [sameBlock, noticeIsDue]
  have hrecord (k : EventKind) (a b c : Byte) {t : State} (h : OnlyTouches [.phase, .effects, .links, .log] s t) :
      OnlyTouches [.phase, .effects, .links, .log] s (writeRecord k a b c t) :=
    onlyTouches_trans h (onlyTouches_mono (by simp) (writeRecord_onlyTouches k a b c t))
  exact ite_keeps (hrecord _ _ _ _ (hrecord _ _ _ _ (hphase _))) (hrecord _ _ _ _ (hphase _))

/-- The zones and the calls after a commit to DARK, with no zone to close (R125, R157). -/
def committed (s : State) : State :=
  suppressOrdinary ((List.finRange 66).foldl zoneTakesTables (changePhase .dark (commitTables s)))

section
variable {s : State} (hlaw : AlarmLaw s) (hstage : s.effects.stage ≠ .evacuate)
  (hzones : ∀ z : ZoneId, (zoneAt s z).state ≠ .investigating ∧ (zoneAt s z).window = none)
include hlaw hstage hzones

theorem hollow_committed :
    Hollow (changePhase .dark (commitTables s))
      ((List.finRange 66).foldl zoneTakesTables (changePhase .dark (commitTables s))) := by
  have hnone := noAlarm_of_stage hlaw hstage
  refine foldl_keeps (P := Hollow _) (fun t z h => h.zoneTakesTables z) _ _ ⟨onlyTouches_refl _ _, ?_, fun z => ?_⟩
  · rw [changePhase_effects]
    exact hlaw.1.trans (effectSetOf_of_noAlarm hnone)
  · rw [zoneAt_congr (changePhase_monitor _ _)]
    exact ⟨hnone z, hzones z⟩

theorem committed_touches : OnlyTouches (.phase :: peaceReach) (commitTables s) (committed s) := by
  have hchanged : OnlyTouches (.phase :: peaceReach) (commitTables s) (changePhase .dark (commitTables s)) :=
    onlyTouches_mono (by simp) (changePhase_touches .dark _)
  have hzoned : OnlyTouches (.phase :: peaceReach) (changePhase .dark (commitTables s)) _ :=
    onlyTouches_mono (fun _ => List.mem_cons_of_mem _) (hollow_committed hlaw hstage hzones).touches
  have hsuppressed : OnlyTouches (.phase :: peaceReach) _ (committed s) := onlyTouches_mono (by simp)
    (suppressOrdinary_keeps (callsClosed_onlyTouches _) (onlyTouches_refl _ _))
  exact onlyTouches_trans (onlyTouches_trans hchanged hzoned) hsuppressed

theorem committed_phase : (committed s).phase = ⟨.dark, false, false⟩ := by
  have hzoned := (hollow_committed hlaw hstage hzones).touches .phase (by decide)
  have hsuppressed : (committed s).phase = ((List.finRange 66).foldl zoneTakesTables
      (changePhase .dark (commitTables s))).phase :=
    (suppressOrdinary_keeps (callsClosed_onlyTouches _) (onlyTouches_refl _ _)) .phase (by decide)
  have hdark : noStaffPhase .dark = true ∧ clearsValidity .dark = true := by decide
  rw [hsuppressed, hzoned, changePhase_phase, hdark.1, hdark.2]
  simp

/-- R4 test 6: the accepted transition from MAINTENANCE to DARK. -/
theorem carryOut_committed (length : Nat) (hphase : s.phase.phase = .maintenance) :
    carryOut .dark length s = committed s := by
  have hpeace := (hollow_committed hlaw hstage hzones).peace
  have hcalm := zonesFollowPhase_calm .dark fun z => (hpeace z).2
  simp only [carryOut, if_pos hphase, if_neg (show Phase.dark ≠ .maintenance by decide), hcalm]
  simp only [callsFollowPhase, hphase]
  rfl

end

/-! ### The queues of a commit -/

/-- The queues but RACK-EXPRESS and CONSOLE-TX are empty. -/
def Hushed (s : State) : Prop :=
  ∀ q : QueueId, q ≠ .consoleTx → q ≠ .rackExpress → s.links.queues[q.ix].frames = []

theorem panelSilent_hushed : PanelSilent Hushed where
  record k a b c h q hq hr := (congrArg Queue.frames (writeRecord_queue_other hq k a b c _)).trans (h q hq hr)
  express f h q hq hr := (offer_frames_other hr hq f _).trans (h q hq hr)
  calls _ h := h
  stream _ h := h
  monitor _ h := h
  curtain _ _ h := h
  curtainState _ h := h
  testValid _ h := h
  set _ h := h
  stage _ h := h

/-- What the moves inside an act keep, and a change of phase keeps, is kept from the tables' taking force on. -/
theorem PanelSilent.committed {P : State → Prop} (hP : PanelSilent P)
    (hphase : ∀ {s} x, P s → P (noticeIsDue (s.withPhase x))) {s : State} (h : P (commitTables s)) : P (committed s) :=
  hP.suppressOrdinary (foldl_keeps (fun _ z hx => hP.zoneTakesTables z hx) _ _ (hP.changePhase hphase _ h))

theorem commitTables_queue (s : State) (q : QueueId) : (commitTables s).links.queues[q.ix] = ⟨[], false⟩ := by
  change (emptyQueues s.links).queues[q.ix] = _
  simp [emptyQueues]

theorem committed_hushed (s : State) : Hushed (committed s) :=
  panelSilent_hushed.committed (fun _ h => h) fun q _ _ => congrArg Queue.frames (commitTables_queue s q)

theorem noticeOf_endAct (T : Tables) (u : State) : noticeOf T (endAct u)
    = mkFrame 0x32 T.link.station [u.phase.phase.code, u.effects.stage.code, u.curtain.state.code] := by
  rw [noticeOf, endAct_phase, endAct_effects, endAct_curtain]

/-- The notice of the commit is the first frame of PANEL-TX (R25, R137). -/
theorem committed_notice {s : State} (hphase : s.phase.phase = .maintenance) (hvalid : validate s.working = none)
    (hdark : (committed s).phase.phase = .dark) :
    (endAct (committed s)).links.queues[QueueId.panelTx.ix].frames
      = [mkFrame 0x32 s.working.link.station
          [1, (committed s).effects.stage.code, (committed s).curtain.state.code]] := by
  have huntold : Untold (commitTables s) (committed s) :=
    (panelSilent_untold _).committed (fun x h => h.phase x) (untold_refl _)
  have hmoved : ¬ SameNotice (commitTables s) (endAct (committed s)) := fun ⟨hsame, _⟩ => by
    rw [endAct_phase, hdark] at hsame
    exact absurd (hsame.trans hphase) (by decide)
  have hroom : 12 ≤ freeBytes (commitTables s).tables (commitTables s).links .panelTx := by
    have hsize : 256 ≤ queueSize (commitTables s).tables .panelTx := valid_queueSize hvalid _
    rw [freeBytes, commitTables_queue]
    exact Nat.le_trans (by decide) hsize
  have htables : (commitTables s).tables = s.working := rfl
  have hfiled := (huntold.endAct hmoved).1 hroom
  have hempty := congrArg Queue.frames (commitTables_queue s .panelTx)
  have hcode : Phase.dark.code = 1 := rfl
  rw [hfiled, hempty, noticeOf_endAct, hdark, htables, hcode, List.nil_append]

end Sys2Proof.Machine
end


section
/-! A commit to DARK as the Management Unit's SET-PHASE asks for it (R4, R25). -/

namespace Sys2Proof.Machine

/-! ### The tables taking force -/

theorem byteOf_toNat_of_lt {n : Nat} (h : n < 256) : (byteOf n).toNat = n := by
  rw [byteOf, BitVec.toNat_ofNat]
  exact Nat.mod_eq_of_lt h

section
variable (s : State)

theorem commitTables_master (a : AreaId) : (commitTables s).levels.masters[a] = s.working.areas[a].master :=
  mapVec_get _ _ a

theorem commitTables_channel (h : ChannelId) : (commitTables s).levels.channels[h]
    = forcedChannel false (deriveSlots s.working s.stream.slots) s.working.channels[h] := mapVec_get _ _ h

/-- R50: the outputs a commit to DARK leaves, at the loss level below the ceiling. -/
theorem commitTables_output (h : ChannelId) : (commitTables s).levels.channels[h].output.toNat =
    if s.working.channels[h].inUse = 1
      then min s.working.channels[h].ceiling.toNat s.working.channels[h].loss.toNat else 0 := by
  rw [commitTables_channel]
  split
  next hused =>
    rw [forcedChannel_used hused]
    exact byteOf_toNat_of_lt (Nat.lt_of_le_of_lt (Nat.min_le_left _ _) s.working.channels[h].ceiling.isLt)
  next hunused =>
    rw [forcedChannel_unused hunused]
    rfl

/-- R21, R50: the requests are bound from the shadow. -/
theorem commitTables_request (h : ChannelId) (i : Fin 1024) :
    (s.working.channels[h].inUse ≠ 1 → (commitTables s).levels.channels[h].request = 0
        ∧ (commitTables s).levels.channels[h].seen = false)
      ∧ (s.working.channels[h].inUse = 1 →
        256 * s.working.channels[h].univ.toNat + s.working.channels[h].slot.toNat = i.val →
        (commitTables s).levels.channels[h].request = s.stream.slots[i].shadow
          ∧ (commitTables s).levels.channels[h].seen = s.stream.slots[i].seen) := by
  rw [commitTables_channel]
  refine ⟨fun hunused => ?_, fun hused hplace => ?_⟩
  · rw [forcedChannel_unused hunused]
    exact ⟨rfl, rfl⟩
  · obtain ⟨hshadow, hseen, -⟩ := deriveSlots_keeps s.working s.stream.slots i
    rw [forcedChannel_used hused, hplace, slotAt_of_lt _ i.isLt]
    exact ⟨hshadow, hseen⟩

/-- R25: the store begins to write the image of the tables that take force. -/
theorem commitTables_store : (commitTables s).store = { s.store with writing := some (imageOf s.working) } := rfl

theorem commitTables_stream :
    (commitTables s).stream = { s.stream with slots := deriveSlots s.working s.stream.slots } := rfl

theorem commitTables_stepTimer : (commitTables s).levels.stepTimer = s.levels.stepTimer := rfl

theorem commitTables_touches :
    OnlyTouches [.tables, .stream, .levels, .store, .curtain, .links] s (commitTables s) := fun b hb => by
  cases b <;> simp_all [sameBlock, commitTables]

end

/-! ### The request -/

theorem transitionTests_commit {s : State} (hphase : s.phase.phase = .maintenance) (hstage : s.effects.stage ≠ .evacuate)
    (hvalid : validate s.working = none) : transitionTests s .dark = none :=
  transitionTests_passed (.inl hstage) (by rw [hphase]; rfl) (by simp [guardOf, hphase, hvalid])

/-- SET-PHASE DARK in MAINTENANCE, with no zone to close. -/
theorem exec_setPhase_commit {s : State} {tag : Byte} (more : List Byte) (hlaw : AlarmLaw s)
    (hreq : Requested s 3 tag (Phase.dark.code :: more)) (hphase : s.phase.phase = .maintenance)
    (hstage : s.effects.stage ≠ .evacuate) (hvalid : validate s.working = none)
    (hzones : ∀ z : ZoneId, (zoneAt s z).state ≠ .investigating ∧ (zoneAt s z).window = none) :
    DoneWith .setPhase s 3 tag [Phase.dark.code] (committed (dropHead .consoleRx s)) := by
  have hhead : AlarmLaw (dropHead .consoleRx s) := hlaw
  have howner := setPhaseOwner_accepted (s := dropHead .consoleRx s) (target := .dark) more
    (by rw [dropHead_phase, hphase]; decide) (transitionTests_commit (s := dropHead .consoleRx s) hphase hstage hvalid)
  rw [carryOut_committed hhead hstage hzones _ hphase] at howner
  have hexec := exec_setPhase_of_requested hreq
  rw [howner] at hexec
  dsimp only at hexec
  exact hexec

/-- Settles O52: the tables' taking force is read off block by block, valid tables giving each slot one owner; what the
zones and the calls do afterwards reaches none of it, puts nothing on PANEL-TX, and the act's end files the notice. -/
theorem commitTakesForce : Obligations.CommitTakesForce := by
  rintro s tag b more hlaw hreq rfl hphase hstage hvalid hzones
  have hdone := exec_setPhase_commit more hlaw hreq hphase hstage hvalid hzones
  have hhead : AlarmLaw (dropHead .consoleRx s) := hlaw
  have htouch := committed_touches hhead hstage hzones
  have hdarkPhase := committed_phase hhead hstage hzones
  have hnotice := committed_notice (s := dropHead .consoleRx s) hphase hvalid (congrArg PhaseState.phase hdarkPhase)
  have hhushed := committed_hushed (dropHead .consoleRx s)
  have hlevels := htouch .levels (by decide)
  have hstream : (committed (dropHead .consoleRx s)).stream
      = { s.stream with slots := deriveSlots s.working s.stream.slots } := by
    rw [htouch .stream (by decide), commitTables_stream, dropHead_stream, dropHead_working]
  have hstore := (htouch .store (by decide)).trans (commitTables_store _)
  generalize committed (dropHead .consoleRx s) = u at *
  have hkept : OnlyTouches [.tables, .stream, .levels, .store, .curtain, .links, .phase, .monitor, .calls, .effects, .log]
      s u := onlyTouches_trans (onlyTouches_trans (onlyTouches_mono (by simp) (dropHead_onlyTouches .consoleRx s))
    (onlyTouches_mono (by simp) (commitTables_touches _))) (onlyTouches_mono (by simp) htouch)
  refine ⟨u, hdone, htouch .tables (by decide), hkept .working (by decide), hdarkPhase,
    by rw [hstore]; rfl, ⟨imageOf s.working, by rw [hstore]; rfl, rfl⟩,
    hkept .now (by decide), hkept .lines (by decide), hkept .restart (by decide), fun a => ?_, fun h => ?_,
    (congrArg LevelState.stepTimer hlevels).trans (commitTables_stepTimer _), fun h i => ?_, fun i => ?_,
    by rw [hstream], by rw [hstream], htouch .curtain (by decide),
    fun q hq => ?_, hnotice⟩
  · rw [hlevels, commitTables_master]
    rfl
  · rw [hlevels, commitTables_output]
    rfl
  · dsimp only
    rw [hlevels]
    exact commitTables_request (dropHead .consoleRx s) h i
  · obtain ⟨hshadow, hseen, hdirty⟩ := deriveSlots_keeps s.working s.stream.slots i
    dsimp only
    rw [hstream]
    dsimp only
    exact ⟨hshadow, hseen, hdirty, deriveSlots_house_iff hvalid s.stream.slots i,
      deriveSlots_guard_iff hvalid s.stream.slots i⟩
  · refine hhushed q ?_ ?_
    · rintro rfl
      exact absurd hq (by decide)
    · rintro rfl
      exact absurd hq (by decide)

end Sys2Proof.Machine
end


section
/-! Acts under PANEL-FIRE (R123, R131, R132): while zone 65 is in ALARM the stage stays EVACUATE and the effect set only
grows, so a hand-over inside another closes no window and starts no investigation; what it does is a delivery of the set
as it stands. -/

namespace Sys2Proof.Machine

/-! ### Growing effect sets -/

/-- The stage-safe flag and the evacuation areas of one effect set are those of another, or fewer. -/
structure Within (e e' : EffectSet) : Prop where
  stageSafe : e.stageSafe = true → e'.stageSafe = true
  evacuation : ∀ i : Nat, e.evacuation.getLsbD i = true → e'.evacuation.getLsbD i = true

theorem within_refl (e : EffectSet) : Within e e := ⟨id, fun _ => id⟩

theorem Within.trans {e e' e'' : EffectSet} (h : Within e e') (k : Within e' e'') : Within e e'' :=
  ⟨fun hs => k.stageSafe (h.stageSafe hs), fun i hi => k.evacuation i (h.evacuation i hi)⟩

theorem foldl_addRow_stageSafe (rows : Vector ResponseRow 66) (zs : List ZoneId) (e : EffectSet) :
    (zs.foldl (fun e z => addRow e rows[z]) e).stageSafe = true ↔
      e.stageSafe = true ∨ ∃ z ∈ zs, rows[z].stageSafe = 1 := by
  induction zs generalizing e with
  | nil => simp
  | cons z zs ih =>
    have hadded : (addRow e rows[z]).stageSafe = true ↔ e.stageSafe = true ∨ rows[z].stageSafe = 1 := by simp [addRow]
    rw [List.foldl_cons, ih, hadded, List.exists_mem_cons_iff, or_assoc]

theorem foldl_addRow_evacuation (rows : Vector ResponseRow 66) (i : Nat) (zs : List ZoneId) (e : EffectSet) :
    (zs.foldl (fun e z => addRow e rows[z]) e).evacuation.getLsbD i = true ↔
      e.evacuation.getLsbD i = true ∨ ∃ z ∈ zs, rows[z].evacuation.getLsbD i = true := by
  induction zs generalizing e with
  | nil => simp
  | cons z zs ih =>
    have hadded : (addRow e rows[z]).evacuation.getLsbD i = true
        ↔ e.evacuation.getLsbD i = true ∨ rows[z].evacuation.getLsbD i = true := by simp [addRow, -Fin.getElem_fin]
    rw [List.foldl_cons, ih, hadded, List.exists_mem_cons_iff, or_assoc]

theorem currentSet_stageSafe_iff (s : State) :
    (currentSet s).stageSafe = true ↔ ∃ z : ZoneId, InAlarm z s ∧ s.tables.response[z].stageSafe = 1 := by
  rw [currentSet, effectSetOf, foldl_addRow_stageSafe]
  simp only [Bool.false_eq_true, false_or, mem_zonesIn]
  rfl

theorem currentSet_evacuation_iff (s : State) (i : Nat) : (currentSet s).evacuation.getLsbD i = true
    ↔ ∃ z : ZoneId, InAlarm z s ∧ s.tables.response[z].evacuation.getLsbD i = true := by
  rw [currentSet, effectSetOf, foldl_addRow_evacuation]
  constructor
  · rintro (h | ⟨z, hz, hrow⟩)
    · exact absurd (h.symm.trans BitVec.getLsbD_zero) (by decide)
    · exact ⟨z, mem_zonesIn.mp hz, hrow⟩
  · rintro ⟨z, hz, hrow⟩
    exact .inr ⟨z, mem_zonesIn.mpr hz, hrow⟩

/-- With more zones in ALARM the set of the zones is no smaller (R128). -/
theorem within_currentSet {s t : State} (htables : t.tables = s.tables) (h : ∀ z, InAlarm z s → InAlarm z t) :
    Within (currentSet s) (currentSet t) where
  stageSafe hs := by
    obtain ⟨z, hz, hrow⟩ := (currentSet_stageSafe_iff s).mp hs
    exact (currentSet_stageSafe_iff t).mpr ⟨z, h z hz, by rw [htables]; exact hrow⟩
  evacuation i hi := by
    obtain ⟨z, hz, hrow⟩ := (currentSet_evacuation_iff s i).mp hi
    exact (currentSet_evacuation_iff t i).mpr ⟨z, h z hz, by rw [htables]; exact hrow⟩

/-! ### Zone 65 in ALARM -/

/-- Zone 65 is in ALARM and the stage is EVACUATE; the effect set is that of the zones, or smaller. -/
structure InFire (T : Tables) (s : State) : Prop where
  tables : s.tables = T
  zone : InAlarm 65 s
  stage : s.effects.stage = .evacuate
  within : Within s.effects.set (currentSet s)

theorem currentSet_congr {s t : State} (htables : t.tables = s.tables) (hmonitor : t.monitor = s.monitor) :
    currentSet t = currentSet s := by rw [currentSet, htables, hmonitor, currentSet]

namespace InFire

variable {T : Tables} {s t : State}

theorem congr (h : InFire T s) (htables : t.tables = s.tables) (hmonitor : t.monitor = s.monitor)
    (hset : t.effects.set = s.effects.set) (hstage : t.effects.stage = s.effects.stage) : InFire T t where
  tables := htables.trans h.tables
  zone := (congrArg Zone.state (zoneAt_congr hmonitor 65)).trans h.zone
  stage := hstage.trans h.stage
  within := by
    rw [hset, currentSet_congr htables hmonitor]
    exact h.within

theorem updZone {z : ZoneId} {f : Zone → Zone} (hf : ZoneMove s z (f (zoneAt s z))) (h : InFire T s) :
    InFire T (updZone z f s) where
  tables := h.tables
  zone := inAlarm_of_move hf h.zone
  stage := h.stage
  within := h.within.trans (within_currentSet rfl fun _ hx => inAlarm_of_move hf hx)

theorem set (h : InFire T s) : InFire T (s.withEffects { s.effects with set := currentSet s }) where
  tables := h.tables
  zone := h.zone
  stage := h.stage
  within := within_refl _

/-- A hand-over then recomputes the set, delivers it where it has grown, and looks after the staff call. -/
theorem handOverWith (rise curtain : State → State) (h : InFire T s) :
    handOverWith rise curtain false s = followInvestigation false
      (if currentSet s = s.effects.set then s.withEffects { s.effects with set := currentSet s }
        else deliver curtain s.effects.set (s.withEffects { s.effects with set := currentSet s })) := by
  have hstage : stageOf s.monitor.zones s.monitor.link = s.effects.stage :=
    ((stageOf_eq_evacuate_iff _ _).mpr ⟨65, h.zone⟩).trans h.stage.symm
  have hrecomputed : recomputeStage rise (s.withEffects { s.effects with set := currentSet s })
      = s.withEffects { s.effects with set := currentSet s } := if_pos hstage
  unfold Machine.handOverWith
  dsimp only
  rw [hrecomputed]

end InFire

/-! ### What is kept under PANEL-FIRE -/

/-- A property kept under PANEL-FIRE by what a hand-over does to the zones, the effects, the guards and the calls. The
guards are marked in a delivery of a set that has come to be stage-safe; `Old` is what the property says of the set
before. -/
structure Blaze (T : Tables) (Old : EffectSet → Prop) (P : State → Prop) : Prop where
  inFire : ∀ {s}, P s → InFire T s
  old : ∀ {s}, P s → Old s.effects.set
  record : ∀ {s} k a b c, P s → P (writeRecord k a b c s)
  zone : ∀ {s} z f, ZoneMove s z (f (zoneAt s z)) → P s → P (updZone z f s)
  set : ∀ {s}, P s → P (s.withEffects { s.effects with set := currentSet s })
  endStaff : ∀ {s}, P s → P (endCall .alertOver 1 s)
  marks : ∀ {s old}, Old old → old.stageSafe = false → P s → s.effects.set.stageSafe = true → P (markGuards s)
  ask : ∀ {s}, P s → P (askEvacuation s)

theorem followInvestigation_false (s : State) : followInvestigation false s
    = if (zonesIn s.monitor.zones .investigating).isEmpty then endCall .alertOver 1 s else s := rfl

/-- The zones' operations keep a property of states under PANEL-FIRE that a hand-over keeps: no zone begins to investigate
there. -/
theorem monitorClosed_of_inFire {T : Tables} {P : State → Prop} {ho : HandOver} (hinFire : ∀ {s}, P s → InFire T s)
    (hrecord : ∀ {s} k a b c, P s → P (writeRecord k a b c s))
    (hzone : ∀ {s} z f, ZoneMove s z (f (zoneAt s z)) → P s → P (updZone z f s))
    (hho : ∀ {s}, P s → P (ho false s)) : MonitorClosed ho P P where
  record := hrecord
  unsettled h := h
  unsettledRecord := hrecord
  still z f hf _ _ h := hzone z f hf h
  move := hzone
  handed b _ hb h := by
    cases b with
    | false => exact hho h
    | true => exact absurd (hinFire h).stage (hb rfl)

namespace Blaze

variable {T : Tables} {Old : EffectSet → Prop} {P : State → Prop} (hP : Blaze T Old P) {s : State}
include hP

theorem follow (h : P s) : P (followInvestigation false s) := ite_keeps (hP.endStaff h) h

theorem deliver {curtain : State → State} (hcurtain : ∀ {s}, P s → P (curtain s)) {old : EffectSet} (hold : Old old)
    (h : P s) : P (deliver curtain old s) := by
  have hgoverned : P (if s.effects.set.curtain then curtain s else s) := ite_keeps (hcurtain h) h
  unfold Machine.deliver
  dsimp only
  generalize (if s.effects.set.curtain then curtain s else s) = t at hgoverned
  refine hP.ask ?_
  split
  next hsafe =>
    rw [Bool.and_eq_true, Bool.not_eq_true'] at hsafe
    exact hP.marks hold hsafe.2 hgoverned hsafe.1
  next => exact hgoverned

theorem handOverWith (rise : State → State) {curtain : State → State} (hcurtain : ∀ {s}, P s → P (curtain s)) (h : P s) :
    P (handOverWith rise curtain false s) := by
  rw [(hP.inFire h).handOverWith rise curtain]
  exact hP.follow (ite_keeps (hP.set h) (hP.deliver hcurtain (hP.old h) (hP.set h)))

theorem reportInDelivery (r : CurtainReport) (h : P s) : P (report64 handOverInDelivery r s) :=
  (monitorClosed_of_inFire hP.inFire hP.record hP.zone fun h => hP.handOverWith id (fun h => h) h).report64 r h

/-- The delivery to the governor, for a property that keeps the governor's moves. -/
theorem deliverCurtain (hgovernor : GovernorClosed T P)
    (hjoins : ∀ {s}, P s → P (updCurtain (fun c => { c with demands := c.demands.insert .alarm }) s)) (h : P s) :
    P (deliverCurtain s) := hgovernor.addAlarm (fun r _ h => hP.reportInDelivery r h) hjoins h

/-- The closings of R131 step 3. -/
theorem closeWindows (hcurtain : ∀ {s}, P s → P (Machine.deliverCurtain s)) (cause : CloseCause) (h : P s) :
    P (closeWindows handOverInRise cause s) :=
  (monitorClosed_of_inFire hP.inFire hP.record hP.zone fun h => hP.handOverWith id hcurtain h).closeWindows cause h

end Blaze

/-! ### The assertion of PANEL-FIRE -/

/-- Zone 65 enters ALARM, before the hand-over. -/
def firePlaced (s : State) : State :=
  writeRecord .zoneState (zoneByte 65) (zoneAt s 65).state.code ZoneState.alarm.code (updZone 65 (fun r =>
    { (if (zoneAt s 65).state = .investigating then leaveInvestigation r else r) with state := .alarm }) s)

/-- The effect set and the stage of the hand-over, before its consequences. -/
def ablaze (s : State) : State :=
  let u := (firePlaced s).withEffects { (firePlaced s).effects with set := currentSet (firePlaced s) }
  if s.effects.stage = .evacuate then u else setStage .evacuate u

/-- Where the stage was below EVACUATE, the consequences of R131. -/
def fireRisen (s : State) : State := if s.effects.stage = .evacuate then ablaze s else riseToEvacuate (ablaze s)

section
variable (s : State)

theorem enterState_fire (h : (zoneAt s 65).state ≠ .alarm) : enterState handOver 65 .alarm s = handOver false (firePlaced s) :=
  if_neg h

theorem firePlaced_effects : (firePlaced s).effects = s.effects := writeRecord_effects _ _ _ _ _

theorem firePlaced_tables : (firePlaced s).tables = s.tables := writeRecord_tables _ _ _ _ _

theorem firePlaced_inAlarm : InAlarm 65 (firePlaced s) :=
  (zoneLaw_inAlarm 65).record _ _ _ _ (congrArg Zone.state (zoneAt_updZone_same 65 _ s))

theorem firePlaced_keeps {z : ZoneId} (h : InAlarm z s) : InAlarm z (firePlaced s) :=
  (zoneLaw_inAlarm z).record _ _ _ _ (inAlarm_updZone (fun _ => rfl) h)

theorem firePlaced_touches : OnlyTouches [.monitor, .links, .log] s (firePlaced s) :=
  onlyTouches_trans (onlyTouches_mono (by simp) (onlyTouches_withMonitor s _))
    (onlyTouches_mono (by simp) (writeRecord_onlyTouches _ _ _ _ _))

theorem setStage_touches (st : Stage) : OnlyTouches [.effects, .links, .log] s (setStage st s) :=
  onlyTouches_trans (onlyTouches_mono (by simp) (onlyTouches_trans (onlyTouches_withEffects s _) (onlyTouches_withEffects _ _)))
    (onlyTouches_mono (by simp) (writeRecord_onlyTouches _ _ _ _ _))

theorem ablaze_touches : OnlyTouches [.monitor, .effects, .links, .log] s (ablaze s) := by
  have hset : OnlyTouches [.monitor, .effects, .links, .log] s
      ((firePlaced s).withEffects { (firePlaced s).effects with set := currentSet (firePlaced s) }) :=
    onlyTouches_trans (onlyTouches_mono (by simp) (firePlaced_touches s))
      (onlyTouches_mono (by simp) (onlyTouches_withEffects _ _))
  exact ite_keeps hset (onlyTouches_trans hset (onlyTouches_mono (by simp) (setStage_touches _ _)))

theorem ablaze_monitor : (ablaze s).monitor = (firePlaced s).monitor := by
  have hstaged := setStage_touches ((firePlaced s).withEffects
    { (firePlaced s).effects with set := currentSet (firePlaced s) }) .evacuate
  exact ite_keeps (P := fun t => t.monitor = (firePlaced s).monitor) rfl (hstaged .monitor (by decide))

theorem ablaze_set : (ablaze s).effects.set = currentSet (firePlaced s) := by
  refine ite_keeps (P := fun t => t.effects.set = currentSet (firePlaced s)) rfl ?_
  rw [setStage, writeRecord_effects]
  rfl

theorem ablaze_stage : (ablaze s).effects.stage = .evacuate := by
  unfold ablaze
  dsimp only
  split
  next h => exact (congrArg EffectState.stage (firePlaced_effects s)).trans h
  next =>
    rw [setStage, writeRecord_effects]
    rfl

theorem inFire_ablaze : InFire s.tables (ablaze s) where
  tables := ablaze_touches s .tables (by decide)
  zone := (congrArg Zone.state (zoneAt_congr (ablaze_monitor s) 65)).trans (firePlaced_inAlarm s)
  stage := ablaze_stage s
  within := by
    rw [ablaze_set, currentSet_congr ((ablaze_touches s .tables (by decide)).trans (firePlaced_tables s).symm)
      (ablaze_monitor s)]
    exact within_refl _

/-- The hand-over of zone 65's entry to ALARM. -/
theorem handOver_firePlaced : handOver false (firePlaced s) = followInvestigation false
    (if currentSet (firePlaced s) = s.effects.set then fireRisen s
      else deliver deliverCurtain s.effects.set (fireRisen s)) := by
  have hstage : stageOf (firePlaced s).monitor.zones (firePlaced s).monitor.link = .evacuate :=
    (stageOf_eq_evacuate_iff _ _).mpr ⟨65, firePlaced_inAlarm s⟩
  have hrisen : recomputeStage riseToEvacuate
      ((firePlaced s).withEffects { (firePlaced s).effects with set := currentSet (firePlaced s) }) = fireRisen s := by
    unfold recomputeStage fireRisen ablaze
    dsimp only [withEffects_monitor]
    rw [hstage, withEffects_effects, firePlaced_effects]
    by_cases h : s.effects.stage = .evacuate
    · rw [if_pos h.symm, if_pos h, if_pos h]
    · rw [if_neg (Ne.symm h), if_pos rfl, if_neg h, if_neg h]
  unfold handOver Machine.handOverWith
  dsimp only
  rw [hrisen, firePlaced_effects]

/-- The effect set has not shrunk (R128). -/
theorem within_firePlaced (hlaw : AlarmLaw s) : Within s.effects.set (currentSet (firePlaced s)) := by
  have hset : s.effects.set = currentSet s := hlaw.1
  rw [hset]
  exact within_currentSet (firePlaced_tables s) fun _ h => firePlaced_keeps s h

end

end Sys2Proof.Machine
end


section
/-! PANEL-FIRE asserted (R123, R128 to R132): zone 65 in ALARM, the stage EVACUATE, every window closed, and a curtain at
OUT that the row of zone 65 calls for released. -/

namespace Sys2Proof.Machine

/-! ### What reads nothing that the fire changes -/

theorem InFire.record {T : Tables} {s : State} (k : EventKind) (a b c : Byte) (h : InFire T s) :
    InFire T (writeRecord k a b c s) := h.congr (by simp) (by simp) (by simp) (by simp)

theorem inFire_calls (T : Tables) : CallsClosed (InFire T) where
  record k a b c h := h.record k a b c
  offer _ _ h := h.congr (by simp) (by simp) (by simp) (by simp)
  calls _ h := h.congr rfl rfl rfl rfl

theorem inFire_governor (T : Tables) : GovernorClosed T (InFire T) :=
  { (inFire_calls T).toRecordClosed with
    tables := fun h => h.tables
    curtain := fun _ _ h => h.congr rfl rfl rfl rfl
    testValid := fun _ h => h.congr rfl rfl rfl rfl
    notice := fun h => h.congr rfl rfl rfl rfl }

/-- A property that neither the zones nor the effects nor the guards' marks nor the calls can change stays under
PANEL-FIRE. -/
theorem blaze_of_effectsClosed {Q : State → Prop} (T : Tables) (hQ : EffectsClosed Q)
    (hmonitor : ∀ {s} x, Q s → Q (s.withMonitor x)) : Blaze T (fun _ => True) fun s => InFire T s ∧ Q s where
  inFire h := h.1
  old _ := trivial
  record k a b c h := ⟨h.1.record k a b c, hQ.record k a b c h.2⟩
  zone _ _ hf h := ⟨h.1.updZone hf, hmonitor _ h.2⟩
  set h := ⟨h.1.set, hQ.effects _ h.2⟩
  endStaff h := ⟨endCall_keeps (inFire_calls T) _ _ h.1, hQ.endCall _ _ h.2⟩
  marks _ _ h _ := ⟨h.1.congr rfl rfl rfl rfl, hQ.stream _ h.2⟩
  ask h := ⟨askEvacuation_keeps (inFire_calls T) h.1, hQ.askEvacuation h.2⟩

/-! ### A curtain at OUT -/

/-- The curtain is falling with its line de-energised and ALARM among its demands. -/
def CurtainFalls (s : State) : Prop :=
  s.curtain.demands.alarm = true ∧ s.curtain.holdDrive = false
    ∧ (s.curtain.state = .descending ∨ s.curtain.state = .slowing)

/-- The curtain is at OUT without a demand, or ALARM has released it. -/
def OutOrFalls (s : State) : Prop := (s.curtain.state = .out ∧ s.curtain.demands.any = false) ∨ CurtainFalls s

theorem deliverCurtain_of_demanded {s : State} (h : s.curtain.demands.alarm = true) : deliverCurtain s = s := if_pos h

theorem closeTest_demands (pass : Bool) (total : Option Nat) (s : State) :
    (closeTest pass total s).curtain.state = s.curtain.state
      ∧ (closeTest pass total s).curtain.demands = s.curtain.demands := by
  by_cases h : s.curtain.test.status = .running
  · rw [(closeTest_of_running s pass total h).1]
    exact ⟨rfl, rfl⟩
  · rw [closeTest_of_notRunning s pass total h]
    exact ⟨rfl, rfl⟩

/-- ALARM joining an empty set releases a curtain at OUT (R78, R80). -/
theorem addDemand_alarm_falls {s : State} (hout : s.curtain.state = .out) (hnone : s.curtain.demands.any = false) :
    CurtainFalls (addDemand (report64 handOverInDelivery) .alarm s) := by
  have hshadow := (shadows_refl (s := s) trivial).addDemand reports_inDelivery .alarm
  have hreleased : addDemand tally .alarm s
      = releaseFromOut tally (updCurtain (fun c => { c with demands := c.demands.insert .alarm }) s) := by
    unfold addDemand demandTaken
    dsimp only
    rw [hnone, if_neg Bool.false_ne_true]
    simp only [updCurtain, withCurtain_curtain, hout]
  rw [CurtainFalls, ← hshadow.curtain, hreleased, releaseFromOut_curtain]
  refine ⟨rfl, rfl, ?_⟩
  dsimp only
  split
  · exact .inr rfl
  · exact .inl rfl

theorem deliverCurtain_falls {s : State} (hout : s.curtain.state = .out) (hnone : s.curtain.demands.any = false) :
    CurtainFalls (deliverCurtain s) := by
  have hjoins : s.curtain.demands.alarm ≠ true := fun h => by simp [Demands.any, h] at hnone
  obtain ⟨hstate, hdemands⟩ := closeTest_demands false none s
  have hfalls : CurtainFalls (addDemand (report64 handOverInDelivery) .alarm (closeTest false none s)) :=
    addDemand_alarm_falls (hstate.trans hout) (by rw [hdemands, hnone])
  unfold deliverCurtain addAlarm
  rw [if_neg hjoins]
  dsimp only
  refine ite_keeps ?_ hfalls
  rw [CurtainFalls, (report64_inDelivery _ _).2.1]
  exact hfalls

theorem outOrFalls_deliverCurtain {s : State} (h : OutOrFalls s) : OutOrFalls (deliverCurtain s) := by
  rcases h with ⟨hout, hnone⟩ | hfalls
  · exact .inr (deliverCurtain_falls hout hnone)
  · rw [deliverCurtain_of_demanded hfalls.1]
    exact .inr hfalls

theorem outOrFalls_calls : CallsClosed OutOrFalls where
  record _ _ _ _ h := by simpa [OutOrFalls, CurtainFalls] using h
  offer _ _ h := by simpa [OutOrFalls, CurtainFalls] using h
  calls _ h := h

theorem outOrFalls_effects : EffectsClosed OutOrFalls :=
  effectsClosed_of_calls outOrFalls_calls (fun _ h => h) (fun _ h => h)

/-! ### The hand-over of zone 65 -/

section
variable {T : Tables}

/-- A property of acts under PANEL-FIRE that each delivery and the suppression keep is one of the whole act. -/
theorem Blaze.fire {Old : EffectSet → Prop} {P : State → Prop} (hP : Blaze T Old P)
    (hcurtain : ∀ {s}, P s → P (Machine.deliverCurtain s)) (hsuppress : ∀ {s}, P s → P (suppressOrdinary s)) {s : State}
    (hold : Old s.effects.set) (h : P (ablaze s)) : P (handOver false (firePlaced s)) := by
  rw [handOver_firePlaced]
  have hrisen : P (fireRisen s) := ite_keeps h (hP.closeWindows hcurtain _ (hsuppress (hP.endStaff h)))
  exact hP.follow (ite_keeps hrisen (hP.deliver hcurtain hold hrisen))

theorem inFire_blaze (T : Tables) : Blaze T (fun _ => True) (InFire T) where
  inFire := id
  old _ := trivial
  record k a b c h := h.record k a b c
  zone _ _ hf h := h.updZone hf
  set h := h.set
  endStaff h := endCall_keeps (inFire_calls T) _ _ h
  marks _ _ h _ := h.congr rfl rfl rfl rfl
  ask h := askEvacuation_keeps (inFire_calls T) h

theorem inFire_deliverCurtain {s : State} (h : InFire T s) : InFire T (deliverCurtain s) :=
  (inFire_blaze T).deliverCurtain (inFire_governor T) (fun h => h.congr rfl rfl rfl rfl) h

/-- A curtain at OUT stays there or is released by ALARM. -/
theorem outOrFalls_fire {s : State} (hout : s.curtain.state = .out) (hnone : s.curtain.demands.any = false) :
    OutOrFalls (handOver false (firePlaced s)) := by
  have hP := blaze_of_effectsClosed s.tables outOrFalls_effects fun _ h => h
  have hablaze : (ablaze s).curtain = s.curtain := ablaze_touches s .curtain (by decide)
  refine (hP.fire (fun h => ⟨inFire_deliverCurtain h.1, outOrFalls_deliverCurtain h.2⟩)
    (fun h => ⟨suppressOrdinary_keeps (inFire_calls _) h.1, suppressOrdinary_keeps outOrFalls_calls h.2⟩) trivial
    ⟨inFire_ablaze s, .inl ?_⟩).2
  rw [hablaze]
  exact ⟨hout, hnone⟩

end

/-- A hand-over that first calls for the curtain has ALARM join the drop-demand set (R78, R132). -/
theorem handOver_demands (b : Bool) {s : State} (hcalled : CurtainCalled s) (hold : s.effects.set.curtain = false) :
    (handOver b s).curtain.demands.alarm = true := by
  have hchanged : currentSet s ≠ s.effects.set := fun he => by
    have hnew := (currentSet_curtain_iff s).mpr hcalled
    rw [he, hold] at hnew
    cases hnew
  obtain ⟨htables, hlaw, hcalled'⟩ := (zoneLaw_called.lawful s.tables).recomputeStage
    (riseKeepsDemand_riseToEvacuate s.tables).called (s := s.withEffects { s.effects with set := currentSet s })
    rfl ⟨rfl, hcalled⟩
  unfold handOver handOverWith
  dsimp only
  rw [if_neg hchanged]
  exact ((demanded_rules s.tables).followInvestigation b (deliver_called _ hlaw ⟨htables, hcalled'⟩)).2.2

/-- The state with PANEL-FIRE taken as asserted. -/
def withPanelFire (s : State) : State := s.withLines { s.lines with panelFire := true }

/-- The act of an assertion of PANEL-FIRE, before its end. -/
def fired (s : State) : State := handOver false (firePlaced (withPanelFire s))

theorem exec_panelFire {s : State} (hline : s.lines.panelFire = false) :
    exec .panelFireAsserted s = .next (endAct (enterState handOver 65 .alarm (withPanelFire s))) :=
  if_neg (by simp [hline])

theorem exec_fired {s : State} (hline : s.lines.panelFire = false) (hzone : (zoneAt s 65).state ≠ .alarm) :
    exec .panelFireAsserted s = .next (endAct (fired s)) := by
  rw [exec_panelFire hline, enterState_fire (withPanelFire s) hzone, fired]

section
variable (s : State)

theorem fired_touches : OnlyTouches alarmReach (withPanelFire s) (fired s) :=
  onlyTouches_trans (onlyTouches_mono (by simp [alarmReach]) (firePlaced_touches (withPanelFire s)))
    (handOver_onlyTouches false _)

theorem fired_inAlarm : InAlarm 65 (fired s) := (zoneLaw_inAlarm 65).handOver _ (firePlaced_inAlarm (withPanelFire s))

theorem fired_alarmLaw : AlarmLaw (fired s) := handOver_alarmLaw _ _

theorem fired_stage : (fired s).effects.stage = .evacuate := stage_of_inAlarm (fired_alarmLaw s) (fired_inAlarm s)

theorem fired_noWindows (h : s.effects.stage ≠ .evacuate) (z : ZoneId) : (zoneAt (fired s) z).window = none := by
  refine handOver_noWindows_of_rise false ((stageOf_eq_evacuate_iff _ _).mpr ⟨65, firePlaced_inAlarm _⟩) ?_ z
  rw [firePlaced_effects]
  exact h

theorem fired_demands (hrow : (rowOf s 65).curtainDrop = 1) (h : s.effects.set.curtain = false) :
    (fired s).curtain.demands.alarm = true := by
  refine handOver_demands false ⟨65, firePlaced_inAlarm _, ?_⟩ ?_
  · rw [firePlaced_tables]
    exact hrow
  · rw [firePlaced_effects]
    exact h

theorem fired_falls (hdemands : (fired s).curtain.demands.alarm = true) (hout : s.curtain.state = .out)
    (hnone : s.curtain.demands.any = false) : CurtainFalls (fired s) := by
  rcases outOrFalls_fire (s := withPanelFire s) hout hnone with ⟨-, hnone'⟩ | hfalls
  · rw [← fired] at hnone'
    simp [Demands.any, hdemands] at hnone'
  · exact hfalls

end

/-- An assertion of PANEL-FIRE, by the hand-over of zone 65's entry to ALARM. -/
theorem panelFireAlarms : Parts.PanelFireAlarms := by
  intro s _
  refine ⟨fun hline => if_pos hline, fun hline hzone => ?_, fun hline hzone => ⟨_, exec_fired hline hzone, ?_⟩⟩
  · rw [exec_panelFire hline, show enterState handOver 65 .alarm (withPanelFire s) = withPanelFire s from if_pos hzone]
    rfl
  · obtain ⟨htouches, hlines⟩ := onlyTouches_lines (fired_touches s)
    have hzones (z : ZoneId) : zoneAt (endAct (fired s)) z = zoneAt (fired s) z := zoneAt_congr (endAct_monitor _) z
    refine ⟨htouches, hlines, ?_, ?_, ?_, fun hstage z => ?_, fun hrow hset => ?_, fun hrow hset hout hnone => ?_⟩
    · rw [hzones]
      exact fired_inAlarm s
    · rw [endAct_effects]
      exact fired_stage s
    · exact alarmLaw_congr (endAct_tables _) (endAct_monitor _) (by rw [endAct_effects]) (by rw [endAct_effects])
        (fired_alarmLaw s)
    · rw [hzones]
      exact fired_noWindows s hstage z
    · rw [endAct_curtain]
      exact fired_demands s hrow hset
    · rw [endAct_curtain]
      exact (fired_falls s (fired_demands s hrow hset) hout hnone).2

end Sys2Proof.Machine
end


section
/-! The guards under PANEL-FIRE (R46, R132): they are marked in the act that sets the stage-safe flag, and in no other. -/

namespace Sys2Proof.Machine

/-! ### Marking again -/

/-- The guards that a state's stage-safe flag changes are marked in a stream. -/
def GuardsMarkedIn (s : State) (x : StreamState) : Prop := GuardsMarked s (s.withStream x)

theorem guardsMarked_iff (s t : State) : GuardsMarked s t ↔ GuardsMarkedIn s t.stream := Iff.rfl

theorem guardsMarkedIn_markGuards {s t : State} (hstream : t.stream = s.stream) (htables : t.tables = s.tables) :
    GuardsMarkedIn s (markGuards t).stream := by
  rw [markGuards_stream_congr hstream htables]
  exact markGuards_marked s

/-- Marks set once are not set twice. -/
theorem guardsMarkedIn_again {s t : State} (htables : t.tables = s.tables) (h : GuardsMarkedIn s t.stream) :
    GuardsMarkedIn s (markGuards t).stream := by
  obtain ⟨hrest, hslots⟩ := h
  obtain ⟨hrest', hslots'⟩ := markGuards_marked t
  refine ⟨?_, fun i => ?_⟩
  · rw [withStream_stream] at hrest ⊢
    rw [hrest', hrest]
  · obtain ⟨hslot, hdirty⟩ := hslots i
    obtain ⟨hslot', hdirty'⟩ := hslots' i
    rw [withStream_stream] at hslot hdirty ⊢
    have hshadow : t.stream.slots[i].shadow = s.stream.slots[i].shadow := by rw [hslot]
    rw [htables, hshadow, hdirty] at hdirty'
    refine ⟨?_, by rw [hdirty', or_assoc, or_self]⟩
    rw [hslot', hslot]

/-! ### The flag and the stream -/

/-- Under PANEL-FIRE, something holds of the stage-safe flag and of the stream. -/
def FlagAndStream (T : Tables) (R : Bool → StreamState → Prop) (s : State) : Prop :=
  InFire T s ∧ R s.effects.set.stageSafe s.stream

/-- Something said of the flag and of the stream that outlives a flag being set, and the marks that follow; `O` is what it
says of the flag before. -/
structure Paints (T : Tables) (O : Bool → Prop) (R : Bool → StreamState → Prop) : Prop where
  flag : ∀ {b x}, R b x → O b
  grow : ∀ {x}, R false x → R true x
  marks : ∀ {s : State}, O false → s.tables = T → R true s.stream → R true (markGuards s).stream

section
variable {T : Tables} {R : Bool → StreamState → Prop}

theorem FlagAndStream.congr {s t : State} (h : FlagAndStream T R s) (htables : t.tables = s.tables)
    (hmonitor : t.monitor = s.monitor) (hset : t.effects.set = s.effects.set)
    (hstage : t.effects.stage = s.effects.stage) (hstream : t.stream = s.stream) : FlagAndStream T R t :=
  ⟨h.1.congr htables hmonitor hset hstage, by rw [hset, hstream]; exact h.2⟩

theorem flagAndStream_calls : CallsClosed (FlagAndStream T R) where
  record _ _ _ _ h := h.congr (by simp) (by simp) (by simp) (by simp) (by simp)
  offer _ _ h := h.congr (by simp) (by simp) (by simp) (by simp) (by simp)
  calls _ h := h.congr rfl rfl rfl rfl rfl

theorem flagAndStream_follow {s : State} (h : FlagAndStream T R s) : FlagAndStream T R (followInvestigation false s) := by
  rw [followInvestigation_false]
  exact ite_keeps (endCall_keeps flagAndStream_calls _ _ h) h

theorem flagAndStream_governor : GovernorClosed T (FlagAndStream T R) :=
  { flagAndStream_calls.toRecordClosed with
    tables := fun h => h.1.tables
    curtain := fun _ _ h => h.congr rfl rfl rfl rfl rfl
    testValid := fun _ h => h.congr rfl rfl rfl rfl rfl
    notice := fun h => h.congr rfl rfl rfl rfl rfl }

theorem FlagAndStream.updZone {s : State} {z : ZoneId} {f : Zone → Zone} (hf : ZoneMove s z (f (zoneAt s z)))
    (h : FlagAndStream T R s) : FlagAndStream T R (updZone z f s) := ⟨h.1.updZone hf, h.2⟩

variable {O : Bool → Prop} (hR : Paints T O R)
include hR

theorem Paints.set {s : State} (h : FlagAndStream T R s) :
    FlagAndStream T R (s.withEffects { s.effects with set := currentSet s }) := by
  refine ⟨h.1.set, ?_⟩
  obtain ⟨hfire, hstream⟩ := h
  rw [withEffects_effects, withEffects_stream]
  dsimp only
  cases hnew : (currentSet s).stageSafe with
  | false =>
    have hold : s.effects.set.stageSafe = false :=
      Bool.eq_false_iff.mpr fun hold => by simp [hfire.within.stageSafe hold] at hnew
    rwa [hold] at hstream
  | true =>
    cases hold : s.effects.set.stageSafe with
    | false => exact hR.grow (by rwa [hold] at hstream)
    | true => rwa [hold] at hstream

theorem Paints.blaze : Blaze T (fun e => O e.stageSafe) (FlagAndStream T R) where
  inFire h := h.1
  old h := hR.flag h.2
  record k a b c h := flagAndStream_calls.record k a b c h
  zone _ _ hf h := h.updZone hf
  set h := hR.set h
  endStaff h := endCall_keeps flagAndStream_calls _ _ h
  marks {s old} hO hold h hsafe := by
    refine ⟨h.1.congr rfl rfl rfl rfl, ?_⟩
    have hflag : (markGuards s).effects.set.stageSafe = true := hsafe
    rw [hflag]
    exact hR.marks (by rwa [hold] at hO) h.1.tables (by rw [← hsafe]; exact h.2)
  ask h := askEvacuation_keeps flagAndStream_calls h

theorem Paints.deliverCurtain {s : State} (h : FlagAndStream T R s) : FlagAndStream T R (deliverCurtain s) :=
  hR.blaze.deliverCurtain flagAndStream_governor (fun h => h.congr rfl rfl rfl rfl rfl) h

end

/-! ### What is said of the stream -/

/-- The flag is set, and the stream is a given one. -/
def SafeAndSame (x₀ : StreamState) (b : Bool) (x : StreamState) : Prop := b = true ∧ x = x₀

/-- The flag is set, and the guards are marked. -/
def SafeAndMarked (s₀ : State) (b : Bool) (x : StreamState) : Prop := b = true ∧ GuardsMarkedIn s₀ x

/-- Before a delivery: the stream is as it was, or the flag is set and the guards are marked. -/
def MarkedOrSame (s₀ : State) (b : Bool) (x : StreamState) : Prop := x = s₀.stream ∨ SafeAndMarked s₀ b x

/-- After a delivery: the guards are marked exactly where the flag is set. -/
def MarkedWhereSafe (s₀ : State) (b : Bool) (x : StreamState) : Prop :=
  (b = false → x = s₀.stream) ∧ (b = true → GuardsMarkedIn s₀ x)

theorem paints_same (T : Tables) (x₀ : StreamState) : Paints T (fun b => b = true) (SafeAndSame x₀) where
  flag h := h.1
  grow h := nomatch h.1
  marks h := nomatch h

section
variable (s₀ : State)

theorem paints_marked : Paints s₀.tables (fun _ => True) (SafeAndMarked s₀) where
  flag _ := trivial
  grow h := nomatch h.1
  marks _ htables h := ⟨rfl, guardsMarkedIn_again htables h.2⟩

theorem paints_markedOrSame : Paints s₀.tables (fun _ => True) (MarkedOrSame s₀) where
  flag _ := trivial
  grow h := h.imp_right fun hmarked => nomatch hmarked.1
  marks _ htables h := h.elim (fun hsame => .inr ⟨rfl, guardsMarkedIn_markGuards hsame htables⟩)
    fun hmarked => .inr ⟨rfl, guardsMarkedIn_again htables hmarked.2⟩

theorem markedWhereSafe_of_same {b : Bool} {x : StreamState} (hb : b = false) (h : MarkedOrSame s₀ b x) :
    MarkedWhereSafe s₀ b x := by
  subst hb
  exact ⟨fun _ => h.elim id fun hmarked => (nomatch hmarked.1), nofun⟩

end

/-! ### Deliveries -/

section
variable {s₀ s : State}

/-- A delivery of a set that was not stage-safe leaves the guards marked where it now is. -/
theorem deliver_marks {old : EffectSet} (hold : old.stageSafe = false)
    (h : FlagAndStream s₀.tables (MarkedOrSame s₀) s) :
    FlagAndStream s₀.tables (MarkedWhereSafe s₀) (deliver deliverCurtain old s) := by
  have hgoverned : FlagAndStream s₀.tables (MarkedOrSame s₀) (if s.effects.set.curtain then deliverCurtain s else s) :=
    ite_keeps ((paints_markedOrSame s₀).deliverCurtain h) h
  unfold deliver
  dsimp only
  generalize (if s.effects.set.curtain then deliverCurtain s else s) = t at hgoverned
  obtain ⟨hfire, hstream⟩ := hgoverned
  refine askEvacuation_keeps flagAndStream_calls ?_
  rw [hold, Bool.not_false, Bool.and_true]
  split
  next hsafe =>
    refine ⟨hfire.congr rfl rfl rfl rfl, fun hnot => ?_, fun _ => ?_⟩
    · exact absurd (hnot.symm.trans hsafe) Bool.false_ne_true
    · exact hstream.elim (fun hsame => guardsMarkedIn_markGuards hsame hfire.tables)
        fun hmarked => guardsMarkedIn_again hfire.tables hmarked.2
  next hnot => exact ⟨hfire, markedWhereSafe_of_same s₀ (Bool.eq_false_iff.mpr hnot) hstream⟩

/-- A hand-over inside the act leaves the guards marked where the flag is set. -/
theorem handOverInRise_marks (h : FlagAndStream s₀.tables (MarkedWhereSafe s₀) s) :
    FlagAndStream s₀.tables (MarkedWhereSafe s₀) (handOverInRise false s) := by
  obtain ⟨hfire, hsame, hmarked⟩ := h
  cases hsafe : s.effects.set.stageSafe with
  | true =>
    have hkept := (paints_marked s₀).blaze.handOverWith id (fun h => (paints_marked s₀).deliverCurtain h)
      (s := s) ⟨hfire, hsafe, hmarked hsafe⟩
    obtain ⟨hfire', hsafe', hmarked'⟩ := hkept
    exact ⟨hfire', fun hnot => absurd (hnot.symm.trans hsafe') Bool.false_ne_true, fun _ => hmarked'⟩
  | false =>
    have hstream : s.stream = s₀.stream := hsame hsafe
    unfold handOverInRise
    rw [hfire.handOverWith]
    refine flagAndStream_follow ?_
    split
    next hset => exact ⟨hfire.set, fun _ => hstream, fun hnew => by
      rw [withEffects_effects, hset, hsafe] at hnew
      cases hnew⟩
    next => exact deliver_marks hsafe ⟨hfire.set, .inl hstream⟩

theorem closeWindows_marks (cause : CloseCause) (h : FlagAndStream s₀.tables (MarkedWhereSafe s₀) s) :
    FlagAndStream s₀.tables (MarkedWhereSafe s₀) (closeWindows handOverInRise cause s) :=
  (monitorClosed_of_inFire (fun h => h.1) (fun k a b c h => flagAndStream_calls.record k a b c h)
    (fun _ _ hf h => h.updZone hf) fun h => handOverInRise_marks h).closeWindows cause h

end

/-! ### The whole act -/

section
variable (s : State)

theorem ablaze_flagAndStream {R : Bool → StreamState → Prop} (h : R (currentSet (firePlaced s)).stageSafe s.stream) :
    FlagAndStream s.tables R (ablaze s) := by
  refine ⟨inFire_ablaze s, ?_⟩
  rw [ablaze_set, ablaze_touches s .stream (by decide)]
  exact h

/-- Where the stage-safe flag was set already, no guard is marked. -/
theorem handOver_fire_same (hlaw : AlarmLaw s) (hsafe : s.effects.set.stageSafe = true) :
    FlagAndStream s.tables (SafeAndSame s.stream) (handOver false (firePlaced s)) :=
  have hP := paints_same s.tables s.stream
  hP.blaze.fire (fun h => hP.deliverCurtain h) (fun h => suppressOrdinary_keeps flagAndStream_calls h) hsafe
    (ablaze_flagAndStream s ⟨(within_firePlaced s hlaw).stageSafe hsafe, rfl⟩)

/-- Where it was not, the guards are marked exactly where it now is. -/
theorem handOver_fire_marks (hsafe : s.effects.set.stageSafe = false) :
    FlagAndStream s.tables (MarkedWhereSafe s) (handOver false (firePlaced s)) := by
  have hP := paints_markedOrSame s
  have hablaze : FlagAndStream s.tables (MarkedOrSame s) (ablaze s) := ablaze_flagAndStream s (.inl rfl)
  have hcalm {u : State} (h : FlagAndStream s.tables (MarkedOrSame s) u) :
      FlagAndStream s.tables (MarkedOrSame s) (suppressOrdinary (endCall .alertOver 1 u)) :=
    suppressOrdinary_keeps flagAndStream_calls (endCall_keeps flagAndStream_calls _ _ h)
  have hrisen : FlagAndStream s.tables (MarkedOrSame s) (fireRisen s) :=
    ite_keeps hablaze (hP.blaze.closeWindows (fun h => hP.deliverCurtain h) _ (hcalm hablaze))
  rw [handOver_firePlaced]
  refine flagAndStream_follow ?_
  split
  next hset =>
    have hablaze' : FlagAndStream s.tables (MarkedWhereSafe s) (ablaze s) :=
      ablaze_flagAndStream s (markedWhereSafe_of_same s (by rw [hset, hsafe]) (.inl rfl))
    exact ite_keeps hablaze' (closeWindows_marks _ (suppressOrdinary_keeps flagAndStream_calls
      (endCall_keeps flagAndStream_calls _ _ hablaze')))
  next => exact deliver_marks hsafe hrisen

theorem stageSafe_of_row {z : ZoneId} (hlaw : AlarmLaw s) (hzone : InAlarm z s) (hrow : (rowOf s z).stageSafe = 1) :
    s.effects.set.stageSafe = true := by
  rw [hlaw.1]
  exact (currentSet_stageSafe_iff s).mpr ⟨z, hzone, hrow⟩

end

theorem guardsMarkedIn_withPanelFire {s : State} {x : StreamState} (h : GuardsMarkedIn (withPanelFire s) x) :
    GuardsMarkedIn s x := h

section
variable {s : State}

theorem fired_same (hlaw : AlarmLaw s) (hsafe : s.effects.set.stageSafe = true) :
    (fired s).effects.set.stageSafe = true ∧ (fired s).stream = s.stream :=
  (handOver_fire_same (withPanelFire s) hlaw hsafe).2

theorem fired_marks (hsafe : s.effects.set.stageSafe = false) :
    ((fired s).effects.set.stageSafe = false → (fired s).stream = s.stream)
      ∧ ((fired s).effects.set.stageSafe = true → GuardsMarkedIn s (fired s).stream) := by
  obtain ⟨-, hsame, hmarked⟩ := handOver_fire_marks (withPanelFire s) hsafe
  rw [← fired] at hsame hmarked
  exact ⟨hsame, fun hnew => guardsMarkedIn_withPanelFire (hmarked hnew)⟩

theorem fired_stageSafe (hrow : (rowOf s 65).stageSafe = 1) : (fired s).effects.set.stageSafe = true := by
  refine stageSafe_of_row _ (fired_alarmLaw s) (fired_inAlarm s) ?_
  rw [rowOf, fired_touches s .tables (by decide)]
  exact hrow

end

/-- The guards of an assertion of PANEL-FIRE, by what each delivery of the act does to them. -/
theorem guardsFollowAlarm : Parts.GuardsFollowAlarm := by
  intro s hlaw hline hzone
  have hrow := fired_stageSafe (s := s)
  have hsame := fired_same (s := s) hlaw
  have hmarks := fired_marks (s := s)
  have hexec := exec_fired hline hzone
  generalize fired s = u at hrow hsame hmarks hexec
  refine ⟨_, hexec, ?_⟩
  beta_reduce
  rw [endAct_effects, guardsMarked_iff, endAct_stream]
  refine ⟨hrow, ?_⟩
  cases hsafe : s.effects.set.stageSafe with
  | true =>
    obtain ⟨hflag, hstream⟩ := hsame hsafe
    exact ⟨fun _ => hstream, fun hchanged => absurd hflag hchanged⟩
  | false =>
    obtain ⟨hstays, hmarked⟩ := hmarks hsafe
    exact ⟨hstays, fun hchanged => hmarked (Bool.eq_true_of_not_eq_false hchanged)⟩

end Sys2Proof.Machine
end


section
/-! The calls under PANEL-FIRE (R131, R133, R157, R158): what is said of the calls and of the evacuation areas, through the
deliveries and the closings of the act. -/

namespace Sys2Proof.Machine

/-! ### Sets of areas -/

/-- The areas of one set are among those of another. -/
def AreasWithin (x y : AreaSet) : Prop := ∀ a : AreaId, hasArea x a = true → hasArea y a = true

theorem areasWithin_refl (x : AreaSet) : AreasWithin x x := fun _ h => h

theorem areasWithin_zero (x : AreaSet) : AreasWithin 0 x := fun a h => nomatch (hasArea_zero a).symm.trans h

theorem AreasWithin.trans {x y z : AreaSet} (h : AreasWithin x y) (k : AreasWithin y z) : AreasWithin x z :=
  fun a ha => k a (h a ha)

theorem Within.areas {e e' : EffectSet} (h : Within e e') : AreasWithin e.evacuation e'.evacuation :=
  fun a ha => h.evacuation a.val ha

theorem joined_of_within {x y : AreaSet} (h : AreasWithin x y) :
    (areasOf y).foldl (fun set a => set ||| oneArea a) x = y :=
  areaSet_ext fun a => by
    rw [hasArea_joined, mem_areasOf]
    exact ⟨fun ha => ha.elim (h a) id, .inr⟩

theorem or_of_within {x y : AreaSet} (h : AreasWithin x y) : x ||| y = y :=
  areaSet_ext fun a => by
    rw [hasArea_or, Bool.or_eq_true]
    exact ⟨fun ha => ha.elim (h a) id, .inr⟩

/-! ### Free entries stay free -/

section
variable {s : State} {d e : EntryId}

theorem callAt_seizeArea_none {a : AreaId} (hde : d ≠ e) (h : callAt s d = none) : callAt (seizeArea e s a) d = none :=
  seizeArea_rule (Q := fun t => callAt t d = none) (fun ht hst => hst.none ht)
    (fun ht => (callAt_takeArea_other a hde).trans ht) (fun _ => h) (fun _ => h)
    fun _ _ _ _ hc => (shrinks_areaLost a hc).none h

theorem callAt_startAlarmCall_none (p : ProgramId) (o : Origin) (areas : AreaSet) (hde : d ≠ e) (h : callAt s d = none) :
    callAt (startAlarmCall e p o areas s) d = none := by
  have hplaced : callAt (placeCall e p o areas s) d = none := (callAt_placeCall_other p o areas s hde).trans h
  unfold startAlarmCall startRunning
  split
  · exact hplaced
  next c _ =>
    have hseized (l : List AreaId) : callAt (l.foldl (seizeArea e) (placeCall e p o areas s)) d = none :=
      foldl_keeps (P := fun t => callAt t d = none) (fun _ _ ht => callAt_seizeArea_none hde ht) l _ hplaced
    dsimp only
    split
    · exact hseized _
    · rw [callAt_runSteps_other _ _ hde, callAt_congr (writeRecord_calls _ _ _ _ _), callAt_putCall_other _ _ hde]
      exact hseized _

theorem callAt_growArea_none {a : AreaId} (hd : d ≠ 0) (h : callAt s d = none) : callAt (growArea s a) d = none := by
  unfold growArea
  split
  · exact h
  · exact ite_keeps (P := fun t => callAt t d = none) h
      (callAt_seizeArea_none hd ((callAt_putCall_other _ _ hd).trans h))

/-- Growing the evacuation call, or starting it, leaves the free entries free. -/
theorem callAt_askEvacuation_none (hd : d ≠ 0) (h : callAt s d = none) : callAt (askEvacuation s) d = none := by
  unfold askEvacuation
  dsimp only
  split
  · exact h
  · split
    · exact h
    · split
      · exact callAt_startAlarmCall_none _ _ _ hd h
      · exact foldl_keeps (P := fun t => callAt t d = none) (fun _ _ ht => callAt_growArea_none hd ht) _ _ h

theorem nonePending_growArea {a : AreaId} (h : NonePending s) : NonePending (growArea s a) := by
  unfold growArea
  split
  · exact h
  next c hc =>
    exact ite_keeps (P := NonePending) h (nonePending_seizeArea (s := putCall 0 (some { c with
      requested := c.requested ||| oneArea a }) s) h)

theorem nonePending_askEvacuation (h : NonePending s) : NonePending (askEvacuation s) := by
  unfold askEvacuation
  dsimp only
  split
  · exact h
  · split
    · exact h
    · split
      · exact nonePending_startAlarmCall _ _ _ _ h
      · exact foldl_keeps (P := NonePending) (fun _ _ ht => nonePending_growArea ht) _ _ h

end

/-! ### A growing evacuation call -/

/-- A call that has gained areas, asking for those it did not hold (R158). -/
def gained (c : Call) (x : AreaSet) : Call :=
  { c with requested := c.requested ||| (x &&& ~~~c.held), held := c.held ||| x }

theorem gained_zero (c : Call) : gained c 0 = c := by simp [gained]

theorem hasArea_and_not (x y : AreaSet) (a : AreaId) :
    hasArea (x &&& ~~~y) a = (hasArea x a && !hasArea y a) := by simp [hasArea]

/-- One more area, where the call holds it already. -/
theorem gained_held {c : Call} {x : AreaSet} {a : AreaId} (h : hasArea (c.held ||| x) a = true) :
    gained c (x ||| oneArea a) = gained c x := by
  have hrequested : c.requested ||| ((x ||| oneArea a) &&& ~~~c.held) = c.requested ||| (x &&& ~~~c.held) :=
    areaSet_ext fun b => by
      simp only [hasArea_or, hasArea_and_not, hasArea_oneArea] at h ⊢
      by_cases hb : b = a
      · subst hb
        rcases Bool.or_eq_true_iff.mp h with hheld | hx
        · simp [hheld]
        · simp [hx]
      · simp [hb]
  have hheld : c.held ||| (x ||| oneArea a) = c.held ||| x :=
    areaSet_ext fun b => by
      simp only [hasArea_or, hasArea_oneArea] at h ⊢
      by_cases hb : b = a
      · subst hb
        simpa using h
      · simp [hb]
  rw [gained, gained, hrequested, hheld]

/-- One more area, where the call does not hold it. -/
theorem gained_new {c : Call} {x : AreaSet} {a : AreaId} (h : hasArea (c.held ||| x) a = false) :
    gained c (x ||| oneArea a)
      = { c with requested := (c.requested ||| (x &&& ~~~c.held)) ||| oneArea a, held := (c.held ||| x) ||| oneArea a } := by
  have hrequested : c.requested ||| ((x ||| oneArea a) &&& ~~~c.held)
      = (c.requested ||| (x &&& ~~~c.held)) ||| oneArea a :=
    areaSet_ext fun b => by
      simp only [hasArea_or, hasArea_and_not, hasArea_oneArea, Bool.or_eq_false_iff] at h ⊢
      by_cases hb : b = a
      · subst hb
        simp [h.1]
      · simp [hb]
  rw [gained, hrequested, BitVec.or_assoc c.held]

section
variable {s : State} {c : Call} {x : AreaSet}

theorem growArea_gained {a : AreaId} (h : callAt s 0 = some (gained c x)) :
    callAt (growArea s a) 0 = some (gained c (x ||| oneArea a)) := by
  unfold growArea
  rw [h]
  dsimp only
  cases hheld : hasArea (gained c x).held a with
  | true => rw [if_pos rfl, h, gained_held hheld]
  | false =>
    rw [if_neg Bool.false_ne_true, callAt_seizeArea (callAt_putCall_same _ _ _), gained_new hheld]
    rfl

theorem growAreas_gained (l : List AreaId) (h : callAt s 0 = some (gained c x)) :
    callAt (l.foldl growArea s) 0 = some (gained c (l.foldl (fun set a => set ||| oneArea a) x)) := by
  induction l generalizing s x with
  | nil => exact h
  | cons a l ih => exact ih (growArea_gained h)

/-- Asked for, the evacuation call that runs holds every evacuation area (R158). -/
theorem askEvacuation_gained (hprogram : s.tables.alarm.evacProgram.toNat < 16)
    (hwithin : AreasWithin x s.effects.set.evacuation) (h : callAt s 0 = some (gained c x)) :
    callAt (askEvacuation s) 0 = some (gained c s.effects.set.evacuation) := by
  unfold askEvacuation
  dsimp only
  split
  next hnone =>
    have hx : x = 0 := areaSet_ext fun a => ⟨fun ha => hnone ▸ hwithin a ha, fun ha => nomatch (hasArea_zero a).symm.trans ha⟩
    rw [h, hx, hnone]
  next =>
    rw [programIdOf_of_val (p := ⟨_, hprogram⟩) rfl]
    dsimp only
    rw [h]
    dsimp only
    rw [growAreas_gained _ h, joined_of_within hwithin]

/-- Asked for, the evacuation call runs on every evacuation area: it starts, or it grows (R133, R158). -/
theorem askEvacuation_runs {p : ProgramId} (hprogram : s.tables.alarm.evacProgram.toNat = p.val)
    (hkind : s.tables.programs[p].steps[0].kind = 4) (hsome : s.effects.set.evacuation ≠ 0)
    (h : callAt s 0 = none ∨ ∃ x, AreasWithin x s.effects.set.evacuation ∧ RunsOn s 0 p .alarmEvac x) :
    RunsOn (askEvacuation s) 0 p .alarmEvac s.effects.set.evacuation := by
  rcases h with hfree | ⟨x, hwithin, c, hc, hp, ho, hrun, hrequested, hheld, hcursor⟩
  · unfold askEvacuation
    dsimp only
    rw [if_neg hsome, programIdOf_of_val hprogram]
    dsimp only
    rw [hfree]
    exact startAlarmCall_runs 0 .alarmEvac _ hkind
  · have hgained := askEvacuation_gained (s := s) (c := c) (by omega) (areasWithin_zero _) (by rwa [gained_zero])
    refine ⟨_, hgained, hp, ho, hrun, ?_, ?_, hcursor⟩
    · rw [gained, hrequested, hheld]
      refine areaSet_ext fun a => ?_
      have ha := hwithin a
      rw [hasArea_or, hasArea_and_not]
      cases hx : hasArea x a with
      | false => simp
      | true => simp [ha hx]
    · rw [gained, hheld]
      exact or_of_within hwithin

end

end Sys2Proof.Machine
end


section
/-! The calls that an assertion of PANEL-FIRE ends, starts and grows (R131, R133, R157, R158). -/

namespace Sys2Proof.Machine

/-! ### What is said of the calls, through the act -/

/-- Something said of the evacuation areas and of the calls that outlives more areas, the staff call's end and the asking
for the evacuation call. -/
structure FollowsFire (T : Tables) (R : AreaSet → State → Prop) : Prop where
  congr : ∀ {a s t}, R a s → t.calls = s.calls → R a t
  grow : ∀ {a a' s}, AreasWithin a a' → R a s → R a' s
  endStaff : ∀ {a s}, R a s → R a (endCall .alertOver 1 s)
  ask : ∀ {s : State}, s.tables = T → R s.effects.set.evacuation s → R s.effects.set.evacuation (askEvacuation s)

/-- Under PANEL-FIRE, something holds of the evacuation areas and of the calls. -/
def CallsInFire (T : Tables) (R : AreaSet → State → Prop) (s : State) : Prop := InFire T s ∧ R s.effects.set.evacuation s

theorem askEvacuation_effects (s : State) : (askEvacuation s).effects = s.effects :=
  askEvacuation_keeps (callsClosed_onlyTouches s) (onlyTouches_refl _ s) .effects (by decide)

section
variable {T : Tables} {R : AreaSet → State → Prop} (hR : FollowsFire T R) {s t : State}
include hR

theorem FollowsFire.congr_of (h : CallsInFire T R s) (hfire : InFire T t) (heffects : t.effects = s.effects)
    (hcalls : t.calls = s.calls) : CallsInFire T R t := ⟨hfire, by rw [heffects]; exact hR.congr h.2 hcalls⟩

theorem FollowsFire.set (h : CallsInFire T R s) :
    CallsInFire T R (s.withEffects { s.effects with set := currentSet s }) :=
  ⟨h.1.set, hR.congr (s := s) (hR.grow h.1.within.areas h.2) rfl⟩

theorem FollowsFire.endStaff_of (h : CallsInFire T R s) : CallsInFire T R (endCall .alertOver 1 s) :=
  ⟨endCall_keeps (inFire_calls T) _ _ h.1, by rw [(shrinks_endCall _ _ s).effects]; exact hR.endStaff h.2⟩

theorem FollowsFire.blaze : Blaze T (fun _ => True) (CallsInFire T R) where
  inFire h := h.1
  old _ := trivial
  record k a b c h := hR.congr_of h (h.1.record k a b c) (writeRecord_effects _ _ _ _ _) (writeRecord_calls _ _ _ _ _)
  zone _ _ hf h := hR.congr_of h (h.1.updZone hf) rfl rfl
  set h := hR.set h
  endStaff h := hR.endStaff_of h
  marks _ _ h _ := hR.congr_of h (h.1.congr rfl rfl rfl rfl) rfl rfl
  ask {s} h := ⟨askEvacuation_keeps (inFire_calls T) h.1, by rw [askEvacuation_effects]; exact hR.ask h.1.tables h.2⟩

theorem FollowsFire.governor : GovernorClosed T (CallsInFire T R) where
  record k a b c h := hR.congr_of h (h.1.record k a b c) (writeRecord_effects _ _ _ _ _) (writeRecord_calls _ _ _ _ _)
  offer q f h := hR.congr_of h ((inFire_calls T).offer q f h.1) (offer_effects _ _ _) (offer_calls _ _ _)
  tables h := h.1.tables
  curtain _ _ h := hR.congr_of h (h.1.congr rfl rfl rfl rfl) rfl rfl
  testValid _ h := hR.congr_of h (h.1.congr rfl rfl rfl rfl) rfl rfl
  notice h := ⟨h.1.congr rfl rfl rfl rfl, hR.congr h.2 rfl⟩

theorem FollowsFire.deliverCurtain (h : CallsInFire T R s) : CallsInFire T R (deliverCurtain s) :=
  hR.blaze.deliverCurtain hR.governor (fun h => hR.congr_of h (h.1.congr rfl rfl rfl rfl) rfl rfl) h

/-- A delivery ends with the evacuation call asked for. -/
theorem FollowsFire.deliver {R' : AreaSet → State → Prop}
    (hask : ∀ {s : State}, s.tables = T → R s.effects.set.evacuation s → R' s.effects.set.evacuation (askEvacuation s))
    (old : EffectSet) (h : CallsInFire T R s) : CallsInFire T R' (deliver Machine.deliverCurtain old s) := by
  have hgoverned : CallsInFire T R (if s.effects.set.curtain then Machine.deliverCurtain s else s) :=
    ite_keeps (hR.deliverCurtain h) h
  unfold Machine.deliver
  dsimp only
  generalize (if s.effects.set.curtain then Machine.deliverCurtain s else s) = t at hgoverned
  have hmarked : CallsInFire T R (if t.effects.set.stageSafe && !old.stageSafe then markGuards t else t) :=
    ite_keeps (hR.congr_of hgoverned (hgoverned.1.congr rfl rfl rfl rfl) rfl rfl) hgoverned
  generalize (if t.effects.set.stageSafe && !old.stageSafe then markGuards t else t) = u at hmarked
  exact ⟨askEvacuation_keeps (inFire_calls T) hmarked.1, by
    rw [askEvacuation_effects]; exact hask hmarked.1.tables hmarked.2⟩

end

theorem CallsInFire.of_ablaze {R : AreaSet → State → Prop} {s : State}
    (h : R (currentSet (firePlaced s)).evacuation (ablaze s)) : CallsInFire s.tables R (ablaze s) :=
  ⟨inFire_ablaze s, by rw [ablaze_set]; exact h⟩

theorem ablaze_calls (s : State) : (ablaze s).calls = s.calls := ablaze_touches s .calls (by decide)

/-! ### No other call -/

/-- No call waits, and none runs but the evacuation call. -/
def NoneButEvacuation (_ : AreaSet) (s : State) : Prop := NonePending s ∧ ∀ e : EntryId, e ≠ 0 → callAt s e = none

theorem noneButEvacuation_follows (T : Tables) : FollowsFire T NoneButEvacuation where
  congr h hcalls := ⟨(congrArg CallState.pendingList hcalls).trans h.1, fun e he => (callAt_congr hcalls e).trans (h.2 e he)⟩
  grow _ h := h
  endStaff h := ⟨nonePending_shrinks h.1 (shrinks_endCall _ _ _), fun e he => (shrinks_endCall _ _ _).none (h.2 e he)⟩
  ask _ h := ⟨nonePending_askEvacuation h.1, fun e he => callAt_askEvacuation_none he (h.2 e he)⟩

section
variable {s : State}

/-- Before the windows close, the staff call and the ordinary calls have ended (R131). -/
theorem suppressed_noneButEvacuation (hpending : PendingLaw s.calls) :
    CallsInFire s.tables NoneButEvacuation (suppressOrdinary (endCall .alertOver 1 (ablaze s))) := by
  have hended : PendingLaw (endCall .alertOver 1 (ablaze s)).calls :=
    pendingLaw_shrinks (by rwa [ablaze_calls]) (shrinks_endCall _ _ _)
  refine ⟨suppressOrdinary_keeps (inFire_calls _) (endCall_keeps (inFire_calls _) _ _ (inFire_ablaze s)),
    suppressOrdinary_unlisted hended, fun e he => ?_⟩
  by_cases hone : e = 1
  · subst hone
    exact (shrinks_suppressOrdinary _).none (callAt_endCall_same _ _ _)
  · have hzero : e.val ≠ 0 := fun h => he (Fin.ext h)
    have hnotOne : e.val ≠ 1 := fun h => hone (Fin.ext h)
    exact suppressOrdinary_noOrdinary hended e (by omega)

theorem fire_noneButEvacuation (hstage : s.effects.stage ≠ .evacuate) (hpending : PendingLaw s.calls) :
    CallsInFire s.tables NoneButEvacuation (handOver false (firePlaced s)) := by
  have hR := noneButEvacuation_follows s.tables
  have hrisen : CallsInFire s.tables NoneButEvacuation (fireRisen s) := by
    rw [fireRisen, if_neg hstage]
    exact hR.blaze.closeWindows (fun h => hR.deliverCurtain h) _ (suppressed_noneButEvacuation hpending)
  rw [handOver_firePlaced]
  exact hR.blaze.follow (ite_keeps hrisen (hR.blaze.deliver (fun h => hR.deliverCurtain h) trivial hrisen))

end

/-! ### A running evacuation call grows -/

/-- No call waits, and the evacuation call has gained some of the evacuation areas. -/
def Gaining (c : Call) (a : AreaSet) (s : State) : Prop :=
  NonePending s ∧ ∃ x, AreasWithin x a ∧ callAt s 0 = some (gained c x)

/-- No call waits, and the evacuation call has gained all of them. -/
def Gained (c : Call) (a : AreaSet) (s : State) : Prop := NonePending s ∧ callAt s 0 = some (gained c a)

theorem gaining_asked {c : Call} {s : State} (hprogram : s.tables.alarm.evacProgram.toNat < 16)
    (h : Gaining c s.effects.set.evacuation s) : Gained c s.effects.set.evacuation (askEvacuation s) :=
  have ⟨hpending, _, hwithin, hcall⟩ := h
  ⟨nonePending_askEvacuation hpending, askEvacuation_gained hprogram hwithin hcall⟩

theorem gaining_follows {T : Tables} (hprogram : T.alarm.evacProgram.toNat < 16) (c : Call) :
    FollowsFire T (Gaining c) where
  congr h hcalls :=
    have ⟨hpending, x, hwithin, hcall⟩ := h
    ⟨(congrArg CallState.pendingList hcalls).trans hpending, x, hwithin, (callAt_congr hcalls 0).trans hcall⟩
  grow hw h :=
    have ⟨hpending, x, hwithin, hcall⟩ := h
    ⟨hpending, x, hwithin.trans hw, hcall⟩
  endStaff h :=
    have ⟨hpending, x, hwithin, hcall⟩ := h
    ⟨nonePending_shrinks hpending (shrinks_endCall _ _ _), x, hwithin,
      (callAt_endCall_other _ _ (by decide)).trans hcall⟩
  ask htables h :=
    have ⟨hpending, hcall⟩ := gaining_asked (by rw [htables]; exact hprogram) h
    ⟨hpending, _, areasWithin_refl _, hcall⟩

theorem fire_gained {s : State} {c : Call} (hprogram : s.tables.alarm.evacProgram.toNat < 16)
    (hstage : s.effects.stage = .evacuate) (hcall : callAt s 0 = some c) (hpending : NonePending s)
    (hgrows : currentSet (firePlaced s) ≠ s.effects.set) :
    CallsInFire s.tables (Gained c) (handOver false (firePlaced s)) := by
  have hR := gaining_follows hprogram c
  have hablaze : CallsInFire s.tables (Gaining c) (ablaze s) := .of_ablaze
    ⟨(congrArg CallState.pendingList (ablaze_calls s)).trans hpending, 0, areasWithin_zero _, by
      rw [gained_zero, callAt_congr (ablaze_calls s), hcall]⟩
  rw [handOver_firePlaced, if_neg hgrows, fireRisen, if_pos hstage, followInvestigation_false]
  obtain ⟨hfire, hnone, hgained⟩ := hR.deliver
    (fun htables h => gaining_asked (by rw [htables]; exact hprogram) h) s.effects.set hablaze
  refine ite_keeps ⟨endCall_keeps (inFire_calls _) _ _ hfire, ?_, ?_⟩ ⟨hfire, hnone, hgained⟩
  · exact nonePending_shrinks hnone (shrinks_endCall _ _ _)
  · rw [callAt_endCall_other _ _ (by decide), hgained, (shrinks_endCall _ _ _).effects]

/-! ### The evacuation call starts -/

/-- The evacuation call has not started, or it runs on some of the evacuation areas. -/
def Starting (p : ProgramId) (a : AreaSet) (s : State) : Prop :=
  callAt s 0 = none ∨ ∃ x, AreasWithin x a ∧ RunsOn s 0 p .alarmEvac x

/-- The evacuation call runs on every evacuation area there is. -/
def Evacuates (p : ProgramId) (a : AreaSet) (s : State) : Prop :=
  Starting p a s ∧ (a ≠ 0 → RunsOn s 0 p .alarmEvac a)

section
variable {p : ProgramId} {a : AreaSet} {s t : State}

theorem RunsOn.congr {e : EntryId} {o : Origin} (h : RunsOn s e p o a) (hcall : callAt t e = callAt s e) :
    RunsOn t e p o a := by
  rw [RunsOn, hcall]
  exact h

theorem Starting.congr (h : Starting p a s) (hcall : callAt t 0 = callAt s 0) : Starting p a t := by
  rcases h with hfree | ⟨x, hwithin, hruns⟩
  · exact .inl (hcall.trans hfree)
  · exact .inr ⟨x, hwithin, hruns.congr hcall⟩

theorem Evacuates.congr (h : Evacuates p a s) (hcall : callAt t 0 = callAt s 0) : Evacuates p a t :=
  ⟨h.1.congr hcall, fun ha => (h.2 ha).congr hcall⟩

theorem Starting.grow {a' : AreaSet} (hw : AreasWithin a a') (h : Starting p a s) : Starting p a' s :=
  h.imp_right fun ⟨x, hwithin, hruns⟩ => ⟨x, hwithin.trans hw, hruns⟩

theorem callAt_endStaff (s : State) : callAt (endCall .alertOver 1 s) 0 = callAt s 0 :=
  callAt_endCall_other _ _ (by decide)

/-- The tables' evacuation program is a program whose first step is a WAIT. -/
def EvacuationProgram (T : Tables) (p : ProgramId) : Prop :=
  T.alarm.evacProgram.toNat = p.val ∧ T.programs[p].steps[0].kind = 4

theorem starting_asked (hprogram : EvacuationProgram s.tables p) (h : Starting p s.effects.set.evacuation s) :
    Evacuates p s.effects.set.evacuation (askEvacuation s) := by
  by_cases hnone : s.effects.set.evacuation = 0
  · rw [askEvacuation, if_pos hnone]
    exact ⟨h, fun hsome => absurd hnone hsome⟩
  · have hruns := askEvacuation_runs hprogram.1 hprogram.2 hnone h
    exact ⟨.inr ⟨_, areasWithin_refl _, hruns⟩, fun _ => hruns⟩

theorem starting_follows {T : Tables} (hprogram : EvacuationProgram T p) : FollowsFire T (Starting p) where
  congr h hcalls := h.congr (callAt_congr hcalls 0)
  grow hw h := h.grow hw
  endStaff h := h.congr (callAt_endStaff _)
  ask htables h := (starting_asked (by rw [htables]; exact hprogram) h).1

theorem evacuates_calls {T : Tables} (h : CallsInFire T (Evacuates p) s) (hfire : InFire T t) (heffects : t.effects = s.effects)
    (hcall : callAt t 0 = callAt s 0) : CallsInFire T (Evacuates p) t :=
  ⟨hfire, by rw [heffects]; exact h.2.congr hcall⟩

theorem evacuates_follow {T : Tables} (h : CallsInFire T (Evacuates p) s) :
    CallsInFire T (Evacuates p) (followInvestigation false s) := by
  rw [followInvestigation_false]
  exact ite_keeps (evacuates_calls h (endCall_keeps (inFire_calls T) _ _ h.1) (shrinks_endCall _ _ s).effects
    (callAt_endStaff s)) h

variable {T : Tables} (hprogram : EvacuationProgram T p)
include hprogram

theorem deliver_evacuates (old : EffectSet) (h : CallsInFire T (Starting p) s) :
    CallsInFire T (Evacuates p) (deliver deliverCurtain old s) :=
  (starting_follows hprogram).deliver (fun htables h => starting_asked (by rw [htables]; exact hprogram) h) old h

/-- A hand-over inside the act leaves the evacuation call running on every evacuation area. -/
theorem handOverInRise_evacuates (h : CallsInFire T (Evacuates p) s) :
    CallsInFire T (Evacuates p) (handOverInRise false s) := by
  unfold handOverInRise
  rw [h.1.handOverWith]
  refine evacuates_follow ?_
  split
  next hset => exact ⟨h.1.set, by rw [withEffects_effects, hset]; exact h.2.congr rfl⟩
  next => exact deliver_evacuates hprogram _ ((starting_follows hprogram).set ⟨h.1, h.2.1⟩)

theorem closeWindows_evacuates (cause : CloseCause) (h : CallsInFire T (Evacuates p) s) :
    CallsInFire T (Evacuates p) (closeWindows handOverInRise cause s) :=
  (monitorClosed_of_inFire (P := CallsInFire T (Evacuates p)) (fun h => h.1)
    (fun k a b c h => evacuates_calls h (h.1.record k a b c) (writeRecord_effects _ _ _ _ _)
      (callAt_congr (writeRecord_calls _ _ _ _ _) 0))
    (fun _ _ hf h => evacuates_calls h (h.1.updZone hf) rfl rfl)
    fun h => handOverInRise_evacuates hprogram h).closeWindows cause h

end

theorem set_of_noAlarm {s : State} (hlaw : AlarmLaw s) (hstage : s.effects.stage ≠ .evacuate) :
    s.effects.set = emptyEffects := by
  rw [hlaw.1]
  exact effectSetOf_of_noAlarm (noAlarm_of_stage hlaw hstage)

theorem fire_evacuates {s : State} {p : ProgramId} (hprogram : EvacuationProgram s.tables p) (hlaw : AlarmLaw s)
    (hstage : s.effects.stage ≠ .evacuate) (hfree : callAt s 0 = none) :
    CallsInFire s.tables (Evacuates p) (handOver false (firePlaced s)) := by
  have hR := starting_follows hprogram
  have hcalm : callAt (suppressOrdinary (endCall .alertOver 1 (ablaze s))) 0 = none :=
    (shrinks_suppressOrdinary _).none ((shrinks_endCall _ _ _).none ((callAt_congr (ablaze_calls s) 0).trans hfree))
  have hfire : InFire s.tables (suppressOrdinary (endCall .alertOver 1 (ablaze s))) :=
    suppressOrdinary_keeps (inFire_calls _) (endCall_keeps (inFire_calls _) _ _ (inFire_ablaze s))
  rw [handOver_firePlaced, fireRisen, if_neg hstage]
  refine evacuates_follow ?_
  split
  next hset =>
    refine closeWindows_evacuates hprogram _ ⟨hfire, .inl hcalm, fun hsome => absurd ?_ hsome⟩
    rw [(shrinks_suppressOrdinary _).effects, (shrinks_endCall _ _ _).effects, ablaze_set, hset,
      set_of_noAlarm hlaw hstage]
    rfl
  next => exact deliver_evacuates hprogram _ (hR.blaze.closeWindows (fun h => hR.deliverCurtain h) _ ⟨hfire, .inl hcalm⟩)

/-! ### The calls of an assertion -/

theorem callAt_endAct {s : State} (hnone : NonePending s) (e : EntryId) : callAt (endAct s) e = callAt s e := by
  rw [callAt, endAct_calls, settle_of_noPending hnone]
  rfl

section
variable {s : State}

theorem fired_noneButEvacuation (hstage : s.effects.stage ≠ .evacuate) (hpending : PendingLaw s.calls) :
    CallsInFire s.tables NoneButEvacuation (fired s) := fire_noneButEvacuation (s := withPanelFire s) hstage hpending

theorem fired_evacuates {p : ProgramId} (hprogram : EvacuationProgram s.tables p) (hlaw : AlarmLaw s)
    (hstage : s.effects.stage ≠ .evacuate) (hfree : callAt s 0 = none) : CallsInFire s.tables (Evacuates p) (fired s) :=
  fire_evacuates (s := withPanelFire s) hprogram hlaw hstage hfree

/-- Where zone 65 adds an evacuation area, the running call gains every area it lacks. -/
theorem fired_gained {c : Call} (hprogram : s.tables.alarm.evacProgram.toNat < 16) (hstage : s.effects.stage = .evacuate)
    (hcall : callAt s 0 = some c) (hpending : NonePending s)
    (hadds : ∃ a : AreaId, (rowOf s 65).evacuation.getLsbD a.val = true
      ∧ s.effects.set.evacuation.getLsbD a.val = false) :
    CallsInFire s.tables (Gained c) (fired s) := by
  refine fire_gained (s := withPanelFire s) hprogram hstage hcall hpending fun hsame => ?_
  obtain ⟨a, hrow, hnot⟩ := hadds
  have hadded := (currentSet_evacuation_iff (firePlaced (withPanelFire s)) a.val).mpr
    ⟨65, firePlaced_inAlarm _, by rw [firePlaced_tables]; exact hrow⟩
  rw [hsame] at hadded
  exact absurd (hnot.symm.trans hadded) Bool.false_ne_true

end

theorem endAct_set (s : State) : (endAct s).effects.set = s.effects.set := by rw [endAct_effects]

/-- The calls of an assertion of PANEL-FIRE, by what each delivery and each closing of the act does to them. -/
theorem evacuationCalls : Parts.EvacuationCalls := by
  intro s hlaw hline hzone
  refine ⟨fun hstage hpending => ⟨_, exec_fired hline hzone, ?_⟩,
    fun c hstage hcall hpending hprogram hadds => ⟨_, exec_fired hline hzone, ?_⟩⟩
  · obtain ⟨-, hnone, hfree⟩ := fired_noneButEvacuation hstage hpending
    have hevacuates {p : ProgramId} (hprogram : EvacuationProgram s.tables p) (hnew : callAt s 0 = none) :=
      fired_evacuates hprogram hlaw hstage hnew
    generalize fired s = u at hnone hfree hevacuates
    refine ⟨(callAt_endAct hnone 1).trans (hfree 1 (by decide)), fun e he => (callAt_endAct hnone e).trans (hfree e ?_),
      ?_, fun p hnew hsome hprogram hkind => ?_⟩
    · rintro rfl
      exact absurd he (by decide)
    · rw [endAct_calls, settle_of_noPending hnone]
      exact hnone
    · obtain ⟨-, -, hruns⟩ := hevacuates ⟨hprogram, hkind⟩ hnew
      rw [endAct_set] at hsome ⊢
      exact endAct_runsOn hnone (hruns hsome)
  · obtain ⟨-, hnone, hgained⟩ := fired_gained hprogram hstage hcall hpending hadds
    generalize fired s = u at hnone hgained
    dsimp only
    rw [callAt_endAct hnone, endAct_set]
    exact hgained

end Sys2Proof.Machine
end


section
/-! PANEL-FIRE closed through a reset (R123, R138): taken as the tables take force, it finds fresh zones, no window and a
curtain that waits, and changes zone 65 and the ALARM demand alone among them. -/

namespace Sys2Proof.Machine

/-! ### A hand-over that finds no window and a waiting curtain -/

theorem closeWindows_shut {ho : HandOver} (cause : CloseCause) {s : State} (h : ∀ z, (zoneAt s z).window = none) :
    closeWindows ho cause s = s := by
  have hstep (z : ZoneId) : closeWindow ho cause s z = s := if_pos (by rw [h z]; rfl)
  exact foldl_keeps (P := fun t => t = s) (fun t z ht => by rw [ht, hstep]) _ s rfl

/-- The zones are given ones, and the curtain is UNKNOWN with START among its demands and no test. -/
def CurtainWaits (m : ZoneMonitor) (s : State) : Prop :=
  s.monitor = m ∧ s.curtain.state = .unknown ∧ s.curtain.demands.start = true ∧ s.curtain.test.status = .empty

theorem curtainWaits_calls (m : ZoneMonitor) : CallsClosed (CurtainWaits m) where
  record _ _ _ _ h := by rwa [CurtainWaits, writeRecord_monitor, writeRecord_curtain]
  offer _ _ h := by rwa [CurtainWaits, offer_monitor, offer_curtain]
  calls _ h := h

theorem curtainWaits_effects (m : ZoneMonitor) : EffectsClosed (CurtainWaits m) :=
  effectsClosed_of_calls (curtainWaits_calls m) (fun _ h => h) (fun _ h => h)

theorem curtainWaits_deliverCurtain {m : ZoneMonitor} {s : State} (h : CurtainWaits m s) :
    CurtainWaits m (deliverCurtain s) := by
  obtain ⟨hmonitor, hstate, hstart, htest⟩ := h
  have hany : s.curtain.demands.any = true := by simp [Demands.any, hstart]
  have hjoined : addDemand (report64 handOverInDelivery) .alarm s
      = updCurtain (fun c => { c with demands := c.demands.insert .alarm }) s := if_pos hany
  have hstalled : stalledFault (updCurtain (fun c => { c with demands := c.demands.insert .alarm }) s) = false := by
    simp [stalledFault, updCurtain, hstate]
  unfold deliverCurtain addAlarm
  refine ite_keeps (P := CurtainWaits m) ⟨hmonitor, hstate, hstart, htest⟩ ?_
  rw [closeTest_of_notRunning s false none (by rw [htest]; decide), hjoined]
  dsimp only
  rw [hstalled, if_neg Bool.false_ne_true]
  exact ⟨hmonitor, hstate, hstart, htest⟩

theorem curtainWaits_handOver {m : ZoneMonitor} (hshut : ∀ z : ZoneId, m.zones[z].window = none) (b : Bool) {s : State}
    (h : CurtainWaits m s) : CurtainWaits m (handOver b s) := by
  refine handOverWith_keeps (curtainWaits_effects m) (fun h => ?_) (fun h => curtainWaits_deliverCurtain h) b h
  have hcalm := suppressOrdinary_keeps (curtainWaits_calls m) (endCall_keeps (curtainWaits_calls m) .alertOver 1 h)
  rw [riseToEvacuate, closeWindows_shut _ fun z => by rw [zoneAt, hcalm.1]; exact hshut z]
  exact hcalm

/-! ### PANEL-FIRE taken in a state fresh from a reset -/

/-- The zones, the curtain, the effects and PANEL-TX are as a reset leaves them (R71, R102, R126, R170). -/
structure FreshFromReset (s : State) : Prop where
  zones : s.monitor.zones = Vector.replicate 66 freshZone
  link : s.monitor.link = .awaiting
  curtain : s.curtain = freshCurtain s.tables
  effects : s.effects = freshEffects
  panelTx : s.links.queues[QueueId.panelTx.ix].frames = []

section
variable {s : State} (h : FreshFromReset s)
include h

theorem FreshFromReset.zone (z : ZoneId) : zoneAt s z = freshZone := zoneAt_fresh h.zones z

theorem FreshFromReset.demandLawful : DemandLawful s := by
  refine ⟨alarmLaw_of_fresh h.zones h.link ?_ ?_, ?_⟩
  · rw [h.effects]
    rfl
  · rw [h.effects]
    rfl
  · rw [DemandLaw, h.curtain, h.effects]
    rfl

theorem FreshFromReset.zoneAt_firePlaced (z : ZoneId) : zoneAt (firePlaced s) z
    = if z = 65 then { freshZone with state := .alarm } else freshZone := by
  rw [firePlaced, zoneAt_congr (writeRecord_monitor _ _ _ _ _)]
  by_cases hz : z = 65
  · subst hz
    rw [zoneAt_updZone_same, h.zone 65]
    rfl
  · rw [zoneAt_updZone_other _ _ hz, h.zone z, if_neg hz]

theorem FreshFromReset.shut (z : ZoneId) : (zoneAt (firePlaced s) z).window = none := by
  rw [h.zoneAt_firePlaced z]
  split
  · rfl
  · rfl

theorem FreshFromReset.waits : CurtainWaits (firePlaced s).monitor (firePlaced s) := by
  have hcurtain : (firePlaced s).curtain = freshCurtain s.tables :=
    (firePlaced_touches s .curtain (by decide)).trans h.curtain
  rw [CurtainWaits, hcurtain]
  exact ⟨rfl, rfl, rfl, rfl⟩

theorem FreshFromReset.fire_eq : panelFire handOver s = handOver false (firePlaced s) :=
  enterState_fire s (by rw [h.zone 65]; decide)

/-- The other zones stay fresh, and the curtain waits. -/
theorem FreshFromReset.fire_waits : CurtainWaits (firePlaced s).monitor (panelFire handOver s) := by
  rw [h.fire_eq]
  exact curtainWaits_handOver h.shut false h.waits

theorem FreshFromReset.zoneAt_fire (z : ZoneId) : zoneAt (panelFire handOver s) z
    = if z = 65 then { freshZone with state := .alarm } else freshZone :=
  (zoneAt_congr h.fire_waits.1 z).trans (h.zoneAt_firePlaced z)

/-- The laws of the alarm and of its demand hold of the act. -/
theorem FreshFromReset.fire_lawful : On s.tables DemandLawful (panelFire handOver s) :=
  (demandLaw_rules s.tables).enterAlarm 65 ⟨rfl, h.demandLawful⟩

theorem FreshFromReset.fire_stage : (panelFire handOver s).effects.stage = .evacuate :=
  stage_of_inAlarm h.fire_lawful.2.1 (enterAlarm_inAlarm 65 s)

/-- ALARM is a demand exactly where the row of zone 65 calls for the curtain (R78, R132). -/
theorem FreshFromReset.fire_demand : (panelFire handOver s).curtain.demands.alarm
    = decide (s.tables.response[(65 : ZoneId)].curtainDrop = 1) := by
  obtain ⟨htables, hlaw, hdemand⟩ := h.fire_lawful
  refine Bool.eq_iff_iff.mpr ?_
  rw [hdemand, set_curtain_iff hlaw, decide_eq_true_iff, CurtainCalled, htables]
  refine ⟨fun ⟨z, hz, hrow⟩ => ?_, fun hrow => ⟨65, enterAlarm_inAlarm 65 s, hrow⟩⟩
  by_cases h65 : z = 65
  · rwa [h65] at hrow
  · rw [InAlarm, h.zoneAt_fire z, if_neg h65] at hz
    cases hz

theorem FreshFromReset.fire_lines : (panelFire handOver s).lines = s.lines := by
  rw [h.fire_eq]
  exact (handOver_onlyTouches false _ .lines (by decide)).trans (firePlaced_touches s .lines (by decide))

/-- One notice follows (R138). -/
theorem FreshFromReset.fire_notice (hroom : 12 ≤ queueSize s.tables .panelTx) :
    (endAct (panelFire handOver s)).links.queues[QueueId.panelTx.ix].frames
      = [noticeOf s.tables (endAct (panelFire handOver s))] := by
  have hnoticed : Noticed s (endAct (panelFire handOver s)) :=
    ((panelSilent_untold s).enterStateWith (fun b _ h => (panelSilent_untold s).handOver b h) 65 .alarm
      (untold_refl s)).endAct
  have hfree : 12 ≤ freeBytes s.tables s.links .panelTx := by
    rw [freeBytes, occupied, h.panelTx]
    exact hroom
  have hmoved : ¬SameNotice s (endAct (panelFire handOver s)) := fun hsame => by
    obtain ⟨-, hstage, -⟩ := hsame
    rw [endAct_effects] at hstage
    dsimp only at hstage
    rw [h.fire_stage, h.effects] at hstage
    cases hstage
  rw [(hnoticed hmoved).1 hfree, h.panelTx]
  rfl

end

/-- The state fresh from a reset with its lines as they stand. -/
theorem resetBlocks_fresh (cause : ResetCause) (pending : List Instr) (lines : Lines) (store : Store) :
    FreshFromReset (resetBlocks cause pending lines store) where
  zones := rfl
  link := rfl
  curtain := rfl
  effects := rfl
  panelTx := by
    have hlinks : (resetBlocks cause pending lines store).links
        = freshLinks (loadedTables store.image) cause (imageGood store.image) := rfl
    rw [hlinks, freshLinks_queue, if_neg fun hq => absurd hq.1 (by decide)]

/-- The lines taken where PANEL-FIRE is asserted alone. -/
theorem takeLines_fire {s : State} (hfresh : FreshFromReset s) (hin : s.lines.limitIn = false)
    (hout : s.lines.limitOut = false) (hslow : s.lines.slowSw = false) (hrelease : s.lines.stageRelease = false)
    (hline : s.lines.panelFire = true) : takeLines s = endAct (panelFire handOver s) := by
  have hlines := hfresh.fire_lines
  have htravel : takeTravel (panelFire handOver s) = panelFire handOver s :=
    takeTravel_released (by rw [hlines, hin]) (by rw [hlines, hout]) (by rw [hlines, hslow])
  rw [takeLines, hline, if_pos rfl, htravel, hlines, hrelease, if_neg Bool.false_ne_true]

/-- PANEL-FIRE closed through a reset, by its one act on a fresh state. -/
theorem panelFireThroughReset : Parts.PanelFireThroughReset := by
  intro s hin hout hslow hrelease hline
  have hfresh := resetBlocks_fresh .powerOn s.pending { s.lines with reset := false } (abandonWrite s.store)
  have hexec : exec .powerOn s
      = .next (takeLines (resetBlocks .powerOn s.pending { s.lines with reset := false } (abandonWrite s.store))) := rfl
  have htaken := takeLines_fire hfresh hin hout hslow hrelease hline
  rw [htaken] at hexec
  refine ⟨_, hexec, ?_⟩
  generalize resetBlocks .powerOn s.pending { s.lines with reset := false } (abandonWrite s.store) = r at hfresh
  obtain ⟨hmonitor, hcurtain, -⟩ := hfresh.fire_waits
  have hzones (z : ZoneId) : zoneAt (endAct (panelFire handOver r)) z = zoneAt (panelFire handOver r) z :=
    zoneAt_congr (endAct_monitor _) z
  have hstage : (endAct (panelFire handOver r)).effects.stage = .evacuate := by
    rw [endAct_effects]
    exact hfresh.fire_stage
  have hstate : (endAct (panelFire handOver r)).curtain.state = .unknown := by
    rw [endAct_curtain]
    exact hcurtain
  have htables : (endAct (panelFire handOver r)).tables = r.tables := (endAct_tables _).trans hfresh.fire_lawful.1
  refine ⟨?_, hstage, fun z hz => ?_, hstate, ?_, fun hroom => ?_⟩
  · rw [hzones]
    exact enterAlarm_inAlarm 65 r
  · rw [hzones, hfresh.zoneAt_fire z, if_neg hz]
  · rw [htables, endAct_curtain]
    exact hfresh.fire_demand
  · rw [htables] at hroom ⊢
    rw [hfresh.fire_notice hroom, noticeOf, hstage, hstate]
    rfl

/-- Settles O41, by the hand-over of zone 65's entry to ALARM: what each delivery and each closing of the act does to the
zones, the curtain, the guards and the calls. -/
theorem panelFireTaken : Obligations.PanelFireTaken := by
  unfold Obligations.PanelFireTaken
  exact ⟨panelFireAlarms, panelFireThroughReset, evacuationCalls, guardsFollowAlarm⟩

end Sys2Proof.Machine
end
